-- ==== Sys2Proof/Word.lean ====
section
/-! DEFINITION. The word types of the part: bytes on its lines, and the 32-bit millisecond count (R193). -/

namespace Sys2Proof

/-- One character of a line, one byte of a body or of the profile memory. -/
abbrev Byte := BitVec 8

/-- A millisecond count: 32 bits wide, wrapping (R193). -/
abbrev Millis := BitVec 32

/-- A set of the ten notice flags, each at the bit R202 gives it. -/
abbrev FlagSet := BitVec 16

end Sys2Proof
end

