-- ==== Sys2Proof/Config.lean ====
section
/-! DEFINITION. The fixed sizes and intervals of the part, each with the rule that states it. -/

namespace Sys2Proof.Config

/-- Counts stop here: R102, R177 and R180 state 65,535, R202 gives two bytes to every count (log 12). -/
def countMax : Nat := 65535
/-- Bytes of a Control Line body at most (R180). -/
def bodyMax : Nat := 240
/-- Places in the outstanding-request list (R181). -/
def requestsMax : Nat := 8
/-- Entries of the take queue at most (R79). -/
def queueMax : Nat := 32
/-- Places of the Router Line window (R81). -/
def windowPlaces : Nat := 2
/-- Consecutive timeouts that take the Router Line DOWN (R89). -/
def routerTimeouts : Nat := 3
/-- Pairs the salvo pool holds (R69). -/
def poolPairs : Nat := 1024
/-- Pairs of one salvo at most (R69). -/
def salvoPairs : Nat := 64
/-- Causes the cause pool holds (R150). -/
def causesMax : Nat := 2048
/-- Entries the path table holds (R152). -/
def entriesMax : Nat := 768
/-- Standing path slots (R147). -/
def slots : Nat := 128
/-- Ports of a group at most (R145). -/
def groupMax : Nat := 32
/-- GAINs outstanding at most (R170). -/
def gainsMax : Nat := 4
/-- Consecutive timeouts that take the Matrix Line DOWN (R172). -/
def matrixTimeouts : Nat := 8
/-- Cargos the inbound buffer stores at most (R25). -/
def inboundMax : Nat := 4
/-- Entries of one LAMPS cargo at most (R20). -/
def lampsMax : Nat := 16
/-- Keys of a panel record (R32). -/
def keysMax : Nat := 32
/-- The CHECKING window in milliseconds (R9). -/
def checkingMs : Nat := 400
/-- A refusal indication in milliseconds (R49). -/
def refusalMs : Nat := 1000
/-- The Router Line probe period in milliseconds (R90). -/
def routerProbeMs : Nat := 1000
/-- The PING period in milliseconds (R174). -/
def pingMs : Nat := 250
/-- A call's phase in milliseconds (R136). -/
def phaseMs : Nat := 125
/-- Hops of a tally walk at most (R118). -/
def hopsMax : Nat := 4
/-- Sections a walk reaches at most (R196). -/
def sectionsMax : Nat := 32
/-- Bytes of the profile memory (chapter 11). -/
def memoryBytes : Nat := 32768
/-- Bytes of one write transfer at most (chapter 11, "Transfer"). -/
def writeBytes : Nat := 64
/-- Unacknowledged addressings that fail a transfer (R197). -/
def addressTries : Nat := 21
/-- DESIGN CHOICE, unsafe: what a profile memory byte that nothing has written reads as (log 3). -/
def blankByte : Byte := 0xFF
/-- The vendor, part and revision codes of IDENTIFY (R203). -/
def identity : List Byte := [0x1C, 0x4B, 0x36, 0x20, 0x01]
/-- The four bytes of the image's magic value (R206). -/
def magic : List Byte := [0x4D, 0x4A, 0x36, 0x32]

end Sys2Proof.Config
end

