-- ==== Sys2Proof/Syntax.lean ====
section
/-! DEFINITION. The commands of the part: one constructor for each row of spec/opcode_table.json, in the table's order. -/

namespace Sys2Proof

/-- The two production mixers (R100). -/
inductive Mixer where
  | a | b
  deriving DecidableEq, Repr

/-- The eleven blocks of the part (00_scope.md). -/
inductive Block where
  | cp | pbc | kd | rc | mm | tr | ld | te | ml | tb | pm
  deriving DecidableEq, Repr

/-- Who reports to TR (R120). -/
inductive TrSource where
  | mm | rc
  deriving DecidableEq, Repr

/-- Who reports image changes to KD (R52). -/
inductive KdSource where
  | tr | te | rc
  deriving DecidableEq, Repr

/-- A clean Panel Bus frame of a kind with no command of its own, heard by the hub: it is activity, and R9 examines it. -/
inductive BusOther where
  | probe (target : Byte)
  | sweep
  | ring (ids : List Byte)
  deriving DecidableEq, Repr

/-- One command: one event at one block, whole (95_what_each_step_holds.md). A request carries its tag and its body as the
Control Line brings them (R180, R203); a received frame its fields; an expiry the index of what expires. -/
inductive Instr where
  /-- Release of PORESET with the straps and fuses as they are then (R194). -/
  | powerOn (rateHigh profileSkip : Bool) (unit : BitVec 32)
  | controlFrameDiscard
  | controlGapExpiry
  /-- A clean request whose kind byte is none of R203's. -/
  | unknownKind (kind tag : Byte) (body : List Byte)
  | noticeTransmitStart
  | setNode (tag : Byte) (body : List Byte)
  | busEnable (tag : Byte) (body : List Byte)
  | busTiming (tag : Byte) (body : List Byte)
  | sweepNow (tag : Byte) (body : List Byte)
  | forget (tag : Byte) (body : List Byte)
  | readRoster (tag : Byte) (body : List Byte)
  | setPanel (tag : Byte) (body : List Byte)
  | setKey (tag : Byte) (body : List Byte)
  | keyTiming (tag : Byte) (body : List Byte)
  | readPanel (tag : Byte) (body : List Byte)
  | setSource (tag : Byte) (body : List Byte)
  | setDest (tag : Byte) (body : List Byte)
  | protect (tag : Byte) (body : List Byte)
  | defineSalvo (tag : Byte) (body : List Byte)
  | readDest (tag : Byte) (body : List Byte)
  | take (tag : Byte) (body : List Byte)
  | takeCancel (tag : Byte) (body : List Byte)
  | fireSalvo (tag : Byte) (body : List Byte)
  | routerTiming (tag : Byte) (body : List Byte)
  | readQueue (tag : Byte) (body : List Byte)
  | setMixer (tag : Byte) (body : List Byte)
  | readMixer (tag : Byte) (body : List Byte)
  | setBinding (tag : Byte) (body : List Byte)
  | setPosition (tag : Byte) (body : List Byte)
  | call (tag : Byte) (body : List Byte)
  | readTally (tag : Byte) (body : List Byte)
  | setHouse (tag : Byte) (body : List Byte)
  | setLamp (tag : Byte) (body : List Byte)
  | lampTiming (tag : Byte) (body : List Byte)
  | setPort (tag : Byte) (body : List Byte)
  | setGroup (tag : Byte) (body : List Byte)
  | addStanding (tag : Byte) (body : List Byte)
  | dropStanding (tag : Byte) (body : List Byte)
  | readPaths (tag : Byte) (body : List Byte)
  | gainTiming (tag : Byte) (body : List Byte)
  | readMatrix (tag : Byte) (body : List Byte)
  | status (tag : Byte) (body : List Byte)
  | identify (tag : Byte) (body : List Byte)
  | setMask (tag : Byte) (body : List Byte)
  | clearFlags (tag : Byte) (body : List Byte)
  | reset (tag : Byte) (body : List Byte)
  | blockSoftReset (block : Block)
  | profileSave (tag : Byte) (body : List Byte)
  | profileLoad (tag : Byte) (body : List Byte)
  | pbBadFrame
  | pbGapExpiry
  /-- One character of activity; `completes` is the clean frame of another kind that it ends, if any. -/
  | activity (completes : Option BusOther)
  | pbFrameSent
  | passReceived (target : Byte)
  | askReceived (sender target : Byte)
  | cargoReceived (sender target seq : Byte) (payload : List Byte)
  | roomReceived (sender target : Byte)
  | noroomReceived (sender target : Byte)
  | gotReceived (sender target : Byte)
  | hereReceived (sender kind : Byte) (unit : BitVec 32) (keys : Byte)
  | probeWindowClose
  | askWindowClose
  | cargoWindowClose
  | passWindowClose
  | reservationLapse
  | checkingExpiry
  | silenceExpiry
  | censusIntervalExpiry
  | absenceExpiry (node : Nat)
  | kdDeparture (node : Nat)
  | kdJoin (node : Nat)
  | rcRelease (node : Nat)
  | dispatch
  | tapWindowExpiry (node key : Nat)
  | latchLimitExpiry (node key : Nat)
  | refusalIndicationExpiry (node key : Nat)
  | kdTakeOutcome
  | kdFireCompletion
  | kdImageReport (source : KdSource)
  | routerBadFrame
  | routerGapExpiry
  | routerFrameSent
  | xdone (dest source : Byte)
  | xfail (dest reason : Byte)
  | xstate (dest source : Byte)
  | xmoved (dest source : Byte)
  | takeReplyTimerExpiry (dest : Nat)
  | queryReplyTimerExpiry (dest : Nat)
  | routerProbeTimer
  | mixerBadFrame (mixer : Mixer)
  | mixerGapExpiry (mixer : Mixer)
  | busRecord (mixer : Mixer) (bus input : Byte)
  | transRecord (mixer : Mixer) (value : Byte)
  | keyerRecord (mixer : Mixer) (keyer onAir fill : Byte)
  | aliveRecord (mixer : Mixer)
  | staleExpiry (mixer : Mixer)
  | withdrawExpiry (mixer : Mixer)
  | trRecomputation (source : TrSource)
  | hostCallExpiry (position : Nat)
  | ldRelight
  | ldCallStart (position : Nat)
  | ldCallEnd (position : Nat)
  | lampTick
  | phaseExpiry (position : Nat)
  | teLiveSetReport
  | teGuardReport
  | teRemovalReport
  | gainTick
  | matrixBadFrame
  | matrixGapExpiry
  | matrixFrameSent
  | gainOk (listener talker : Byte)
  | gainReplyExpiry (listener talker : Nat)
  | pingTimer
  | pong
  | muteAllOk
  | muteAllExpiry
  | profileTransferDone
  | profileAddressRetry
  | profileEntryApply
  | millisecondCountTick
  | syncFoundWhileHunting
  /-- The memory does not acknowledge a byte of a write; `taken` is how many bytes of the transfer it had taken. -/
  | writeByteNotAcknowledged (taken : Nat)
  deriving DecidableEq, Repr

end Sys2Proof
end

