-- ==== Sys2Proof/Machine/State.lean ====
section
/-! DEFINITION. The state of the part as plain data, block by block, with the values of power-on; the faults and refusals. -/

namespace Sys2Proof.Machine

/-- Sparse data by key, keys ascending. What an unlisted key stands for is said where the table is read. -/
abbrev Tab (α : Type) := List (Nat × α)

/-! ### Control Port (chapter 10) -/

/-- The ten notice flags (R184). -/
inductive Flag where
  | roster | bus | router | external | mixer | tally | paths | matrix | profile | link
  deriving DecidableEq, Repr

/-- A frame the part makes for the host (R180, R185). A waiting NOTICE has no reported flag set yet. -/
inductive CtlFrame where
  | reply (tag : Byte) (body : List Byte)
  | notice (carried : FlagSet) (reported : Option FlagSet)
  deriving DecidableEq, Repr

/-- One outstanding request (R181). -/
structure Outstanding where
  tag : Byte
  kind : Byte
  deriving DecidableEq, Repr

/-- The part's mode (R183). -/
inductive PartMode where
  | loading | run
  deriving DecidableEq, Repr

/-- A RESET in progress: its tag and the blocks that have not taken their soft reset (R191). -/
structure Resetting where
  tag : Byte
  left : List Block
  deriving DecidableEq, Repr

/-- The Control Port. -/
structure Cp where
  flags : FlagSet
  announced : FlagSet
  mask : FlagSet
  linkErrors : Nat
  outstanding : List Outstanding
  /-- The receiver is IN-FRAME (R180); otherwise HUNTING. -/
  inFrame : Bool
  /-- Frames made whose first character has not been sent, oldest first. -/
  tx : List CtlFrame
  /-- Frames whose first character has been sent, oldest first (log 11). -/
  begun : List CtlFrame
  mode : PartMode
  resetting : Option Resetting
  deriving DecidableEq, Repr

/-! ### Panel Bus Controller (chapter 1) -/

/-- What a HERE reports of a panel (R1). -/
inductive PanelKind where
  | intercom | router | combined
  deriving DecidableEq, Repr

structure PanelInfo where
  kind : PanelKind
  unit : BitVec 32
  keys : Nat
  deriving DecidableEq, Repr

/-- Key lamp colours and patterns (00_scope.md, "Key lamps"). -/
inductive KeyColour where
  | off | red | green | amber | white
  deriving DecidableEq, Repr

inductive Pattern where
  | steady | slow | fast | wink
  deriving DecidableEq, Repr

structure Image where
  colour : KeyColour
  pattern : Pattern
  deriving DecidableEq, Repr

/-- The link part of a MEMBER entry (R5). A sent image of none is UNKNOWN. -/
structure Link where
  sent : List (Option Image)
  dirty : List Nat
  outSeq : Nat
  lastIn : Option Nat
  deriving DecidableEq, Repr

/-- The state of a roster entry with the fields that state has (R3). `stalledAsk` is present when STALLED is set. -/
inductive Presence where
  | member (link : Link) (stall : Nat) (stalledAsk : Option Millis)
  | absent (since : Millis)
  | contested
  deriving DecidableEq, Repr

structure RosterEntry where
  info : Option PanelInfo
  presence : Presence
  deriving DecidableEq, Repr

inductive NodeState where
  | asleep | listening | checking | conflict | sweeping | member
  deriving DecidableEq, Repr

/-- The six bus timing settings (R28). -/
structure BusTimings where
  replyWindow : Nat
  silence : Nat
  turnBudget : Nat
  census : Nat
  stallLimit : Nat
  release : Nat
  deriving DecidableEq, Repr

/-- The classification of one probe's answer (R13). -/
inductive ProbeResult where
  | present (info : PanelInfo)
  | contested
  | absent
  deriving DecidableEq, Repr

/-- A Panel Bus frame the hub sends (R1). -/
inductive PbFrame where
  | pass (target : Nat)
  | ask (sender target : Nat)
  | room (sender target : Nat)
  | noroom (sender target : Nat)
  | cargo (sender target seq : Nat) (lamps : List (Nat × Image))
  | got (sender target : Nat)
  | sweep
  | probe (target : Nat)
  | ring (ids : List Nat)
  deriving DecidableEq, Repr

/-- What the hub waits for on the bus (R11). `heard`: there was activity in the window. `again`: the PASS was repeated. -/
inductive Work where
  | idle
  | probe (census : Bool) (id : Nat) (heard : Bool)
  | ask (panel : Nat)
  | cargo (panel : Nat) (carried : List (Nat × Image))
  | pass (target : Nat) (again : Bool)
  deriving DecidableEq, Repr

/-- A stored inbound cargo: its sender and its transitions, key index and PRESS (R25). -/
structure Stored where
  sender : Nat
  transitions : List (Nat × Bool)
  deriving DecidableEq, Repr

/-- How far the reply window after a ROOM has come (R23). -/
inductive RoomStage where
  | sending | window | heard
  deriving DecidableEq, Repr

/-- The hub's turn (R17, R19). -/
structure Turn where
  holds : Bool
  made : Nat
  chosen : List Nat
  budget : Nat
  started : Millis
  deriving DecidableEq, Repr

/-- The Panel Bus Controller. -/
structure Pbc where
  node : NodeState
  id : Nat
  busAuto : Bool
  timing : BusTimings
  roster : Tab RosterEntry
  censusPtr : Nat
  rotationPtr : Nat
  lastCensus : Millis
  badFrames : Nat
  discarded : Nat
  inbound : List Stored
  reserved : Option (Nat × RoomStage)
  activitySeen : Bool
  lastTurn : Option Nat
  sweepPending : Bool
  checkingExpiry : Option Millis
  turn : Turn
  work : Work
  windowOpen : Bool
  results : Tab ProbeResult
  /-- The time of the last activity, while the silence timer runs (R15). -/
  silentSince : Option Millis
  /-- Frames to be sent, the front one on the wire. -/
  tx : List PbFrame
  deriving DecidableEq, Repr

/-! ### Key Dispatcher (chapter 2) -/

inductive KeyTarget where
  | port (p : Nat)
  | group (g : Nat)
  | live
  deriving DecidableEq, Repr

inductive TalkMode where
  | momentary | latch | auto
  deriving DecidableEq, Repr

/-- One key entry of a key table (R33). -/
inductive KeyEntry where
  | none
  | talk (target : KeyTarget) (mode : TalkMode) (listenWith : Bool) (listenLevel : Int) (limit : Nat)
  | listen (target : KeyTarget) (level : Int)
  | source (s : Nat)
  | dest (d : Nat)
  | take
  | protect
  | salvo (n : Nat)
  | call (p : Nat)
  deriving DecidableEq, Repr

inductive TakeMode where
  | direct | preset
  deriving DecidableEq, Repr

/-- A panel record (R32). An unlisted key index has the entry NONE. -/
structure PanelRec where
  port : Option Nat
  mode : TakeMode
  keys : Tab KeyEntry
  deriving DecidableEq, Repr

inductive KeyState where
  | idle | timing | held | latched | unlatching | active
  deriving DecidableEq, Repr

/-- The fields of a panel context that stand per key (R34). -/
structure KeyCtx where
  pressed : Bool
  state : KeyState
  tapExpiry : Option Millis
  latchExpiry : Option Millis
  refusalExpiry : Option Millis
  image : Image
  deriving DecidableEq, Repr

/-- A panel context (R34). `keys` lists every key index below the key count. -/
structure Context where
  keys : Tab KeyCtx
  dest : Option Nat
  preset : Option Nat
  deriving DecidableEq, Repr

/-- The Key Dispatcher. -/
structure Kd where
  records : Tab PanelRec
  contexts : Tab Context
  tapWindow : Nat
  unassigned : Nat
  duplicate : Nat
  deriving DecidableEq, Repr

/-! ### Route Controller (chapters 3 and 4) -/

structure SourceRec where
  position : Option Nat
  tie : Option Nat
  deriving DecidableEq, Repr

inductive ProtectKind where
  | protect | lock
  deriving DecidableEq, Repr

/-- A protect: its owner (a node ID, none for FROM-HOST) and its kind (R65). -/
structure Protect where
  owner : Option Nat
  kind : ProtectKind
  deriving DecidableEq, Repr

structure DestRec where
  confirmed : Option Nat
  pending : Option Nat
  protect : Option Protect
  deriving DecidableEq, Repr

/-- The party that asked for a take or a fire: the host with a tag, or a panel with a key (R71, R79). -/
inductive Party where
  | host (tag : Byte)
  | panel (node key : Nat)
  deriving DecidableEq, Repr

/-- The requester of a take queue entry; a fire by its serial number (R79, log 19). -/
inductive Requester where
  | party (p : Party)
  | fire (serial : Nat)
  deriving DecidableEq, Repr

/-- WAITING, or SENT with its reply expiry once the frame has been sent (R79, R82). -/
inductive TakeState where
  | waiting
  | sent (expiry : Option Millis)
  deriving DecidableEq, Repr

structure TakeEntry where
  dest : Nat
  source : Nat
  requester : Requester
  state : TakeState
  deriving DecidableEq, Repr

structure Query where
  dest : Nat
  expiry : Option Millis
  deriving DecidableEq, Repr

/-- A fire in progress: pairs whose outcome is awaited, and its three counts (R95). -/
structure Fire where
  serial : Nat
  salvo : Nat
  party : Party
  awaiting : Nat
  done : Nat
  other : Nat
  skipped : Nat
  deriving DecidableEq, Repr

/-- A Router Line frame the part sends (R78). `probe` marks the XASK of R90, which has no reply timer. -/
inductive RouterFrame where
  | xset (dest source : Nat)
  | xask (dest : Nat) (probe : Bool)
  deriving DecidableEq, Repr

/-- The Route Controller. -/
structure Rc where
  sources : Tab SourceRec
  dests : Tab DestRec
  salvos : Tab (List (Nat × Nat))
  queue : List TakeEntry
  fires : List Fire
  nextSerial : Nat
  querySet : List Nat
  queries : List Query
  down : Bool
  consecutive : Nat
  badFrames : Nat
  strays : Nat
  violations : Nat
  nextProbe : Option Millis
  replyTimer : Nat
  tx : List RouterFrame
  deriving DecidableEq, Repr

/-! ### Mixer Monitor (chapter 5) -/

inductive MixerLine where
  | silent | current | stale | withdrawn
  deriving DecidableEq, Repr

structure BusTable where
  pgm : Nat
  pvw : Nat
  iso1 : Nat
  iso2 : Nat
  iso3 : Nat
  iso4 : Nat
  deriving DecidableEq, Repr

structure Keyer where
  onAir : Bool
  fill : Nat
  deriving DecidableEq, Repr

structure Keyers where
  k0 : Keyer
  k1 : Keyer
  k2 : Keyer
  k3 : Keyer
  deriving DecidableEq, Repr

inductive MixerMode where
  | onAir | rehearsal
  deriving DecidableEq, Repr

/-- What a mixer's records report of it (chapter 5, "Mixer state"). -/
structure MixerState where
  buses : BusTable
  transition : Bool
  keyers : Keyers
  deriving DecidableEq, Repr

/-- The one frame the part sends on a mixer line (R108). -/
inductive MixerFrame where
  | resend
  deriving DecidableEq, Repr

/-- One mixer as MM holds it (R102). -/
structure MixerRec where
  line : MixerLine
  state : MixerState
  mode : MixerMode
  stale : Nat
  withdraw : Nat
  lastRecord : Option Millis
  staleExpiry : Option Millis
  withdrawExpiry : Option Millis
  badFrames : Nat
  outOfRange : Nat
  records : Nat
  resends : Nat
  /-- The frames given to the line's transmitter, oldest first: each is sent whole, the next one following it (R108, log 32). -/
  sent : List MixerFrame
  deriving DecidableEq, Repr

/-- The Mixer Monitor. -/
structure Mm where
  a : MixerRec
  b : MixerRec
  deriving DecidableEq, Repr

/-! ### Tally Resolver (chapter 6) -/

inductive Binding where
  | none
  | dest (d : Nat)
  | source (s : Nat)
  | internal
  deriving DecidableEq, Repr

inductive Colour where
  | red | amber | green
  deriving DecidableEq, Repr

/-- A colour set. -/
structure Colours where
  red : Bool
  amber : Bool
  green : Bool
  deriving DecidableEq, Repr

/-- What a contribution comes from: a bus, or keyer 0 to 3 (R116). -/
inductive Selection where
  | bus (b : Nat)
  | keyer (k : Nat)
  deriving DecidableEq, Repr

structure Contribution where
  mixer : Mixer
  selection : Selection
  input : Nat
  colour : Colour
  deriving DecidableEq, Repr

inductive StopKind where
  | loop | limit
  deriving DecidableEq, Repr

/-- One stop of a walk (R118). -/
structure Stop where
  mixer : Mixer
  input : Nat
  colour : Colour
  kind : StopKind
  dest : Nat
  deriving DecidableEq, Repr

/-- A position record (R122, R125). -/
structure Position where
  port : Option Nat
  colours : Colours
  hostCall : Option Millis
  keyCalls : List (Nat × Nat)
  deriving DecidableEq, Repr

/-- The Tally Resolver. -/
structure Tr where
  bindingsA : Tab Binding
  bindingsB : Tab Binding
  positions : Tab Position
  contributions : List Contribution
  stops : List Stop
  unbound : Nat
  resolutions : Nat
  deriving DecidableEq, Repr

/-! ### Lamp Driver (chapter 7) -/

/-- One lamp channel (R130). `pin` is the output level in force in the present millisecond (R135). -/
structure Channel where
  lit : Bool
  target : Nat
  level : Nat
  output : Nat
  pin : Nat
  deriving DecidableEq, Repr

/-- A position's lamp settings and, while a call is active, its phase (ON is true) and phase expiry (R130). -/
structure Lamp where
  trim : Nat
  manual : Option Nat
  exclusive : Bool
  phase : Option (Bool × Millis)
  deriving DecidableEq, Repr

/-- The Lamp Driver. -/
structure Ld where
  channels : Tab Channel
  lamps : Tab Lamp
  house : Nat
  floor : Nat
  step : Nat
  tick : Nat
  nextTick : Millis
  deriving DecidableEq, Repr

/-! ### Talk Engine and Matrix Line (chapters 8 and 9) -/

inductive PortKind where
  | panel | headset | fourwire | ifb | speaker
  deriving DecidableEq, Repr

inductive Duck where
  | steps (n : Nat)
  | full
  deriving DecidableEq, Repr

/-- A port record (R143). -/
structure PortRec where
  kind : PortKind
  receive : Int
  inTrim : Int
  outTrim : Int
  dim : Nat
  duck : Duck
  program : Option Nat
  guardPos : Option Nat
  deriving DecidableEq, Repr

/-- A standing path (R147). -/
structure Standing where
  talker : Nat
  listener : Nat
  level : Int
  deriving DecidableEq, Repr

inductive Origin where
  | key (node key : Nat)
  | live (node key : Nat)
  | standing (slot : Nat)
  deriving DecidableEq, Repr

/-- A cause as it stands in the cause list of its pair's entry (R150). -/
structure Cause where
  origin : Origin
  level : Int
  deriving DecidableEq, Repr

/-- A gain: MUTE, or a number of level steps (R163). -/
inductive Gain where
  | mute
  | steps (g : Int)
  deriving DecidableEq, Repr

inductive Sync where
  | clean | dirty | sent
  deriving DecidableEq, Repr

/-- A path entry (R155, R169). -/
structure PathEntry where
  talker : Nat
  listener : Nat
  opened : Bool
  level : Int
  causes : List Cause
  target : Gain
  current : Gain
  sentValue : Gain
  sync : Sync
  deriving DecidableEq, Repr

/-- The Talk Engine. `paths` is keyed by listener * 96 + talker: ascending listener, then talker. -/
structure Te where
  ports : Tab PortRec
  groups : Tab (List Nat)
  standing : Tab Standing
  paths : Tab PathEntry
  refusals : Nat
  liveSkips : Nat
  /-- The positions whose guard state is true by the reports of TR that TE has taken, ascending (R121). -/
  guards : List Nat
  gainTick : Nat
  rampStep : Nat
  nextTick : Millis
  deriving DecidableEq, Repr

inductive MatrixLine where
  | up | down | clearing
  deriving DecidableEq, Repr

/-- An outstanding GAIN (R170); its expiry is set when its last character has been sent. -/
structure OutGain where
  talker : Nat
  listener : Nat
  gain : Gain
  expiry : Option Millis
  deriving DecidableEq, Repr

/-- A Matrix Line frame the part sends (R168). -/
inductive MatrixFrame where
  | gain (listener talker : Nat) (g : Gain)
  | muteAll
  | ping
  deriving DecidableEq, Repr

/-- The Matrix Line. The queues hold keys of the path table. -/
structure Ml where
  line : MatrixLine
  muteQueue : List Nat
  levelQueue : List Nat
  outstanding : List OutGain
  /-- Whether a MUTE-ALL is outstanding, and its expiry once it has been sent (R175). -/
  muteAll : Option (Option Millis)
  nextPing : Option Millis
  replyTimeout : Nat
  consecutive : Nat
  timeouts : Nat
  badFrames : Nat
  strays : Nat
  tx : List MatrixFrame
  deriving DecidableEq, Repr

/-! ### Profile Memory Controller (chapter 11) -/

/-- A transfer on the profile memory bus (chapter 11, "Transfer"). -/
inductive Transfer where
  | read (address length : Nat)
  | write (address : Nat) (bytes : List Byte)
  deriving DecidableEq, Repr

/-- How far the walk has come: it awaits the image header, a section header, a section's body, or it applies entries. -/
inductive WalkPhase where
  | header
  | head (offset : Nat)
  | body (offset : Nat) (head : List Byte)
  | entries (kind : Nat) (rest : List Byte) (ordinal next : Nat)
  deriving DecidableEq, Repr

/-- A walk (R196): the tag of its PROFILE-LOAD, none at power-on, and the counts its reply gives (R200). -/
structure Walk where
  request : Option Byte
  phase : WalkPhase
  reached : Nat
  applied : Nat
  skipped : Nat
  notLoaded : Nat
  deriving DecidableEq, Repr

/-- How far the save has come (R198): the bad header, section `index` with what remains to be written of it, the good header. -/
inductive SavePhase where
  | spoil
  | sect (index : Nat) (rest : List Byte) (next : Nat)
  | header
  deriving DecidableEq, Repr

structure Save where
  tag : Byte
  phase : SavePhase
  /-- The length of the image written so far. -/
  length : Nat
  deriving DecidableEq, Repr

/-- PM's one operation at a time (R201). -/
inductive PmOp where
  | idle
  | walking (w : Walk)
  | saving (sv : Save)
  deriving DecidableEq, Repr

/-- The Profile Memory Controller and the memory's contents. -/
structure Pm where
  op : PmOp
  transfer : Option Transfer
  /-- How often the transfer's address has gone unacknowledged (R197). -/
  unacked : Nat
  /-- When the transfer's address was last sent (R197). -/
  tried : Millis
  memory : List Host.Cell
  deriving DecidableEq, Repr

/-! ### Reports between blocks -/

/-- PBC's notifications to KD (R6); a join carries the entry's key count. -/
inductive PanelNotice where
  | departure (node : Nat)
  | join (node keys : Nat)
  deriving DecidableEq, Repr

/-- A change report to KD: what changed, and so which keys' images it touches (R60, R63, R91, R94, R95, R121, R122, R146, R158).
TR's reports carry the new values (R121); a fire's names the panel that fired, none for the host. -/
inductive ImageReport where
  | colours (changed : List (Nat × Colours))
  | live (ports : List Nat)
  | positionPort (old new : Option Nat)
  | path (talker listener : Nat)
  | group (g : Nat)
  | crosspoint (dest : Nat) (sources : List Nat)
  | protect (dest : Nat)
  | takes (dest : Nat) (panels : List Nat)
  | fire (salvo : Nat) (panel : Option Nat)
  | sourcePosition (source : Nat)
  deriving DecidableEq, Repr

/-- The outcomes of a take (R91). -/
inductive TakeOutcome where
  | done | failed | timeout | superseded | cancelled | dropped | protectHeld | lockHeld
  deriving DecidableEq, Repr

/-- An outcome for KD, with the reports of the changes that came with it (R46, R91). -/
structure OutcomeReport where
  node : Nat
  key : Nat
  outcome : TakeOutcome
  changes : List ImageReport
  deriving DecidableEq, Repr

/-- A fire's completion for KD (R48, R95). -/
structure FireReport where
  node : Nat
  key : Nat
  salvo : Nat
  done : Nat
  other : Nat
  skipped : Nat
  deriving DecidableEq, Repr

/-- TR's report to TE: the new LIVE port set if it changed, the positions whose guard state changed with the new states (R121). -/
structure TeReport where
  live : Option (List Nat)
  guards : List (Nat × Bool)
  deriving DecidableEq, Repr

/-- ML's removal report to TE of the entry of a path table key, and whether that entry has been reopened since (R157, R173). -/
structure Removal where
  key : Nat
  reopened : Bool
  deriving DecidableEq, Repr

/-- Reports given and not yet taken, each queue oldest first (log 6). -/
structure Reports where
  kdPanels : List PanelNotice
  rcReleases : List Nat
  kdFromTr : List ImageReport
  kdFromTe : List ImageReport
  kdFromRc : List ImageReport
  kdOutcomes : List OutcomeReport
  kdFires : List FireReport
  /-- Reports of MM to TR, by the mixer named (R105, R109). -/
  trFromMm : List Mixer
  /-- Reports of RC to TR: a confirmed source, a tally position or a tie changed (R60, R63). -/
  trFromRc : Nat
  /-- TR's relight reports to LD: the positions named with their new colour sets (R121). -/
  ldRelights : List (List (Nat × Colours))
  /-- TR's call reports to LD: the position, and whether the call begins (R125). -/
  ldCalls : List (Nat × Bool)
  teFromTr : List TeReport
  /-- ML's removal reports to TE (R173). -/
  teFromMl : List Removal
  deriving DecidableEq, Repr

/-! ### The part -/

/-- The straps and fuses as read at power-on (R194). -/
structure Straps where
  rateHigh : Bool
  profileSkip : Bool
  unit : BitVec 32
  deriving DecidableEq, Repr

/-- Why a step stops with a fault. -/
inductive Fault where
  /-- Raised by PROFILE_TRANSFER_DONE and WRITE_BYTE_NOT_ACKNOWLEDGED when the transfer in progress reaches past the
  32 KiB the profile memory has (chapter 11). Safe: no walk and no save that the rules make holds such a transfer. -/
  | profileAddress
  deriving DecidableEq, Repr

/-- Why a command has no meaning. -/
inductive Refusal where
  /-- Raised by exec alone, for a row that has no meaning yet. Safe. No arm uses it. -/
  | notModelled (mnemonic : String)
  deriving DecidableEq, Repr

/-- The whole part, and the commands that wait. -/
structure State where
  straps : Straps
  now : Millis
  cp : Cp
  pbc : Pbc
  kd : Kd
  rc : Rc
  mm : Mm
  tr : Tr
  ld : Ld
  te : Te
  ml : Ml
  pm : Pm
  reports : Reports
  pending : List Instr
  deriving DecidableEq, Repr

/-! ### Power-on values -/

/-- R192. -/
def Cp.powerOn (profileSkip : Bool) : Cp :=
  { flags := 0, announced := 0, mask := 0, linkErrors := 0, outstanding := [], inFrame := false, tx := [], begun := [],
    mode := if profileSkip then .run else .loading, resetting := none }

/-- The defaults of R28. -/
def BusTimings.default : BusTimings :=
  { replyWindow := 200, silence := 4, turnBudget := 4, census := 500, stallLimit := 32, release := 30 }

/-- R30. The budget and the start time of a turn have no value there (log 17). -/
def Pbc.powerOn : Pbc :=
  { node := .asleep, id := 0, busAuto := false, timing := .default, roster := [], censusPtr := 0, rotationPtr := 0,
    lastCensus := 0, badFrames := 0, discarded := 0, inbound := [], reserved := none, activitySeen := false,
    lastTurn := none, sweepPending := false, checkingExpiry := none,
    turn := { holds := false, made := 0, chosen := [], budget := 4, started := 0 },
    work := .idle, windowOpen := false, results := [], silentSince := none, tx := [] }

/-- R58. -/
def Kd.powerOn : Kd := { records := [], contexts := [], tapWindow := 300, unassigned := 0, duplicate := 0 }

/-- R75, R98: the query set holds all 256 destinations, and the window is filled from it at once (R81). -/
def Rc.powerOn : Rc :=
  { sources := [], dests := [], salvos := [], queue := [], fires := [], nextSerial := 0,
    querySet := (List.range 256).drop 2, queries := [⟨0, none⟩, ⟨1, none⟩], down := false, consecutive := 0,
    badFrames := 0, strays := 0, violations := 0, nextProbe := none, replyTimer := 50,
    tx := [.xask 0 false, .xask 1 false] }

def MixerState.empty : MixerState :=
  { buses := ⟨0, 0, 0, 0, 0, 0⟩, transition := false, keyers := ⟨⟨false, 0⟩, ⟨false, 0⟩, ⟨false, 0⟩, ⟨false, 0⟩⟩ }

/-- R102, R112: one RESEND has been sent. -/
def MixerRec.powerOn : MixerRec :=
  { line := .silent, state := .empty, mode := .onAir, stale := 500, withdraw := 5, lastRecord := none,
    staleExpiry := none, withdrawExpiry := none, badFrames := 0, outOfRange := 0, records := 0, resends := 1,
    sent := [.resend] }

/-- R112. -/
def Mm.powerOn : Mm := { a := .powerOn, b := .powerOn }

/-- R128. -/
def Tr.powerOn : Tr :=
  { bindingsA := [], bindingsB := [], positions := [], contributions := [], stops := [], unbound := 0, resolutions := 0 }

/-- R141. -/
def Ld.powerOn : Ld :=
  { channels := [], lamps := [], house := 128, floor := 16, step := 8, tick := 40, nextTick := 40 }

/-- R160, R178. -/
def Te.powerOn : Te :=
  { ports := [], groups := [], standing := [], paths := [], refusals := 0, liveSkips := 0, guards := [],
    gainTick := 20, rampStep := 6, nextTick := 20 }

/-- R178: CLEARING, with a MUTE-ALL sent at once. -/
def Ml.powerOn : Ml :=
  { line := .clearing, muteQueue := [], levelQueue := [], outstanding := [], muteAll := some none, nextPing := none,
    replyTimeout := 10, consecutive := 0, timeouts := 0, badFrames := 0, strays := 0, tx := [.muteAll] }

/-- R194, R201: walking, the image header being read, or idle with PROFILE-SKIP high. The memory keeps its contents. -/
def Pm.powerOn (profileSkip : Bool) (memory : List Host.Cell) : Pm :=
  if profileSkip then { op := .idle, transfer := none, unacked := 0, tried := 0, memory := memory }
  else
    { op := .walking { request := none, phase := .header, reached := 0, applied := 0, skipped := 0, notLoaded := 0 },
      transfer := some (.read 0 9), unacked := 0, tried := 0, memory := memory }

/-- No report waits. -/
def Reports.empty : Reports :=
  { kdPanels := [], rcReleases := [], kdFromTr := [], kdFromTe := [], kdFromRc := [], kdOutcomes := [], kdFires := [],
    trFromMm := [], trFromRc := 0, ldRelights := [], ldCalls := [], teFromTr := [], teFromMl := [] }

/-- The part at the release of PORESET (R194), with the memory and the command queue as they stand. -/
def State.powerOn (straps : Straps) (memory : List Host.Cell) (pending : List Instr) : State :=
  { straps := straps, now := 0, cp := .powerOn straps.profileSkip, pbc := .powerOn, kd := .powerOn, rc := .powerOn,
    mm := .powerOn, tr := .powerOn, ld := .powerOn, te := .powerOn, ml := .powerOn, pm := .powerOn straps.profileSkip memory,
    reports := .empty, pending := pending }

/-- The part right after power-on, straps low and fuses 0 (DESIGN CHOICE, log 2), nothing in the memory (log 3). -/
def State.reset : State := State.powerOn { rateHigh := false, profileSkip := false, unit := 0 } [] []

end Sys2Proof.Machine
end

