-- ==== Sys2Proof/WellFormed.lean ====
section
/-! DEFINITION. Which commands can occur on the part's lines: the checks of R1, R100, R168, R180 and R204, and the index ranges
of 00_scope.md. -/

namespace Sys2Proof

/-- A Panel Bus ID field lies in 1 to 63 (R204). -/
def nodeByte (b : Byte) : Bool := 1 ≤ b.toNat && b.toNat ≤ 63

/-- A node ID of a panel (R3). -/
def nodeIndex (n : Nat) : Bool := 1 ≤ n && n ≤ 63

/-- The kind byte of a request the part knows (R203). -/
def knownKind (k : Byte) : Bool := 1 ≤ k.toNat && k.toNat ≤ 0x2B

/-- A body no longer than LEN can say (R180). -/
def bodyFits (body : List Byte) : Bool := body.length ≤ Config.bodyMax

/-- The IDs of a RING are in 1 to 63 and strictly ascending, 1 to 63 of them (R204). -/
def ringClean : List Byte → Bool
  | [] => false
  | [x] => nodeByte x
  | x :: y :: t => nodeByte x && x.toNat < y.toNat && ringClean (y :: t)

/-- A frame of another kind is clean (R204). -/
def BusOther.clean : BusOther → Bool
  | .probe t => nodeByte t
  | .sweep => true
  | .ring ids => ringClean ids

/-- The fields of a CARGO are those of a clean frame: IDs in range, payload of 1 to 64 bytes (R1, R204). -/
def cargoClean (sender target : Byte) (payload : List Byte) : Bool :=
  nodeByte sender && nodeByte target && 1 ≤ payload.length && payload.length ≤ 64

/-- The fields of a HERE are those of a clean frame (R1, R204). -/
def hereClean (sender kind keys : Byte) : Bool :=
  nodeByte sender && 1 ≤ kind.toNat && kind.toNat ≤ 3 && 1 ≤ keys.toNat && keys.toNat ≤ 32

/-- A bus code of the six the part follows (R100, R202). -/
def busClean (bus : Byte) : Bool := bus.toNat ≤ 5

/-- A transition value IDLE or ACTIVE (R100, R205). -/
def transClean (value : Byte) : Bool := value.toNat ≤ 1

/-- A keyer 0 to 3 and an on-air value on or off (R100). -/
def keyerClean (keyer onAir : Byte) : Bool := keyer.toNat ≤ 3 && onAir.toNat ≤ 1

/-- Port fields of a GAIN-OK at most 95 (R168). -/
def pairClean (listener talker : Byte) : Bool := listener.toNat ≤ 95 && talker.toNat ≤ 95

/-- The command is one that can occur: a frame is clean, a body fits its LEN, an index names something. -/
def Instr.wellFormed : Instr → Bool
  | .unknownKind k _ body => !knownKind k && bodyFits body
  | .setNode _ body | .busEnable _ body | .busTiming _ body | .sweepNow _ body | .forget _ body | .readRoster _ body
  | .setPanel _ body | .setKey _ body | .keyTiming _ body | .readPanel _ body | .setSource _ body | .setDest _ body
  | .protect _ body | .defineSalvo _ body | .readDest _ body | .take _ body | .takeCancel _ body | .fireSalvo _ body
  | .routerTiming _ body | .readQueue _ body | .setMixer _ body | .readMixer _ body | .setBinding _ body
  | .setPosition _ body | .call _ body | .readTally _ body | .setHouse _ body | .setLamp _ body | .lampTiming _ body
  | .setPort _ body | .setGroup _ body | .addStanding _ body | .dropStanding _ body | .readPaths _ body
  | .gainTiming _ body | .readMatrix _ body | .status _ body | .identify _ body | .setMask _ body | .clearFlags _ body
  | .reset _ body | .profileSave _ body | .profileLoad _ body => bodyFits body
  | .activity (some f) => f.clean
  | .passReceived t => nodeByte t
  | .askReceived f t | .roomReceived f t | .noroomReceived f t | .gotReceived f t => nodeByte f && nodeByte t
  | .cargoReceived f t _ payload => cargoClean f t payload
  | .hereReceived f kind _ keys => hereClean f kind keys
  | .absenceExpiry n | .kdDeparture n | .kdJoin n | .rcRelease n => nodeIndex n
  | .tapWindowExpiry n k | .latchLimitExpiry n k | .refusalIndicationExpiry n k => nodeIndex n && k < Config.keysMax
  | .takeReplyTimerExpiry d | .queryReplyTimerExpiry d => d ≤ 255
  | .busRecord _ bus _ => busClean bus
  | .transRecord _ value => transClean value
  | .keyerRecord _ keyer onAir _ => keyerClean keyer onAir
  | .hostCallExpiry p | .ldCallStart p | .ldCallEnd p | .phaseExpiry p => p ≤ 23
  | .gainOk l t => pairClean l t
  | .gainReplyExpiry l t => l ≤ 95 && t ≤ 95
  | .writeByteNotAcknowledged taken => taken < Config.writeBytes
  | .powerOn _ _ _ | .controlFrameDiscard | .controlGapExpiry | .noticeTransmitStart | .blockSoftReset _ | .pbBadFrame
  | .pbGapExpiry | .activity none | .pbFrameSent | .probeWindowClose | .askWindowClose | .cargoWindowClose
  | .passWindowClose | .reservationLapse | .checkingExpiry | .silenceExpiry | .censusIntervalExpiry | .dispatch
  | .kdTakeOutcome | .kdFireCompletion | .kdImageReport _ | .routerBadFrame | .routerGapExpiry | .routerFrameSent
  | .xdone _ _ | .xfail _ _ | .xstate _ _ | .xmoved _ _ | .routerProbeTimer | .mixerBadFrame _ | .mixerGapExpiry _
  | .aliveRecord _ | .staleExpiry _ | .withdrawExpiry _ | .trRecomputation _ | .ldRelight | .lampTick
  | .teLiveSetReport | .teGuardReport | .teRemovalReport | .gainTick | .matrixBadFrame | .matrixGapExpiry
  | .matrixFrameSent | .pingTimer | .pong | .muteAllOk | .muteAllExpiry | .profileTransferDone | .profileAddressRetry
  | .profileEntryApply | .millisecondCountTick | .syncFoundWhileHunting => true

end Sys2Proof
end

