-- ==== Sys2Proof/Machine/Ops.lean ====
section
/-! DEFINITION. Operations every block uses: tables, counts, time, the profile memory, updates of one block of the state. -/

namespace Sys2Proof.Machine

/-! ### Tables -/

/-- The value listed for a key. -/
def tfind {α : Type} : Tab α → Nat → Option α
  | [], _ => none
  | (k, v) :: t, i => if i = k then some v else tfind t i

/-- List `x` for key `i`, in its place among ascending keys. -/
def tput {α : Type} : Tab α → Nat → α → Tab α
  | [], i, x => [(i, x)]
  | (k, v) :: t, i, x => if i < k then (i, x) :: (k, v) :: t else if i = k then (i, x) :: t else (k, v) :: tput t i x

/-- List nothing for key `i`. -/
def tdel {α : Type} : Tab α → Nat → Tab α
  | [], _ => []
  | (k, v) :: t, i => if i = k then tdel t i else (k, v) :: tdel t i

/-- The value of a key, `d` where none is listed. -/
def tget {α : Type} (d : α) (t : Tab α) (i : Nat) : α := (tfind t i).getD d

/-- Give key `i` the value `x`; the value `d` of unlisted keys is never listed. -/
def tset {α : Type} [DecidableEq α] (d : α) (t : Tab α) (i : Nat) (x : α) : Tab α :=
  if x = d then tdel t i else tput t i x

/-- The keys are strictly ascending. -/
def tsorted {α : Type} : Tab α → Bool
  | [] => true
  | [_] => true
  | (k, _) :: (l, w) :: t => k < l && tsorted ((l, w) :: t)

/-- Change the value listed for a key, if one is. -/
def tmodify {α : Type} (t : Tab α) (i : Nat) (f : α → α) : Tab α :=
  t.map fun kv => if kv.1 = i then (kv.1, f kv.2) else kv

/-- Insert into an ascending list without duplicates. -/
def insertAsc : List Nat → Nat → List Nat
  | [], i => [i]
  | k :: t, i => if i < k then i :: k :: t else if i = k then k :: t else k :: insertAsc t i

/-- The list in ascending order without duplicates. -/
def sortAsc (l : List Nat) : List Nat := l.foldl insertAsc []

/-- No value appears twice. -/
def noRepeats : List Nat → Bool
  | [] => true
  | x :: t => !t.contains x && noRepeats t

/-- Take the oldest item that satisfies `p` out of a queue. -/
def takeFirst {α : Type} (p : α → Bool) : List α → Option (α × List α)
  | [] => none
  | x :: t => if p x then some (x, t) else (takeFirst p t).map fun r => (r.1, x :: r.2)

/-! ### Counts, ranges, time -/

/-- One more, stopping at the largest value (00_scope.md, "Counts"; log 12). -/
def bump (n : Nat) : Nat := if n < Config.countMax then n + 1 else n

/-- A setting clamped into its range (00_scope.md, "Settings out of range"). -/
def clampN (lo hi n : Nat) : Nat := if n < lo then lo else if hi < n then hi else n

/-- A signed setting clamped into its range. -/
def clampI (lo hi n : Int) : Int := if n < lo then lo else if hi < n then hi else n

/-- The count `d` milliseconds after `t` (R193). -/
def after (t : Millis) (d : Nat) : Millis := t + BitVec.ofNat 32 d

/-- Milliseconds from `since` to `now`, modulo 2^32 (R193). -/
def elapsed (now since : Millis) : Nat := (now - since).toNat

/-- An expiry has fallen due: the count has reached it, compared modulo 2^32 (R193, log 5). -/
def due (now e : Millis) : Bool := elapsed now e < 2 ^ 31

/-- An optional expiry is present and due. -/
def dueOpt (now : Millis) : Option Millis → Bool
  | none => false
  | some e => due now e

/-- The interval `d` has passed since `t`, `t` being no later than now. -/
def passed (now t : Millis) (d : Nat) : Bool := d ≤ elapsed now t

/-! ### The profile memory -/

/-- The byte at an address; one that nothing has written reads as `Config.blankByte` (log 3). -/
def readByte (m : List Host.Cell) (a : Nat) : Byte := tget Config.blankByte m a

/-- Write one byte, keeping the canonical form. -/
def writeByte (m : List Host.Cell) (a : Nat) (b : Byte) : List Host.Cell := tset Config.blankByte m a b

/-- Consecutive bytes from an address. -/
def readBytes (m : List Host.Cell) (a : Nat) : Nat → List Byte
  | 0 => []
  | n + 1 => readByte m a :: readBytes m (a + 1) n

/-- Write consecutive bytes from an address. -/
def writeBytes (m : List Host.Cell) (a : Nat) : List Byte → List Host.Cell
  | [] => m
  | b :: t => writeBytes (writeByte m a b) (a + 1) t

/-- The canonical form: addresses strictly rising, inside the 32 KiB, no cell equal to what an unlisted address reads as. -/
def Memory.wf (m : List Host.Cell) : Bool :=
  tsorted m && m.all fun c => c.1 < Config.memoryBytes && c.2 != Config.blankByte

/-! ### The outcome of a command -/

/-- What exec answers. -/
abbrev Out := Host.Outcome State Fault Refusal

end Sys2Proof.Machine
end

