-- ==== Sys2Proof/Machine/Operands.lean ====
section
/-! DEFINITION. The operand forms: how bodies and profile entries encode their fields, both ways (R202). -/

namespace Sys2Proof.Machine

/-! ### Decoding -/

/-- An unsigned number, most significant byte first. -/
def beNat (bytes : List Byte) : Nat := bytes.foldl (fun a b => a * 256 + b.toNat) 0

/-- A byte read as two's complement. -/
def signedByte (n : Nat) : Int := if n < 128 then (n : Int) else (n : Int) - 256

/-- The fields that follow a presence value, in list order, each of the width given; all bytes must be used. -/
def optFields : List Nat → Nat → List Byte → Option (List (Option Nat))
  | [], _, [] => some []
  | [], _, _ :: _ => none
  | w :: ws, p, rest =>
    if p % 2 = 1 then
      if rest.length < w then none
      else (optFields ws (p / 2) (rest.drop w)).map (some (beNat (rest.take w)) :: ·)
    else (optFields ws (p / 2) rest).map (none :: ·)

/-- A presence byte and its fields: none where it names a field the request does not have, or the length is wrong. -/
def presence (widths : List Nat) : List Byte → Option (List (Option Nat))
  | [] => none
  | p :: rest => if 2 ^ widths.length ≤ p.toNat then none else optFields widths p.toNat rest

/-- The fields after a presence value, as far as the bytes give them. -/
def givenFields : List Nat → Nat → List Byte → List (Option Nat)
  | [], _, _ => []
  | w :: ws, p, rest =>
    if p % 2 = 1 ∧ w ≤ rest.length then some (beNat (rest.take w)) :: givenFields ws (p / 2) (rest.drop w)
    else none :: givenFields ws (p / 2) (if p % 2 = 1 then [] else rest)

/-- The fields of a body of whatever form, as far as its bytes give them. -/
def partialFields (widths : List Nat) : List Byte → List (Option Nat)
  | [] => []
  | p :: rest => givenFields widths p.toNat rest

/-- The `i`th optional field. -/
def fieldAt (fs : List (Option Nat)) (i : Nat) : Option Nat := (fs[i]?).join

/-- A one-byte index where 0xFF is NONE. -/
def optIndex (n : Nat) : Option Nat := if n = 255 then none else some n

/-- A two-byte index where 0xFFFF is NONE. -/
def optWide (n : Nat) : Option Nat := if n = 65535 then none else some n

/-- A flag byte: 0 or 1. -/
def flagOf : Nat → Option Bool
  | 0 => some false
  | 1 => some true
  | _ => none

/-- An optional field is absent or satisfies a test. -/
def okIf (p : Nat → Bool) : Option Nat → Bool
  | none => true
  | some n => p n

/-- An index that may be NONE (0xFF) lies in 0 to `hi`. -/
def indexUpTo (hi n : Nat) : Bool := n ≤ hi || n == 255

/-- A body carries an optional field: its presence byte, at place `at'`, is not 0 (R183), be the field unknown or its bytes missing
(log 50). -/
def carriesField (at' : Nat) (body : List Byte) : Bool := body.getD at' 0 != 0

/-- Whole 2-byte records of a list of bytes, as pairs. -/
def bytePairs : List Byte → List (Nat × Nat)
  | a :: b :: t => (a.toNat, b.toNat) :: bytePairs t
  | _ => []

/-! ### Encoding -/

def e1 (n : Nat) : List Byte := [BitVec.ofNat 8 n]
def e2 (n : Nat) : List Byte := [BitVec.ofNat 8 (n / 256), BitVec.ofNat 8 n]
def e4 (n : BitVec 32) : List Byte := [n.extractLsb' 24 8, n.extractLsb' 16 8, n.extractLsb' 8 8, n.extractLsb' 0 8]
def eInt (g : Int) : List Byte := [BitVec.ofInt 8 g]
def eBool (b : Bool) : List Byte := [if b then 1 else 0]
def eIndex : Option Nat → List Byte
  | none => [0xFF]
  | some n => e1 n
def eWide : Option Nat → List Byte
  | none => [0xFF, 0xFF]
  | some n => e2 n
/-- In replies MUTE is 0x80 (R202). -/
def eGain : Gain → List Byte
  | .mute => [0x80]
  | .steps g => eInt g
/-- A time that is NONE or not present is 0xFFFFFFFF (R202). -/
def eTime : Option Millis → List Byte
  | none => [0xFF, 0xFF, 0xFF, 0xFF]
  | some t => e4 t
/-- The time remaining to an expiry. -/
def eRemaining (now : Millis) (e : Option Millis) : List Byte := eTime (e.map (· - now))

def mixerCode : Mixer → Nat
  | .a => 0
  | .b => 1
def KeyColour.code : KeyColour → Nat
  | .off => 0 | .red => 1 | .green => 2 | .amber => 3 | .white => 4
def Pattern.code : Pattern → Nat
  | .steady => 0 | .slow => 1 | .fast => 2 | .wink => 3
def Image.bytes (i : Image) : List Byte := e1 i.colour.code ++ e1 i.pattern.code
def PanelKind.code : PanelKind → Nat
  | .intercom => 1 | .router => 2 | .combined => 3
def PanelKind.ofCode : Nat → PanelKind
  | 1 => .intercom
  | 2 => .router
  | _ => .combined
def NodeState.code : NodeState → Nat
  | .asleep => 0 | .listening => 1 | .checking => 2 | .conflict => 3 | .sweeping => 4 | .member => 5
def Presence.code : Presence → Nat
  | .member _ _ _ => 0 | .absent _ => 1 | .contested => 2
def KeyState.code : KeyState → Nat
  | .idle => 0 | .timing => 1 | .held => 2 | .latched => 3 | .unlatching => 4 | .active => 5
def MatrixLine.code : MatrixLine → Nat
  | .up => 0 | .down => 1 | .clearing => 2
def MixerLine.code : MixerLine → Nat
  | .silent => 0 | .current => 1 | .stale => 2 | .withdrawn => 3
def MixerMode.code : MixerMode → Nat
  | .onAir => 0 | .rehearsal => 1
def MixerMode.ofCode : Nat → MixerMode
  | 0 => .onAir
  | _ => .rehearsal
def TakeMode.code : TakeMode → Nat
  | .direct => 0 | .preset => 1
def TalkMode.code : TalkMode → Nat
  | .momentary => 0 | .latch => 1 | .auto => 2
def PortKind.code : PortKind → Nat
  | .panel => 0 | .headset => 1 | .fourwire => 2 | .ifb => 3 | .speaker => 4
def PortKind.ofCode : Nat → PortKind
  | 0 => .panel
  | 1 => .headset
  | 2 => .fourwire
  | 3 => .ifb
  | _ => .speaker
def Sync.code : Sync → Nat
  | .clean => 0 | .dirty => 1 | .sent => 2
def ProtectKind.code : ProtectKind → Nat
  | .protect => 0 | .lock => 1
/-- One colour in READ-TALLY: the value it has in a colour set, R202 giving a single tally colour no code (log 14). -/
def Colour.code : Colour → Nat
  | .red => 1 | .amber => 2 | .green => 4
def Colours.code (c : Colours) : Nat :=
  (if c.red then 1 else 0) + (if c.amber then 2 else 0) + (if c.green then 4 else 0)
def StopKind.code : StopKind → Nat
  | .loop => 0 | .limit => 1
def Selection.code : Selection → Nat
  | .bus b => b
  | .keyer k => 6 + k
/-- A binding in a reply: three bytes, with 0 0 in the place of the index for NONE and INTERNAL, which have none (log 14). -/
def Binding.bytes : Binding → List Byte
  | .none => [0, 0, 0]
  | .dest d => e1 1 ++ e2 d
  | .source s => e1 2 ++ e2 s
  | .internal => [3, 0, 0]
/-- A duck depth; FULL is 0xFF (R202). -/
def Duck.byte : Duck → List Byte
  | .steps n => e1 n
  | .full => [0xFF]
/-- A protect: owner (0 for FROM-HOST) and kind; NONE is 0xFF 0xFF (R202). -/
def protectBytes : Option Protect → List Byte
  | none => [0xFF, 0xFF]
  | some p => e1 (p.owner.getD 0) ++ e1 p.kind.code
/-- The kind of the party that asked and its two bytes (R202). -/
def Party.bytes : Party → List Byte
  | .host tag => [0, tag, 0]
  | .panel n k => e1 1 ++ e1 n ++ e1 k
/-- A cause origin: its code and two bytes (R202). -/
def Origin.bytes : Origin → List Byte
  | .key n k => e1 0 ++ e1 n ++ e1 k
  | .live n k => e1 1 ++ e1 n ++ e1 k
  | .standing i => e1 2 ++ e1 i ++ [0]
/-- A key target and its index, 0xFF for LIVE (R203). -/
def KeyTarget.bytes : KeyTarget → List Byte
  | .port p => e1 0 ++ e1 p
  | .group g => e1 1 ++ e1 g
  | .live => [2, 0xFF]
/-- A key entry as a SET-KEY body gives it: its kind, then its fields (R203). -/
def KeyEntry.bytes : KeyEntry → List Byte
  | .none => e1 0
  | .talk t m lw ll lim => e1 1 ++ t.bytes ++ e1 m.code ++ eBool lw ++ eInt ll ++ e2 lim
  | .listen t l => e1 2 ++ t.bytes ++ eInt l
  | .source s => e1 3 ++ e2 s
  | .dest d => e1 4 ++ e2 d
  | .take => e1 5
  | .protect => e1 6
  | .salvo n => e1 7 ++ e1 n
  | .call p => e1 8 ++ e1 p

end Sys2Proof.Machine
end

