-- ==== Sys2Proof/Machine/Flags.lean ====
section
/-! DEFINITION. Notice flags, notices, ATTN, replies and the taking of a request (chapter 10). -/

namespace Sys2Proof.Machine

/-! ### Flags (R184 to R186) -/

/-- The bit of each flag (R202). -/
def Flag.bit : Flag → FlagSet
  | .roster => 1 | .bus => 2 | .router => 4 | .external => 8 | .mixer => 16
  | .tally => 32 | .paths => 64 | .matrix => 128 | .profile => 256 | .link => 512

/-- Every flag the part knows. -/
def allFlags : FlagSet := 1023

/-- A block sets a flag (R184). The announcement is made when the event ends (`announce`). -/
def setFlag (f : Flag) (s : State) : State := { s with cp := { s.cp with flags := s.cp.flags ||| f.bit } }

/-- Set a flag if a condition holds. -/
def setFlagIf (c : Bool) (f : Flag) (s : State) : State := if c then setFlag f s else s

/-- Flags due for a notice: set, enabled and not announced (R185). -/
def Cp.due (cp : Cp) : FlagSet := cp.flags &&& cp.mask &&& ~~~cp.announced

/-- ATTN is asserted while a flag is both set and enabled (R186). -/
def Cp.attn (cp : Cp) : Bool := (cp.flags &&& cp.mask) != 0

/-- The newly announced flags join the waiting NOTICE, or a NOTICE is made behind the frames that wait (R185). -/
def joinNotice (carried : FlagSet) : List CtlFrame → List CtlFrame
  | [] => [.notice carried none]
  | .notice c r :: t => .notice (c ||| carried) r :: t
  | .reply tag body :: t => .reply tag body :: joinNotice carried t

/-- At the end of an event CP announces the flags that are due (R185). -/
def announce (s : State) : State :=
  if s.cp.due = 0 then s
  else { s with cp := { s.cp with announced := s.cp.announced ||| s.cp.due, tx := joinNotice s.cp.due s.cp.tx } }

/-- Every event ends so: its flags are announced, and the part goes on. -/
def finish (s : State) : Out := .next (announce s)

/-! ### Replies (R182) -/

inductive Code where
  | ok | unknown | malformed | range | state | full | protectHeld | lockHeld | down
  | done | failed | timeout | superseded | cancelled | dropped
  deriving DecidableEq, Repr

/-- R203. -/
def Code.byte : Code → Byte
  | .ok => 0 | .unknown => 1 | .malformed => 2 | .range => 3 | .state => 4 | .full => 5 | .protectHeld => 6
  | .lockHeld => 7 | .down => 8 | .done => 9 | .failed => 10 | .timeout => 11 | .superseded => 12 | .cancelled => 13
  | .dropped => 14

/-- The kind byte of each request (R203). -/
inductive ReqKind where
  | setNode | busEnable | busTiming | sweepNow | forget | readRoster | setPanel | setKey | keyTiming | readPanel
  | setSource | setDest | protect | defineSalvo | readDest | take | takeCancel | fireSalvo | routerTiming | readQueue
  | setMixer | readMixer | setBinding | setPosition | call | readTally | setHouse | setLamp | lampTiming | setPort
  | setGroup | addStanding | dropStanding | readPaths | gainTiming | readMatrix | status | identify | setMask | clearFlags
  | reset | profileSave | profileLoad
  deriving DecidableEq, Repr

def ReqKind.byte : ReqKind → Byte
  | .setNode => 0x01 | .busEnable => 0x02 | .busTiming => 0x03 | .sweepNow => 0x04 | .forget => 0x05
  | .readRoster => 0x06 | .setPanel => 0x07 | .setKey => 0x08 | .keyTiming => 0x09 | .readPanel => 0x0A
  | .setSource => 0x0B | .setDest => 0x0C | .protect => 0x0D | .defineSalvo => 0x0E | .readDest => 0x0F
  | .take => 0x10 | .takeCancel => 0x11 | .fireSalvo => 0x12 | .routerTiming => 0x13 | .readQueue => 0x14
  | .setMixer => 0x15 | .readMixer => 0x16 | .setBinding => 0x17 | .setPosition => 0x18 | .call => 0x19
  | .readTally => 0x1A | .setHouse => 0x1B | .setLamp => 0x1C | .lampTiming => 0x1D | .setPort => 0x1E
  | .setGroup => 0x1F | .addStanding => 0x20 | .dropStanding => 0x21 | .readPaths => 0x22 | .gainTiming => 0x23
  | .readMatrix => 0x24 | .status => 0x25 | .identify => 0x26 | .setMask => 0x27 | .clearFlags => 0x28
  | .reset => 0x29 | .profileSave => 0x2A | .profileLoad => 0x2B

/-- Make a REPLY frame behind the frames that wait (R180, R182). -/
def makeReply (tag kind : Byte) (code : Code) (content : List Byte) (s : State) : State :=
  { s with cp := { s.cp with tx := s.cp.tx ++ [.reply tag (kind :: code.byte :: content)] } }

/-- A request leaves the outstanding-request list. -/
def endRequest (tag : Byte) (s : State) : State :=
  { s with cp := { s.cp with outstanding := s.cp.outstanding.filter (·.tag != tag) } }

/-- The owning block makes a deferred reply; a request that a RESET has dropped has none (R182, R191). -/
def deferredReply (tag kind : Byte) (code : Code) (content : List Byte) (s : State) : State :=
  if s.cp.outstanding.contains ⟨tag, kind⟩ then makeReply tag kind code content (endRequest tag s) else s

/-! ### A RESET in progress (R191) -/

/-- A RESET is in progress and the block has not taken its soft reset. -/
def yetToReset (b : Block) (s : State) : Bool := s.cp.resetting.any (·.left.contains b)

/-! ### Taking a request (R181, R183) -/

/-- The classes of the catalogue (10.6). STATUS and IDENTIFY are admitted always. -/
inductive Class where
  | always | read | live | config | profile | reset
  deriving DecidableEq, Repr

/-- A profile operation is in progress: a save, or a load taken on request (chapter 10, "Profile operation"). -/
def Pm.operating (pm : Pm) : Bool :=
  match pm.op with
  | .idle => false
  | .walking w => w.request.isSome
  | .saving _ => true

/-- The table of R183. -/
def admits (s : State) (c : Class) : Bool :=
  match c with
  | .always => true
  | .read | .live => s.cp.mode == .run && s.cp.resetting.isNone
  | .reset => s.cp.mode == .run && s.cp.resetting.isNone
  | .config | .profile => s.cp.mode == .run && s.cp.resetting.isNone && !s.pm.operating

/-- What the owning block answers: a reply made now, or at a later event (R182). -/
inductive Answer where
  | now (code : Code) (content : List Byte) (s : State)
  | later (s : State)

/-- A refusal that changes nothing. -/
def Answer.refuse (code : Code) (s : State) : Answer := .now code [] s

/-- The frame being received is discarded: counted, LINK set, the receiver HUNTING (R180). -/
def discardFrame (s : State) : State :=
  setFlag .link { s with cp := { s.cp with linkErrors := bump s.cp.linkErrors, inFrame := false } }

/-- A clean request is taken by the checks of R181; `own` is the owning block's part, the request being in the list. -/
def takeRequest (kind tag : Byte) (cls : Class) (body : List Byte) (own : List Byte → State → Answer) (s : State) : State :=
  if Config.bodyMax < body.length then discardFrame s
  else
    let s := { s with cp := { s.cp with inFrame := false } }
    if tag = 0 ∨ s.cp.outstanding.any (·.tag == tag) then makeReply tag kind .malformed [] s
    else if Config.requestsMax ≤ s.cp.outstanding.length then makeReply tag kind .full [] s
    else if !admits s cls then makeReply tag kind .state [] s
    else
      match own body { s with cp := { s.cp with outstanding := s.cp.outstanding ++ [⟨tag, kind⟩] } } with
      | .now code content t => makeReply tag kind code content (endRequest tag t)
      | .later t => t

/-- The meaning of a request. -/
def request (k : ReqKind) (cls : Class) (own : List Byte → State → Answer) (tag : Byte) (body : List Byte) (s : State) : Out :=
  finish (takeRequest k.byte tag cls body own s)

/-- The body is empty, as a request without fields calls for. -/
def noFields (own : State → Answer) (body : List Byte) (s : State) : Answer :=
  if body.isEmpty then own s else .refuse .malformed s

/-- The class of a request that reads back when its presence byte, at a place of the body, names no field (R139, R140, R176, R183). -/
def readbackClass (place : Nat) (body : List Byte) : Class := if carriesField place body then .config else .read

/-! ### Long lists (R203) -/

/-- An optional 2-byte skip count at the end of a read request. -/
def skipOf : List Byte → Option Nat
  | [] => some 0
  | [a, b] => some (beNat [a, b])
  | _ => none

/-- Whole items from the front, as many as fit in `room` bytes. -/
def fitItems : Nat → List (List Byte) → List (List Byte)
  | _, [] => []
  | room, x :: t => if x.length ≤ room then x :: fitItems (room - x.length) t else []

/-- A reply's content with a long list: what its rule names before the list, the whole length, the number of items given, the
items, and what its rule names after the list (R203, log 14). The two bytes of kind and code stand before it in the body. -/
def longList (front : List Byte) (items : List (List Byte)) (skip : Nat) (tail : List Byte) : List Byte :=
  let given := fitItems (Config.bodyMax - (front.length + tail.length + 6)) (items.drop skip)
  front ++ e2 items.length ++ e2 given.length ++ given.flatten ++ tail

end Sys2Proof.Machine
end

