-- ==== Sys2Proof/Machine/Formats.lean ====
section
/-! DEFINITION. The checks, and the bytes of every frame the part sends (chapter 12). -/

namespace Sys2Proof.Machine

/-! ### Checks -/

/-- One data bit into the check register (R203). -/
def crcBit (r : BitVec 16) (bit : Bool) : BitVec 16 := if r.msb != bit then (r <<< 1) ^^^ 0x1021#16 else r <<< 1

/-- One byte into the check register, most significant bit first. -/
def crcByte (r : BitVec 16) (b : Byte) : BitVec 16 :=
  [7, 6, 5, 4, 3, 2, 1, 0].foldl (fun x i => crcBit x (b.getLsbD i)) r

/-- The 16-bit check of the Control Line, the Panel Bus and the profile image (R203). -/
def crc16 (bytes : List Byte) : BitVec 16 := bytes.foldl crcByte 0xFFFF#16

/-- The two bytes of the check, high byte first. -/
def crcBytes (bytes : List Byte) : List Byte := [(crc16 bytes).extractLsb' 8 8, (crc16 bytes).extractLsb' 0 8]

/-- The one-byte sum check of the Router, Mixer and Matrix Lines (R205). -/
def sumCheck (bytes : List Byte) : Byte := -bytes.foldl (· + ·) 0

/-! ### Frames -/

/-- SYNC, the bytes given and their CRC. -/
def crcFrame (sync : Byte) (bytes : List Byte) : List Byte := sync :: (bytes ++ crcBytes bytes)

/-- SYNC, the bytes given and their sum check. -/
def sumFrame (sync : Byte) (bytes : List Byte) : List Byte := sync :: (bytes ++ [sumCheck bytes])

def flagSetBytes (f : FlagSet) : List Byte := [f.extractLsb' 8 8, f.extractLsb' 0 8]

/-- KIND, TAG and body of a Control Line frame. A NOTICE not yet begun reports no flag set (R185, R203). -/
def CtlFrame.content : CtlFrame → Byte × Byte × List Byte
  | .reply tag body => (0xF0, tag, body)
  | .notice carried reported => (0xF1, 0, flagSetBytes carried ++ flagSetBytes (reported.getD 0))

/-- The bytes of a Control Line frame (R180, R203). -/
def CtlFrame.wire (f : CtlFrame) : List Byte :=
  let c := f.content
  crcFrame 0x7E (BitVec.ofNat 8 c.2.2.length :: c.1 :: c.2.1 :: c.2.2)

/-- KIND and fields of a Panel Bus frame (R204). -/
def PbFrame.content : PbFrame → Byte × List Byte
  | .pass t => (0x01, e1 t)
  | .ask f t => (0x02, e1 f ++ e1 t)
  | .room f t => (0x03, e1 f ++ e1 t)
  | .noroom f t => (0x04, e1 f ++ e1 t)
  | .cargo f t q lamps =>
    (0x05, e1 f ++ e1 t ++ e1 q ++ e1 2 ++ e1 lamps.length ++ lamps.flatMap fun l => e1 l.1 ++ l.2.bytes)
  | .got f t => (0x06, e1 f ++ e1 t)
  | .sweep => (0x07, [])
  | .probe t => (0x08, e1 t)
  | .ring ids => (0x0A, ids.flatMap e1)

/-- The bytes of a Panel Bus frame (R204). -/
def PbFrame.wire (f : PbFrame) : List Byte :=
  crcFrame 0xC5 (f.content.1 :: BitVec.ofNat 8 f.content.2.length :: f.content.2)

/-- The bytes of a Router Line frame (R205). -/
def RouterFrame.wire : RouterFrame → List Byte
  | .xset d s => sumFrame 0x02 (0x10 :: e1 d ++ e1 s)
  | .xask d _ => sumFrame 0x02 (0x11 :: e1 d)

/-- The code of a gain: MUTE 0, a gain g as g + 81 (R168). -/
def gainCode : Gain → Byte
  | .mute => 0
  | .steps g => BitVec.ofInt 8 (g + 81)

/-- The bytes of a Matrix Line frame (R205). -/
def MatrixFrame.wire : MatrixFrame → List Byte
  | .gain l t g => sumFrame 0x5A (0x51 :: e1 l ++ e1 t ++ [gainCode g])
  | .muteAll => sumFrame 0x5A [0x52]
  | .ping => sumFrame 0x5A [0x53]

/-- The bytes of a mixer line frame (R108, R205). -/
def MixerFrame.wire : MixerFrame → List Byte
  | .resend => sumFrame 0x16 [0x3F]

end Sys2Proof.Machine
end

