-- ==== Sys2Proof/Decode.lean ====
section
/-! DEFINITION. The table gives no row any bits, so no word spells a command; the bytes of the part's lines do. A whole frame
heard on a line is the command of its event (chapter 12), on the Control Line after that of its SYNC, and a command that is a
received frame has its bytes. -/

namespace Sys2Proof

open Machine

/-- The command a word spells by the table's bits: no row of this table has bits. -/
def decodeTableWord (_nbits _w : Nat) : Option Instr := none

/-- The lines on which the part receives (chapters 1, 4, 5, 9 and 10). -/
inductive Line where
  | control | panelBus | router | mixer (x : Mixer) | matrix
  deriving DecidableEq, Repr

/-- The request of a kind byte (R203). -/
def requestOf (kind tag : Byte) (body : List Byte) : Instr :=
  match kind.toNat with
  | 0x01 => .setNode tag body
  | 0x02 => .busEnable tag body
  | 0x03 => .busTiming tag body
  | 0x04 => .sweepNow tag body
  | 0x05 => .forget tag body
  | 0x06 => .readRoster tag body
  | 0x07 => .setPanel tag body
  | 0x08 => .setKey tag body
  | 0x09 => .keyTiming tag body
  | 0x0A => .readPanel tag body
  | 0x0B => .setSource tag body
  | 0x0C => .setDest tag body
  | 0x0D => .protect tag body
  | 0x0E => .defineSalvo tag body
  | 0x0F => .readDest tag body
  | 0x10 => .take tag body
  | 0x11 => .takeCancel tag body
  | 0x12 => .fireSalvo tag body
  | 0x13 => .routerTiming tag body
  | 0x14 => .readQueue tag body
  | 0x15 => .setMixer tag body
  | 0x16 => .readMixer tag body
  | 0x17 => .setBinding tag body
  | 0x18 => .setPosition tag body
  | 0x19 => .call tag body
  | 0x1A => .readTally tag body
  | 0x1B => .setHouse tag body
  | 0x1C => .setLamp tag body
  | 0x1D => .lampTiming tag body
  | 0x1E => .setPort tag body
  | 0x1F => .setGroup tag body
  | 0x20 => .addStanding tag body
  | 0x21 => .dropStanding tag body
  | 0x22 => .readPaths tag body
  | 0x23 => .gainTiming tag body
  | 0x24 => .readMatrix tag body
  | 0x25 => .status tag body
  | 0x26 => .identify tag body
  | 0x27 => .setMask tag body
  | 0x28 => .clearFlags tag body
  | 0x29 => .reset tag body
  | 0x2A => .profileSave tag body
  | 0x2B => .profileLoad tag body
  | _ => .unknownKind kind tag body

/-- KIND, TAG and body of a command that is a clean request (R203). -/
def requestParts : Instr → Option (Byte × Byte × List Byte)
  | .unknownKind kind tag body => some (kind, tag, body)
  | .setNode tag body => some (ReqKind.setNode.byte, tag, body)
  | .busEnable tag body => some (ReqKind.busEnable.byte, tag, body)
  | .busTiming tag body => some (ReqKind.busTiming.byte, tag, body)
  | .sweepNow tag body => some (ReqKind.sweepNow.byte, tag, body)
  | .forget tag body => some (ReqKind.forget.byte, tag, body)
  | .readRoster tag body => some (ReqKind.readRoster.byte, tag, body)
  | .setPanel tag body => some (ReqKind.setPanel.byte, tag, body)
  | .setKey tag body => some (ReqKind.setKey.byte, tag, body)
  | .keyTiming tag body => some (ReqKind.keyTiming.byte, tag, body)
  | .readPanel tag body => some (ReqKind.readPanel.byte, tag, body)
  | .setSource tag body => some (ReqKind.setSource.byte, tag, body)
  | .setDest tag body => some (ReqKind.setDest.byte, tag, body)
  | .protect tag body => some (ReqKind.protect.byte, tag, body)
  | .defineSalvo tag body => some (ReqKind.defineSalvo.byte, tag, body)
  | .readDest tag body => some (ReqKind.readDest.byte, tag, body)
  | .take tag body => some (ReqKind.take.byte, tag, body)
  | .takeCancel tag body => some (ReqKind.takeCancel.byte, tag, body)
  | .fireSalvo tag body => some (ReqKind.fireSalvo.byte, tag, body)
  | .routerTiming tag body => some (ReqKind.routerTiming.byte, tag, body)
  | .readQueue tag body => some (ReqKind.readQueue.byte, tag, body)
  | .setMixer tag body => some (ReqKind.setMixer.byte, tag, body)
  | .readMixer tag body => some (ReqKind.readMixer.byte, tag, body)
  | .setBinding tag body => some (ReqKind.setBinding.byte, tag, body)
  | .setPosition tag body => some (ReqKind.setPosition.byte, tag, body)
  | .call tag body => some (ReqKind.call.byte, tag, body)
  | .readTally tag body => some (ReqKind.readTally.byte, tag, body)
  | .setHouse tag body => some (ReqKind.setHouse.byte, tag, body)
  | .setLamp tag body => some (ReqKind.setLamp.byte, tag, body)
  | .lampTiming tag body => some (ReqKind.lampTiming.byte, tag, body)
  | .setPort tag body => some (ReqKind.setPort.byte, tag, body)
  | .setGroup tag body => some (ReqKind.setGroup.byte, tag, body)
  | .addStanding tag body => some (ReqKind.addStanding.byte, tag, body)
  | .dropStanding tag body => some (ReqKind.dropStanding.byte, tag, body)
  | .readPaths tag body => some (ReqKind.readPaths.byte, tag, body)
  | .gainTiming tag body => some (ReqKind.gainTiming.byte, tag, body)
  | .readMatrix tag body => some (ReqKind.readMatrix.byte, tag, body)
  | .status tag body => some (ReqKind.status.byte, tag, body)
  | .identify tag body => some (ReqKind.identify.byte, tag, body)
  | .setMask tag body => some (ReqKind.setMask.byte, tag, body)
  | .clearFlags tag body => some (ReqKind.clearFlags.byte, tag, body)
  | .reset tag body => some (ReqKind.reset.byte, tag, body)
  | .profileSave tag body => some (ReqKind.profileSave.byte, tag, body)
  | .profileLoad tag body => some (ReqKind.profileLoad.byte, tag, body)
  | _ => none

/-- The four bytes of a number, most significant first. -/
def number32 (a b c d : Byte) : BitVec 32 := a ++ b ++ c ++ d

/-- The Control Line's receiver, HUNTING, over the bytes given, `fuel` frames at most: each SYNC found, and the frame it begins as its
request or as a discard, after which it hunts on (R180, R203). Bytes before a SYNC are dropped, and a frame that has not ended makes
nothing yet (log 9). -/
def hearFrames : Nat → List Byte → List Instr
  | 0, _ => []
  | fuel + 1, bytes =>
    match bytes.dropWhile (· != 0x7E) with
    | [] => []
    | [_] => [.syncFoundWhileHunting]
    | _ :: len :: rest =>
      if Config.bodyMax < len.toNat then .syncFoundWhileHunting :: .controlFrameDiscard :: hearFrames fuel rest
      else match rest with
        | kind :: tag :: more =>
          if more.length < len.toNat + 2 then [.syncFoundWhileHunting]
          else
            let body := more.take len.toNat
            let check := (more.drop len.toNat).take 2
            .syncFoundWhileHunting
              :: (if check = crcBytes (len :: kind :: tag :: body) then requestOf kind tag body else .controlFrameDiscard)
              :: hearFrames fuel (more.drop (len.toNat + 2))
        | _ => [.syncFoundWhileHunting]

/-- The commands of the bytes a HUNTING receiver gets on the Control Line; a frame takes two bytes at least. -/
def hearControl (bytes : List Byte) : List Instr := hearFrames bytes.length bytes

/-- The command of a Panel Bus frame whose check is good, by KIND and fields (R1, R204). -/
def panelBusFields (kind : Byte) (fields : List Byte) : Instr :=
  match kind.toNat, fields with
  | 0x01, [t] => .passReceived t
  | 0x02, [f, t] => .askReceived f t
  | 0x03, [f, t] => .roomReceived f t
  | 0x04, [f, t] => .noroomReceived f t
  | 0x05, f :: t :: q :: payload => .cargoReceived f t q payload
  | 0x06, [f, t] => .gotReceived f t
  | 0x07, [] => .activity (some .sweep)
  | 0x08, [t] => .activity (some (.probe t))
  | 0x09, [f, k, a, b, c, d, n] => .hereReceived f k (number32 a b c d) n
  | 0x0A, ids => .activity (some (.ring ids))
  | _, _ => .pbBadFrame

/-- A Panel Bus frame, from SYNC to the check (R1, R204). -/
def hearPanelBus (bytes : List Byte) : Instr :=
  match bytes with
  | sync :: kind :: len :: rest =>
    let fields := rest.take len.toNat
    if sync = 0xC5 ∧ rest.length = len.toNat + 2 ∧ rest.drop len.toNat = crcBytes (kind :: len :: fields) then
      let i := panelBusFields kind fields
      if i.wellFormed then i else .pbBadFrame
    else .pbBadFrame
  | _ => .pbBadFrame

/-- The bytes of a frame with a sum check: its KIND and fields, if SYNC and check are good (R205). A sequence that SYNC does not
begin is no good frame; its line counts it among the bad ones (log 45). -/
def sumFields (sync : Byte) (bytes : List Byte) : Option (List Byte) :=
  match bytes with
  | first :: rest =>
    if first = sync ∧ 2 ≤ rest.length ∧ rest.drop (rest.length - 1) = [sumCheck (rest.take (rest.length - 1))] then
      some (rest.take (rest.length - 1))
    else none
  | [] => none

/-- A Router Line frame (R78, R205). -/
def hearRouter (bytes : List Byte) : Instr :=
  match sumFields 0x02 bytes with
  | some [0x20, d, s] => .xdone d s
  | some [0x21, d, r] => .xfail d r
  | some [0x22, d, s] => .xstate d s
  | some [0x23, d, s] => .xmoved d s
  | _ => .routerBadFrame

/-- A frame of a mixer (R100, R205). -/
def hearMixer (x : Mixer) (bytes : List Byte) : Instr :=
  let i : Instr := match sumFields 0x16 bytes with
    | some [0x31, b, i] => .busRecord x b i
    | some [0x32, v] => .transRecord x v
    | some [0x33, k, o, f] => .keyerRecord x k o f
    | some [0x34] => .aliveRecord x
    | _ => .mixerBadFrame x
  if i.wellFormed then i else .mixerBadFrame x

/-- A Matrix Line frame (R168, R205). -/
def hearMatrix (bytes : List Byte) : Instr :=
  let i : Instr := match sumFields 0x5A bytes with
    | some [0x61, l, t] => .gainOk l t
    | some [0x62] => .muteAllOk
    | some [0x63] => .pong
    | _ => .matrixBadFrame
  if i.wellFormed then i else .matrixBadFrame

/-- The commands of what a line brings: on the Control Line those of its bytes, on the others that of one whole frame. -/
def hear : Line → List Byte → List Instr
  | .control, bytes => hearControl bytes
  | .panelBus, bytes => [hearPanelBus bytes]
  | .router, bytes => [hearRouter bytes]
  | .mixer x, bytes => [hearMixer x bytes]
  | .matrix, bytes => [hearMatrix bytes]

/-- A Panel Bus frame of KIND and fields (R204). -/
def panelBusWire (kind : Byte) (fields : List Byte) : Line × List Byte :=
  (.panelBus, crcFrame 0xC5 (kind :: BitVec.ofNat 8 fields.length :: fields))

/-- The line a received frame arrives on and the bytes it has there; none for a command that is no clean frame. -/
def lineFrame (i : Instr) : Option (Line × List Byte) :=
  match requestParts i with
  | some (kind, tag, body) => some (.control, crcFrame 0x7E (BitVec.ofNat 8 body.length :: kind :: tag :: body))
  | none =>
    match i with
    | .passReceived t => some (panelBusWire 0x01 [t])
    | .askReceived f t => some (panelBusWire 0x02 [f, t])
    | .roomReceived f t => some (panelBusWire 0x03 [f, t])
    | .noroomReceived f t => some (panelBusWire 0x04 [f, t])
    | .cargoReceived f t q payload => some (panelBusWire 0x05 (f :: t :: q :: payload))
    | .gotReceived f t => some (panelBusWire 0x06 [f, t])
    | .activity (some .sweep) => some (panelBusWire 0x07 [])
    | .activity (some (.probe t)) => some (panelBusWire 0x08 [t])
    | .hereReceived f k unit n => some (panelBusWire 0x09 (f :: k :: e4 unit ++ [n]))
    | .activity (some (.ring ids)) => some (panelBusWire 0x0A ids)
    | .xdone d s => some (.router, sumFrame 0x02 [0x20, d, s])
    | .xfail d r => some (.router, sumFrame 0x02 [0x21, d, r])
    | .xstate d s => some (.router, sumFrame 0x02 [0x22, d, s])
    | .xmoved d s => some (.router, sumFrame 0x02 [0x23, d, s])
    | .busRecord x b n => some (.mixer x, sumFrame 0x16 [0x31, b, n])
    | .transRecord x v => some (.mixer x, sumFrame 0x16 [0x32, v])
    | .keyerRecord x k o f => some (.mixer x, sumFrame 0x16 [0x33, k, o, f])
    | .aliveRecord x => some (.mixer x, sumFrame 0x16 [0x34])
    | .gainOk l t => some (.matrix, sumFrame 0x5A [0x61, l, t])
    | .muteAllOk => some (.matrix, sumFrame 0x5A [0x62])
    | .pong => some (.matrix, sumFrame 0x5A [0x63])
    | _ => none

end Sys2Proof
end

