-- ==== Sys2Proof/Machine/Routes.lean ====
section
/-! DEFINITION. RC's shared operations: tables, protects, the take queue, the window, outcomes and fires (chapters 3 and 4). -/

namespace Sys2Proof.Machine

/-! ### Tables -/

/-- A source record with both fields NONE (R75). -/
def noSource : SourceRec := ⟨none, none⟩
/-- A destination record with every field NONE (R75). -/
def noDest : DestRec := ⟨none, none, none⟩

def Rc.source (rc : Rc) (i : Nat) : SourceRec := tget noSource rc.sources i
def Rc.dest (rc : Rc) (d : Nat) : DestRec := tget noDest rc.dests d
/-- The pairs of a salvo; none when it is undefined (R69). -/
def Rc.salvo (rc : Rc) (n : Nat) : List (Nat × Nat) := tget [] rc.salvos n
/-- Pool usage: the sum of the lengths of all defined salvos (R69). -/
def Rc.poolUsed (rc : Rc) : Nat := (rc.salvos.map (·.2.length)).sum
/-- The count of fires of salvo `n` in progress (R69). -/
def Rc.firesOf (rc : Rc) (n : Nat) : Nat := rc.fires.countP (·.salvo == n)

/-- RC's reports to KD of changes taken by KD_IMAGE_REPORT (R63, R91). -/
def reportKd (l : List ImageReport) (s : State) : State :=
  { s with reports := { s.reports with kdFromRc := s.reports.kdFromRc ++ l } }

/-- RC's report to TR of a change of a confirmed source, a tally position or a tie (R60, R63). -/
def reportTrFromRc (s : State) : State :=
  { s with reports := { s.reports with trFromRc := s.reports.trFromRc + 1 } }

/-- The confirmed source of `d` becomes `v`: reported to TR, and the report for KD is answered, where it changes (R63). -/
def setConfirmed (d : Nat) (v : Option Nat) (s : State) : State × List ImageReport :=
  let r := s.rc.dest d
  if r.confirmed = v then (s, [])
  else
    (reportTrFromRc { s with rc := { s.rc with dests := tset noDest s.rc.dests d { r with confirmed := v } } },
      [.crosspoint d (r.confirmed.toList ++ v.toList)])

/-- The pending source of `d` becomes `v`: the report for KD is answered where it changes (R63). -/
def setPending (d : Nat) (v : Option Nat) (s : State) : State × List ImageReport :=
  let r := s.rc.dest d
  if r.pending = v then (s, [])
  else
    ({ s with rc := { s.rc with dests := tset noDest s.rc.dests d { r with pending := v } } },
      [.crosspoint d (r.pending.toList ++ v.toList)])

/-! ### Protects (R65) -/

/-- Whether a protect holds against a requester identity (none for FROM-HOST), and the refusal it gives. -/
def holdsAgainst (p : Option Protect) (who : Option Nat) : Option TakeOutcome :=
  match p with
  | none => none
  | some ⟨owner, .protect⟩ => if owner = who then none else some .protectHeld
  | some ⟨_, .lock⟩ => some .lockHeld

/-- The protect of `d` becomes `p`; a change is reported to KD (R63). -/
def setProtect (d : Nat) (p : Option Protect) (s : State) : State :=
  let r := s.rc.dest d
  if r.protect = p then s
  else reportKd [.protect d] { s with rc := { s.rc with dests := tset noDest s.rc.dests d { r with protect := p } } }

/-- RC takes a protect toggle of panel `n` on `d`: the state after, and whether it refuses (R66). -/
def toggleProtect (d n : Nat) (s : State) : State × Bool :=
  match (s.rc.dest d).protect with
  | none => (setProtect d (some ⟨some n, .protect⟩) s, false)
  | some ⟨some m, .protect⟩ => if m = n then (setProtect d none s, false) else (s, true)
  | some _ => (s, true)

/-- RC takes a release notification for node `n` (R68). -/
def releaseProtects (n : Nat) (s : State) : State :=
  s.rc.dests.foldl (fun t kv => if kv.2.protect.any (·.owner == some n) then setProtect kv.1 none t else t) s

/-! ### Requesters -/

/-- The requester identity of a party (chapter 3, "Requester identity"). -/
def Party.identity : Party → Option Nat
  | .host _ => none
  | .panel n _ => some n

/-- The requester identity of an entry's requester: for a fire, whoever fired the salvo. -/
def Rc.identity (rc : Rc) : Requester → Option Nat
  | .party p => p.identity
  | .fire serial => ((rc.fires.find? (·.serial == serial)).map (·.party.identity)).getD none

/-- The panel a TAKE key image may show the entry for: not for a fire (R55). -/
def Requester.panels : Requester → List Nat
  | .party (.panel n _) => [n]
  | _ => []

/-- The reply code of an outcome (R182). -/
def TakeOutcome.code : TakeOutcome → Code
  | .done => .done | .failed => .failed | .timeout => .timeout | .superseded => .superseded
  | .cancelled => .cancelled | .dropped => .dropped | .protectHeld => .protectHeld | .lockHeld => .lockHeld

/-! ### Outcomes and fires (R91, R95) -/

/-- A fire completes: KD is told for the SALVO image, and its counts go to its requester. A panel's counts and completion reach KD in
one report (R48, R95). -/
def completeFire (f : Fire) (s : State) : State :=
  let s := { s with rc := { s.rc with fires := s.rc.fires.filter (·.serial != f.serial) } }
  match f.party with
  | .host tag =>
    deferredReply tag ReqKind.fireSalvo.byte .ok (e2 f.done ++ e2 f.other ++ e2 f.skipped) (reportKd [.fire f.salvo none] s)
  | .panel n k =>
    { s with reports := { s.reports with kdFires := s.reports.kdFires ++ [⟨n, k, f.salvo, f.done, f.other, f.skipped⟩] } }

/-- An outcome is counted in its fire, which completes with its last pair (R95). -/
def countFire (serial : Nat) (o : TakeOutcome) (s : State) : State :=
  match s.rc.fires.find? (·.serial == serial) with
  | none => s
  | some f =>
    let g : Fire :=
      { f with
        awaiting := f.awaiting - 1
        done := if o = .done then f.done + 1 else f.done
        other := if o = .done then f.other else f.other + 1 }
    if g.awaiting = 0 then completeFire g s
    else { s with rc := { s.rc with fires := s.rc.fires.map fun x => if x.serial = serial then g else x } }

/-- An outcome goes to its requester, with the reports of the changes that came with it (R91). -/
def deliver (r : Requester) (o : TakeOutcome) (content : List Byte) (changes : List ImageReport) (s : State) : State :=
  match r with
  | .party (.host tag) => deferredReply tag ReqKind.take.byte o.code content (reportKd changes s)
  | .party (.panel n k) =>
    { s with reports := { s.reports with kdOutcomes := s.reports.kdOutcomes ++ [⟨n, k, o, changes⟩] } }
  | .fire serial => countFire serial o (reportKd changes s)

/-! ### The window (R81, R82, R87) -/

def TakeEntry.isWaiting (e : TakeEntry) : Bool := e.state == .waiting
def TakeEntry.isSent (e : TakeEntry) : Bool := !e.isWaiting

/-- A destination has a SENT entry. -/
def Rc.sentFor (rc : Rc) (d : Nat) : Bool := rc.queue.any fun e => e.dest == d && e.isSent
/-- A destination has a WAITING entry. -/
def Rc.waitingFor (rc : Rc) (d : Nat) : Bool := rc.queue.any fun e => e.dest == d && e.isWaiting
/-- Places of the window in use: SENT entries and outstanding queries together (R81). -/
def Rc.windowUsed (rc : Rc) : Nat := rc.queue.countP (·.isSent) + rc.queries.length
/-- A WAITING entry whose destination has no SENT entry (chapter 4, "Sendable"). An outstanding query of its destination does not hold it
back, against the reason R87 gives for its own rule (log 51). -/
def Rc.sendable (rc : Rc) (e : TakeEntry) : Bool := e.isWaiting && !rc.sentFor e.dest
/-- The lowest destination of the query set with neither a SENT entry nor an outstanding query (R87). -/
def Rc.nextQuery (rc : Rc) : Option Nat := rc.querySet.find? fun d => !rc.sentFor d && !rc.queries.any (·.dest == d)

/-- Replace the first item that satisfies `p`. -/
def replaceFirst {α : Type} (p : α → Bool) (f : α → α) : List α → List α
  | [] => []
  | x :: t => if p x then f x :: t else x :: replaceFirst p f t

/-- The re-check of an entry taken for sending: it is removed with PROTECTED or LOCKED, or becomes SENT (R82). -/
def sendEntry (e : TakeEntry) (rest : List TakeEntry) (s : State) : State :=
  match holdsAgainst (s.rc.dest e.dest).protect (s.rc.identity e.requester) with
  | some o => deliver e.requester o [] [.takes e.dest e.requester.panels] { s with rc := { s.rc with queue := rest } }
  | none =>
    let r := setPending e.dest (some e.source) s
    let s := reportKd r.2 r.1
    { s with
      rc := { s.rc with
        queue := replaceFirst s.rc.sendable (fun x => { x with state := .sent none }) s.rc.queue
        tx := s.rc.tx ++ [.xset e.dest e.source] } }

/-- A query is sent (R87). -/
def sendQuery (d : Nat) (s : State) : State :=
  { s with
    rc := { s.rc with
      querySet := s.rc.querySet.filter (· != d)
      queries := s.rc.queries ++ [⟨d, none⟩]
      tx := s.rc.tx ++ [.xask d false] } }

/-- One choice of R81 for a free place; none when the place stays free. -/
def fillPlace (s : State) : Option State :=
  if s.rc.down ∨ Config.windowPlaces ≤ s.rc.windowUsed then none
  else
    match takeFirst s.rc.sendable s.rc.queue with
    | some (e, rest) => some (sendEntry e rest s)
    | none => s.rc.nextQuery.map fun d => sendQuery d s

def fillLoop : Nat → State → State
  | 0, s => s
  | n + 1, s => match fillPlace s with
    | none => s
    | some t => fillLoop n t

/-- The choice is repeated until both places are filled or nothing remains to send (R81). -/
def fillWindow (s : State) : State := fillLoop (s.rc.queue.length + Config.windowPlaces) s

/-! ### Offering takes (R72, R80) -/

/-- The tests of R72 on a take of `d` by a party: the refusal, if one is made. -/
def takeTest (rc : Rc) (d : Nat) (who : Option Nat) : Option Code :=
  match holdsAgainst (rc.dest d).protect who with
  | some o => some o.code
  | none =>
    if rc.down then some .down
    else if !rc.waitingFor d && Config.queueMax ≤ rc.queue.length then some .full
    else none

/-- A take that has passed its tests is entered in the queue, and the sending rule is applied (R80). -/
def enqueue (d src : Nat) (r : Requester) (s : State) : State :=
  fillWindow <|
    match takeFirst (fun e => e.dest == d && e.isWaiting) s.rc.queue with
    | some (old, _) =>
      deliver old.requester .superseded [] [.takes d (old.requester.panels ++ r.panels)]
        { s with
          rc := { s.rc with
            queue := replaceFirst (fun e => e.dest == d && e.isWaiting)
              (fun e => { e with source := src, requester := r }) s.rc.queue } }
    | none =>
      reportKd [.takes d r.panels] { s with rc := { s.rc with queue := s.rc.queue ++ [⟨d, src, r, .waiting⟩] } }

/-! ### Fires (R94) -/

/-- The pairs of a salvo a fire of that identity does not skip. -/
def Rc.firePairs (rc : Rc) (n : Nat) (who : Option Nat) : List (Nat × Nat) :=
  (rc.salvo n).filter fun p => (holdsAgainst (rc.dest p.1).protect who).isNone

/-- The tests 2 to 5 of R94. -/
def fireTest (rc : Rc) (n : Nat) (who : Option Nat) : Option Code :=
  if rc.salvo n = [] then some .state
  else if rc.down then some .down
  else if Config.queueMax - rc.queue.length < ((rc.firePairs n who).filter fun p => !rc.waitingFor p.1).length then some .full
  else none

/-- A fire that has passed its tests is started, and its start reported to KD (R94); with every pair skipped it completes at once
(R95). -/
def startFire (n : Nat) (p : Party) (s : State) : State :=
  let pairs := s.rc.firePairs n p.identity
  let f : Fire :=
    { serial := s.rc.nextSerial, salvo := n, party := p, awaiting := pairs.length, done := 0, other := 0,
      skipped := (s.rc.salvo n).length - pairs.length }
  let s := reportKd [.fire n p.identity]
    { s with rc := { s.rc with fires := s.rc.fires ++ [f], nextSerial := s.rc.nextSerial + 1 } }
  if pairs = [] then completeFire f s
  else pairs.foldl (fun t q => enqueue q.1 q.2 (.fire f.serial) t) s

/-! ### The line (R84 to R90) -/

/-- The line goes DOWN: WAITING entries are dropped, queries end, ROUTER is set (R89). Frames chosen before are sent all the same (R78). -/
def routerDown (s : State) : State :=
  let waiting := s.rc.queue.filter (·.isWaiting)
  let s :=
    { s with
      rc := { s.rc with
        down := true
        queue := s.rc.queue.filter (·.isSent)
        querySet := s.rc.queries.foldl (fun q x => insertAsc q x.dest) s.rc.querySet
        queries := []
        nextProbe := some (after s.now Config.routerProbeMs) } }
  setFlag .router
    (waiting.foldl (fun t e => deliver e.requester .dropped [] [.takes e.dest e.requester.panels] t) s)

/-- A timeout is counted, and the third in a row takes an UP line DOWN (R84, R88). -/
def routerTimeout (s : State) : State :=
  let s := { s with rc := { s.rc with consecutive := bump s.rc.consecutive } }
  if !s.rc.down && Config.routerTimeouts ≤ s.rc.consecutive then routerDown s else s

/-- The first clean frame taken while DOWN brings the line UP (R90). -/
def routerUp (s : State) : State :=
  if s.rc.down then
    setFlag .router
      { s with rc := { s.rc with down := false, nextProbe := none, consecutive := 0, querySet := List.range 256 } }
  else s

/-- A reply not awaited (R85). -/
def routerStray (s : State) : State := { s with rc := { s.rc with strays := bump s.rc.strays, consecutive := 0 } }

/-- A SENT entry leaves the queue: its pending source is cleared, and what came with it is reported with the outcome. -/
def endEntry (e : TakeEntry) (rest : List TakeEntry) (o : TakeOutcome) (content : List Byte) (changes : List ImageReport)
    (s : State) : State :=
  let r := setPending e.dest none { s with rc := { s.rc with queue := rest } }
  deliver e.requester o content (r.2 ++ changes ++ [.takes e.dest e.requester.panels]) r.1

end Sys2Proof.Machine
end

