-- ==== Sys2Proof/Machine/Resolution.lean ====
section
/-! DEFINITION. TR's shared operations: contributions, the tally walk, the resolution and its reports, calls (chapter 6). -/

namespace Sys2Proof.Machine

def noColours : Colours := ⟨false, false, false⟩
/-- A position record at its power-on values (R128). -/
def noPosition : Position := { port := none, colours := noColours, hostCall := none, keyCalls := [] }

def Tr.position (tr : Tr) (p : Nat) : Position := tget noPosition tr.positions p
def Tr.bindings (tr : Tr) : Mixer → Tab Binding
  | .a => tr.bindingsA
  | .b => tr.bindingsB
def Tr.binding (tr : Tr) (m : Mixer) (i : Nat) : Binding := tget .none (tr.bindings m) i
def Mm.mixer (mm : Mm) : Mixer → MixerRec
  | .a => mm.a
  | .b => mm.b

/-- The 24 positions. -/
def positionList : List Nat := List.range 24

def Colours.add (c : Colours) : Colour → Colours
  | .red => { c with red := true }
  | .amber => { c with amber := true }
  | .green => { c with green := true }

/-- The highest colour of a set: RED over AMBER over GREEN (00_scope.md). -/
def Colours.highest (c : Colours) : Option Colour :=
  if c.red then some .red else if c.amber then some .amber else if c.green then some .green else none

def Colours.has (c : Colours) : Colour → Bool
  | .red => c.red
  | .amber => c.amber
  | .green => c.green

/-! ### Contributions (R116) -/

/-- A mixer contributes in CURRENT and STALE (R102). -/
def MixerRec.contributing (m : MixerRec) : Bool := m.line == .current || m.line == .stale

/-- The colour of what is on air: RED, or AMBER in REHEARSAL (R116). -/
def MixerRec.airColour (m : MixerRec) : Colour := if m.mode = .onAir then .red else .amber

/-- The contributions of one mixer in the order of the table of R116. -/
def mixerContributions (x : Mixer) (m : MixerRec) : List Contribution :=
  if !m.contributing then []
  else
    let b := m.state.buses
    let k := m.state.keyers
    let keyer (i : Nat) (ky : Keyer) : List Contribution :=
      if ky.onAir then [⟨x, .keyer i, ky.fill, m.airColour⟩] else []
    let from' (sel : Selection) (input : Nat) (c : Colour) : Contribution := ⟨x, sel, input, c⟩
    ([from' (.bus 0) b.pgm m.airColour, from' (.bus 1) b.pvw (if m.state.transition then m.airColour else .green)]
      ++ keyer 0 k.k0 ++ keyer 1 k.k1 ++ keyer 2 k.k2 ++ keyer 3 k.k3
      ++ [from' (.bus 2) b.iso1 .amber, from' (.bus 3) b.iso2 .amber, from' (.bus 4) b.iso3 .amber,
          from' (.bus 5) b.iso4 .amber]).filter fun c => c.input != 0

/-- The contributions of both mixers, A before B. -/
def contributionsOf (mm : Mm) : List Contribution := mixerContributions .a mm.a ++ mixerContributions .b mm.b

/-! ### The walk (R117, R118) -/

/-- What one walk came to: the positions it visited, its stop, and whether its input was unbound. -/
structure WalkResult where
  visited : List Nat
  stop : Option (StopKind × Nat)
  unbound : Bool
  deriving DecidableEq, Repr

/-- Visit source `src` and go on by its tie, `hops` hops being left and `met` the met destinations. -/
def visitFrom (rc : Rc) : Nat → List Nat → Nat → List Nat → WalkResult
  | hops, met, src, seen =>
    let r := rc.source src
    let seen := seen ++ r.position.toList
    match r.tie with
    | none => ⟨seen, none, false⟩
    | some d =>
      if met.contains d then ⟨seen, some (.loop, d), false⟩
      else
        match hops with
        | 0 => ⟨seen, some (.limit, d), false⟩
        | hops + 1 =>
          match (rc.dest d).confirmed with
          | none => ⟨seen, none, false⟩
          | some next => visitFrom rc hops (d :: met) next seen

/-- The walk that begins at a binding (R117). -/
def walk (rc : Rc) : Binding → WalkResult
  | .none => ⟨[], none, true⟩
  | .internal => ⟨[], none, false⟩
  | .source s => visitFrom rc Config.hopsMax [] s []
  | .dest d =>
    match (rc.dest d).confirmed with
    | none => ⟨[], none, false⟩
    | some s => visitFrom rc Config.hopsMax [d] s []

/-! ### The resolution (R119 to R121, R123, R124) -/

/-- The colours the walks give a position. -/
def coloursFrom (walks : List (Contribution × WalkResult)) (p : Nat) : Colours :=
  walks.foldl (fun c w => if w.2.visited.contains p then c.add w.1.colour else c) noColours

/-- The LIVE port set, ascending: ports of positions whose colour set holds RED (R123). -/
def Tr.live (tr : Tr) : List Nat :=
  sortAsc (positionList.filterMap fun p => if (tr.position p).colours.red then (tr.position p).port else none)

/-- The guard state of a position (R124). -/
def Tr.guard (tr : Tr) (p : Nat) : Bool := (tr.position p).colours.red

/-- The resolution of the contributions given, in place of the one held; bindings, ports and calls stay. -/
def resolve (rc : Rc) (cs : List Contribution) (tr : Tr) : Tr :=
  let walks := cs.map fun c => (c, walk rc (tr.binding c.mixer c.input))
  { tr with
    positions := positionList.foldl
      (fun t p => tset noPosition t p { tget noPosition t p with colours := coloursFrom walks p }) tr.positions
    contributions := cs
    stops := walks.filterMap fun w => w.2.stop.map fun st => ⟨w.1.mixer, w.1.input, w.1.colour, st.1, st.2⟩
    unbound := walks.countP (·.2.unbound)
    resolutions := bump tr.resolutions }

/-- TR reports what differs between two of its states, with the new values (R121). -/
def reportResolution (old : Tr) (s : State) : State :=
  let new := s.tr
  let changed := (positionList.filter fun p => (old.position p).colours != (new.position p).colours).map fun p =>
    (p, (new.position p).colours)
  let guards := (positionList.filter fun p => old.guard p != new.guard p).map fun p => (p, new.guard p)
  let live := if old.live = new.live then none else some new.live
  let r := s.reports
  { s with
    reports := { r with
      ldRelights := r.ldRelights ++ if changed = [] then [] else [changed]
      kdFromTr := r.kdFromTr ++ (if changed = [] then [] else [.colours changed]) ++ (if live.isSome then [.live new.live] else [])
      teFromTr := r.teFromTr ++ if live.isNone ∧ guards = [] then [] else [⟨live, guards⟩] } }

/-- TR recomputes the whole resolution, reports the differences and sets TALLY (R120, R121). -/
def recompute (s : State) : State :=
  let new := resolve s.rc (contributionsOf s.mm) s.tr
  let changed := positionList.any fun p => (s.tr.position p).colours != (new.position p).colours
  setFlagIf (changed || new.stops != []) .tally (reportResolution s.tr { s with tr := new })

/-! ### Calls (R125) -/

/-- A call is active on a position while its list holds a cause. -/
def Position.called (p : Position) : Bool := p.hostCall.isSome || !p.keyCalls.isEmpty

/-- Change a position's call causes; a call that begins or ends is reported to LD. -/
def changeCalls (p : Nat) (f : Position → Position) (s : State) : State :=
  let old := s.tr.position p
  let new := f old
  let s := { s with tr := { s.tr with positions := tset noPosition s.tr.positions p new } }
  if old.called = new.called then s
  else { s with reports := { s.reports with ldCalls := s.reports.ldCalls ++ [(p, new.called)] } }

def addKeyCall (p n k : Nat) (s : State) : State :=
  changeCalls p (fun x => if x.keyCalls.contains (n, k) then x else { x with keyCalls := x.keyCalls ++ [(n, k)] }) s

def removeKeyCall (p n k : Nat) (s : State) : State :=
  changeCalls p (fun x => { x with keyCalls := x.keyCalls.filter (· != (n, k)) }) s

end Sys2Proof.Machine
end

