-- ==== Sys2Proof/Machine/Lamps.lean ====
section
/-! DEFINITION. The meanings of LD's commands (chapter 7). -/

namespace Sys2Proof.Machine

/-! ### Channels (R130 to R135) -/

def noChannel : Channel := { lit := false, target := 0, level := 0, output := 0, pin := 0 }
/-- A position's lamp settings at power-on (R141). -/
def plainLamp : Lamp := { trim := 255, manual := none, exclusive := false, phase := none }

def Ld.channel (ld : Ld) (i : Nat) : Channel := tget noChannel ld.channels i
def Ld.lamp (ld : Ld) (p : Nat) : Lamp := tget plainLamp ld.lamps p

/-- The three channels of a position in order of number: 3p red, 3p + 1 green, 3p + 2 amber (chapter 7). -/
def channelColours : List (Nat × Colour) := [(0, .red), (1, .green), (2, .amber)]

/-- R131: whether a colour is lit. -/
def litFor (exclusive : Bool) (cs : Colours) (c : Colour) : Bool := if exclusive then cs.highest == some c else cs.has c

/-- The target of a lit channel of the position (R132). -/
def Ld.litTarget (ld : Ld) (p : Nat) : Nat :=
  match (ld.lamp p).manual with
  | some m => m
  | none => max ld.floor ((ld.house * (ld.lamp p).trim + 127) / 255)

/-- The table of R133 for one channel. -/
def Channel.relit (c : Channel) (lit : Bool) (target : Nat) : Channel :=
  { c with
    lit := lit
    target := if lit then target else 0
    level := if !lit then 0 else if c.lit then c.level else target }

/-- R135 for one channel of a position. -/
def outputLevel (phase : Option Bool) (anyLit amber : Bool) (wouldBe level : Nat) : Nat :=
  match phase with
  | none => level
  | some false => 0
  | some true => if anyLit then level else if amber then wouldBe else 0

/-- Some channel of the position is lit. -/
def Ld.anyLit (ld : Ld) (p : Nat) : Bool := channelColours.any fun x => (ld.channel (3 * p + x.1)).lit

/-- Set the output levels of a position's channels (R135). -/
def setOutputs (ld : Ld) (p : Nat) : Ld :=
  let phase := (ld.lamp p).phase.map (·.1)
  let lit := ld.anyLit p
  { ld with
    channels := channelColours.foldl (fun t x =>
      let c := tget noChannel t (3 * p + x.1)
      tset noChannel t (3 * p + x.1) { c with output := outputLevel phase lit (x.2 == .amber) (ld.litTarget p) c.level })
      ld.channels }

/-- Relight a position with its colour set (R133). -/
def relightWith (cs : Colours) (ld : Ld) (p : Nat) : Ld :=
  let lamp := ld.lamp p
  setOutputs
    { ld with
      channels := channelColours.foldl (fun t x =>
        tset noChannel t (3 * p + x.1) ((tget noChannel t (3 * p + x.1)).relit (litFor lamp.exclusive cs x.2) (ld.litTarget p)))
        ld.channels } p

/-- Relight a position with the colour set TR holds (R130). -/
def relight (s : State) (p : Nat) : State := { s with ld := relightWith (s.tr.position p).colours s.ld p }

def relightAll (s : State) : State := positionList.foldl relight s

/-- One step of a level toward its target (R134). -/
def stepLevel (step : Nat) (c : Channel) : Channel :=
  { c with
    level := if c.level < c.target then min c.target (c.level + step) else max c.target (c.level - step) }

/-- A lamp tick (R134). -/
def tickLamps (ld : Ld) : Ld :=
  positionList.foldl setOutputs
    { ld with
      channels := ld.channels.map fun kv => (kv.1, stepLevel ld.step kv.2)
      nextTick := after ld.nextTick ld.tick }

/-- A lamp tick if it is due. -/
def lampTick (s : State) : State := if due s.now s.ld.nextTick then { s with ld := tickLamps s.ld } else s

/-! ### Requests -/

/-- A house level is stored; a change relights every position (R138). -/
def storeHouse (h : Nat) (s : State) : State :=
  if h = s.ld.house then s else relightAll { s with ld := { s.ld with house := h } }

/-- R138. -/
def ownSetHouse (body : List Byte) (s : State) : Answer :=
  match presence [1] body with
  | none => .refuse .malformed s
  | some fs =>
    let s := match fieldAt fs 0 with
      | some h => storeHouse (clampN 0 255 h) s
      | none => s
    .now .ok (e1 s.ld.house) s

def execSetHouse (tag : Byte) (body : List Byte) (s : State) : Out := request .setHouse .live ownSetHouse tag body s

/-- A manual level field: NONE, or a value clamped to 255 (R202). -/
def manualField (n : Nat) : Option Nat := if n = 65535 then none else some (clampN 0 255 n)

/-- A position's lamp settings are stored; a change relights the position (R139). -/
def storeLamp (p : Nat) (fs : List (Option Nat)) (s : State) : State :=
  let old := s.ld.lamp p
  let new : Lamp :=
    { old with
      trim := ((fieldAt fs 0).map (clampN 0 255)).getD old.trim
      manual := ((fieldAt fs 1).map manualField).getD old.manual
      exclusive := ((fieldAt fs 2).map (· == 1)).getD old.exclusive }
  if new = old then s else relight { s with ld := { s.ld with lamps := tset plainLamp s.ld.lamps p new } } p

/-- The reply of SET-LAMP (R139, log 14): a call phase of 0xFF where no call is active. -/
def lampContent (ld : Ld) (p : Nat) : List Byte :=
  let x := ld.lamp p
  e1 x.trim ++ eWide x.manual ++ eBool x.exclusive ++
    (channelColours.flatMap fun c =>
      let ch := ld.channel (3 * p + c.1)
      eBool ch.lit ++ e1 ch.target ++ e1 ch.level ++ e1 ch.output) ++
    eBool x.phase.isSome ++ match x.phase with
      | some (on, _) => eBool on
      | none => [0xFF]

/-- R139. -/
def ownSetLamp (body : List Byte) (s : State) : Answer :=
  match body with
  | p :: rest => match presence [1, 2, 1] rest with
    | none => .refuse .malformed s
    | some fs =>
      if !okIf (· ≤ 1) (fieldAt fs 2) then .refuse .malformed s
      else if 23 < p.toNat then .refuse .range s
      else
        let s := storeLamp p.toNat fs s
        .now .ok (lampContent s.ld p.toNat) s
  | [] => .refuse .malformed s

def execSetLamp (tag : Byte) (body : List Byte) (s : State) : Out :=
  request .setLamp (readbackClass 1 body) ownSetLamp tag body s

/-- R140: a tick setting moves the next tick; one already reached falls at once, the ticks then running at the new period. A
changed floor relights. -/
def storeLampTiming (fs : List (Option Nat)) (s : State) : State :=
  let ld := s.ld
  let s := { s with ld := { ld with step := ((fieldAt fs 1).map (clampN 1 255)).getD ld.step } }
  let s := match fieldAt fs 2 with
    | some f =>
      let f := clampN 0 255 f
      if f = ld.floor then s else relightAll { s with ld := { s.ld with floor := f } }
    | none => s
  match fieldAt fs 0 with
  | none => s
  | some t =>
    let tick := clampN 10 250 t
    let next := after (ld.nextTick - BitVec.ofNat 32 ld.tick) tick
    lampTick { s with ld := { s.ld with tick := tick, nextTick := if due s.now next then s.now else next } }

/-- R140. -/
def ownLampTiming (body : List Byte) (s : State) : Answer :=
  match presence [1, 1, 1] body with
  | none => .refuse .malformed s
  | some fs =>
    let s := storeLampTiming fs s
    .now .ok (e1 s.ld.tick ++ e1 s.ld.step ++ e1 s.ld.floor) s

def execLampTiming (tag : Byte) (body : List Byte) (s : State) : Out :=
  request .lampTiming (readbackClass 0 body) ownLampTiming tag body s

/-! ### Reports, ticks, phases -/

/-- R133: the oldest relight report is taken, with the colour sets TR holds by then (R130, log 6). -/
def takeRelight (s : State) : State :=
  match s.reports.ldRelights with
  | [] => s
  | changed :: rest => (changed.map (·.1)).foldl relight { s with reports := { s.reports with ldRelights := rest } }

def execLdRelight (s : State) : Out := finish (takeRelight s)

/-- A position's call phase becomes `ph`, and its outputs are set (R135, R136). -/
def setPhase (p : Nat) (ph : Option (Bool × Millis)) (ld : Ld) : Ld :=
  setOutputs { ld with lamps := tset plainLamp ld.lamps p { ld.lamp p with phase := ph } } p

/-- The oldest call report of a position is taken, if it says what is to be taken (R136). -/
def takeCallReport (p : Nat) (begins : Bool) (s : State) : State :=
  match takeFirst (fun (x : Nat × Bool) => x.1 == p) s.reports.ldCalls with
  | some (r, rest) =>
    if r.2 = begins then
      { s with
        reports := { s.reports with ldCalls := rest }
        ld := setPhase p (if begins then some (true, after s.now Config.phaseMs) else none) s.ld }
    else s
  | none => s

def execLdCallStart (p : Nat) (s : State) : Out := finish (takeCallReport p true s)

def execLdCallEnd (p : Nat) (s : State) : Out := finish (takeCallReport p false s)

def execLampTick (s : State) : Out := finish (lampTick s)

/-- R136: the phase changes, and its expiry moves on by 125 ms. -/
def expirePhase (p : Nat) (s : State) : State :=
  match (s.ld.lamp p).phase with
  | none => s
  | some (on, e) => if due s.now e then { s with ld := setPhase p (some (!on, after e Config.phaseMs)) s.ld } else s

def execPhaseExpiry (p : Nat) (s : State) : Out := finish (expirePhase p s)

/-! ### Soft reset (R142) -/

/-- Steps 1 and 2 of R142 for the colour sets given: no call phase, and each position's channels found anew, every level at its
target. Step 3 is in the relighting. The pins follow at the next millisecond (R135). -/
def rebuildLamps (colours : Nat → Colours) (ld : Ld) : Ld :=
  positionList.foldl (fun x p => relightWith (colours p) x p)
    { ld with
      channels := ld.channels.map fun kv => (kv.1, { noChannel with pin := kv.2.pin })
      lamps := ld.lamps.map fun kv => (kv.1, { kv.2 with phase := none }) }

/-- LD rebuilds its state from the colour sets TR holds. -/
def lampsFromTally (s : State) : State := { s with ld := rebuildLamps (fun p => (s.tr.position p).colours) s.ld }

/-- LD's soft reset: while TR has yet to take its own, its colour sets and calls count for nothing, and LD looks again after it
(log 20). -/
def softResetLd (s : State) : State :=
  if yetToReset .tr s then
    { s with ld := rebuildLamps (fun _ => noColours) s.ld, reports := { s.reports with ldRelights := [], ldCalls := [] } }
  else lampsFromTally { s with reports := { s.reports with ldRelights := [] } }

/-- At a millisecond each pin takes the output level then in force (R135). -/
def latchPins (ld : Ld) : Ld :=
  { ld with channels := ld.channels.map fun kv => (kv.1, { kv.2 with pin := kv.2.output }) }

end Sys2Proof.Machine
end

