-- ==== Sys2Proof/Machine/Paths.lean ====
section
/-! DEFINITION. Shared operations of TE and ML: ports, causes, path entries, target and current gain, the queues, the sending
of GAINs, DOWN and recovery (chapters 8 and 9). -/

namespace Sys2Proof.Machine

/-- A port record at its power-on values (R143). -/
def plainPort : PortRec :=
  { kind := .headset, receive := 0, inTrim := 0, outTrim := 0, dim := 0, duck := .steps 0, program := none, guardPos := none }

/-- The path table's key of the pair (talker, listener): ascending listener, then talker. -/
def pairKey (talker listener : Nat) : Nat := listener * 96 + talker

def Te.port (te : Te) (p : Nat) : PortRec := tget plainPort te.ports p
/-- A group's members, ascending (R145). -/
def Te.group (te : Te) (g : Nat) : List Nat := tget [] te.groups g
def Te.entry (te : Te) (talker listener : Nat) : Option PathEntry := tfind te.paths (pairKey talker listener)
/-- The pair has an OPEN entry. -/
def Te.isOpen (te : Te) (talker listener : Nat) : Bool := (te.entry talker listener).any (·.opened)
/-- Causes in the pool (R150). -/
def Te.causesUsed (te : Te) : Nat := (te.paths.map (·.2.causes.length)).sum

/-! ### Target gain (R163 to R165) -/

/-- The dim of the entry (t, l), 0 where it does not apply (R164). -/
def Te.dimOf (te : Te) (t l : Nat) : Nat := if te.isOpen l t then (te.port l).dim else 0

/-- The duck of the entry (t, l) applies (R165). -/
def Te.ducked (te : Te) (t l : Nat) : Bool :=
  (te.port l).kind == .ifb && (te.port l).program == some t &&
    te.paths.any fun kv => kv.2.listener == l && kv.2.talker != t && kv.2.opened

/-- Step 6 of R163. -/
def limitGain (sum : Int) : Gain := if 24 < sum then .steps 24 else if sum < -80 then .mute else .steps sum

/-- The target gain of an entry by the steps of R163, by the guard states TR has reported to TE. -/
def targetGain (te : Te) (e : PathEntry) : Gain :=
  let l := te.port e.listener
  if l.kind = .speaker ∧ l.guardPos.any te.guards.contains then .mute
  else if !e.opened then .mute
  else
    let sum := e.level + (te.port e.talker).inTrim + l.outTrim - (te.dimOf e.talker e.listener : Int)
    if te.ducked e.talker e.listener then
      match l.duck with
      | .full => .mute
      | .steps n => limitGain (sum - n)
    else limitGain sum

/-! ### Sync fields and queues (R169) -/

/-- While UP a DIRTY entry stands in the queue its current gain calls for; it keeps its place there (R169). -/
def requeue (key : Nat) (g : Gain) (s : State) : State :=
  if s.ml.line = .up then
    if g = .mute then
      { s with
        ml := { s.ml with
          levelQueue := s.ml.levelQueue.filter (· != key)
          muteQueue := if s.ml.muteQueue.contains key then s.ml.muteQueue else s.ml.muteQueue ++ [key] } }
    else
      { s with
        ml := { s.ml with
          muteQueue := s.ml.muteQueue.filter (· != key)
          levelQueue := if s.ml.levelQueue.contains key then s.ml.levelQueue else s.ml.levelQueue ++ [key] } }
  else s

/-- Replace the entry of a key that has one. -/
def setEntry (key : Nat) (e : PathEntry) (s : State) : State := { s with te := { s.te with paths := tput s.te.paths key e } }

/-- An entry's current gain takes a value, and the change is handed to ML (R166, R169). -/
def setCurrent (key : Nat) (g : Gain) (s : State) : State :=
  match tfind s.te.paths key with
  | none => s
  | some e =>
    if e.current = g then s
    else
      match e.sync with
      | .sent => setEntry key { e with current := g } s
      | _ => requeue key g (setEntry key { e with current := g, sync := .dirty } s)

/-- TE recomputes the target gain of an entry, and its current gain jumps or is left to ramp (R162, R166). -/
def retarget (s : State) (key : Nat) : State :=
  match tfind s.te.paths key with
  | none => s
  | some e =>
    let g := targetGain s.te e
    if g = e.target then s
    else
      let s := setEntry key { e with target := g } s
      if e.current = .mute ∨ g = .mute then setCurrent key g s else s

/-- The entries whose gain reads the state of the pair (t, l): itself, the reverse pair, the listener's program path (R158). -/
def readersOf (te : Te) (t l : Nat) : List Nat :=
  [pairKey t l, pairKey l t] ++
    match (te.port l).kind, (te.port l).program with
    | .ifb, some q => if q = t then [] else [pairKey q l]
    | _, _ => []

/-- ML sends a GAIN from the head of the mute queue or else the level queue; none when nothing can be sent (R170). -/
def sendOneGain (s : State) : Option State :=
  if s.ml.line ≠ .up ∨ Config.gainsMax ≤ s.ml.outstanding.length then none
  else
    let send (key : Nat) (s : State) : State :=
      match tfind s.te.paths key with
      | none => s
      | some e =>
        let s := setEntry key { e with sync := .sent } s
        { s with
          ml := { s.ml with
            outstanding := s.ml.outstanding ++ [⟨e.talker, e.listener, e.current, none⟩]
            tx := s.ml.tx ++ [.gain e.listener e.talker e.current] } }
    match s.ml.muteQueue, s.ml.levelQueue with
    | k :: t, _ => some (send k { s with ml := { s.ml with muteQueue := t } })
    | [], k :: t => some (send k { s with ml := { s.ml with levelQueue := t } })
    | [], [] => none

def gainLoop : Nat → State → State
  | 0, s => s
  | n + 1, s => match sendOneGain s with
    | none => s
    | some t => gainLoop n t

/-- ML repeats the sending while a place is free and a queue holds an entry (R170). -/
def sendGains (s : State) : State := gainLoop (s.ml.muteQueue.length + s.ml.levelQueue.length) s

/-- ML reports the removal of an entry to TE (R173). -/
def reportRemoval (key : Nat) (s : State) : State :=
  { s with reports := { s.reports with teFromMl := s.reports.teFromMl ++ [⟨key, false⟩] } }

/-- Waiting removal reports of entries that are OPEN now no longer remove them (R157). -/
def noteReopened (paths : Tab PathEntry) (waiting : List Removal) : List Removal :=
  waiting.map fun r => if (tfind paths r.key).any (·.opened) then { r with reopened := true } else r

/-! ### Causes (R150 to R156) -/

/-- The state and level an entry has with its cause list as it stands (R155, R156). -/
def settle (e : PathEntry) : PathEntry :=
  match e.causes with
  | [] => { e with opened := false }
  | c :: t => { e with opened := true, level := t.foldl (fun m x => max m x.level) c.level }

/-- A created entry, before its target is computed (R155, R169). -/
def newEntry (talker listener : Nat) (causes : List Cause) : PathEntry :=
  settle { talker := talker, listener := listener, opened := true, level := 0, causes := causes, target := .mute,
           current := .mute, sentValue := .mute, sync := .clean }

/-- A cause with its pair, on its way into the pool. -/
structure NewCause where
  talker : Nat
  listener : Nat
  cause : Cause
  deriving DecidableEq, Repr

def NewCause.key (n : NewCause) : Nat := pairKey n.talker n.listener

/-- The causes of one pair in a list of new causes. -/
def causesFor (news : List NewCause) (key : Nat) : List Cause := (news.filter (·.key == key)).map (·.cause)

/-- The path table after withdrawing every cause that satisfies `gone` and recording `news`, each entry in its final state. -/
def changeCauses (gone : Nat → Cause → Bool) (news : List NewCause) (paths : Tab PathEntry) : Tab PathEntry :=
  let kept := paths.map fun kv =>
    let causes := (kv.2.causes.filter fun c => !gone kv.1 c) ++ causesFor news kv.1
    if causes = kv.2.causes then kv else (kv.1, settle { kv.2 with causes := causes })
  news.foldl (fun t n => if (tfind t n.key).isSome then t else tput t n.key (newEntry n.talker n.listener (causesFor news n.key))) kept

/-- Keys of entries created or changed in state or level. -/
def changedKeys (old new : Tab PathEntry) : List Nat :=
  new.filterMap fun kv =>
    match tfind old kv.1 with
    | none => some kv.1
    | some e => if e.opened = kv.2.opened ∧ e.level = kv.2.level then none else some kv.1

/-- ML looks at an entry that has become CLOSING (R173, R174): DOWN drops it, UP confirms one already held at MUTE. CLEARING keeps
every one for the MUTE-ALL-OK, as R175 says, and so also one that is CLEAN with sent value MUTE, whose removal R173's second bullet
reports at the event of the closing: that R175 goes first there is the model's choice (DESIGN CHOICE, log 52). -/
def closedEntry (s : State) (key : Nat) : State :=
  match tfind s.te.paths key with
  | none => s
  | some e =>
    match s.ml.line with
    | .down => reportRemoval key s
    | .up => if e.sync = .clean ∧ e.sentValue = .mute then reportRemoval key s else s
    | .clearing => s

/-- Withdraw and record causes at one event: entries, reports to KD, gains, queues (R155, R156, R158, R162, R173). Each changed entry
is retargeted in table order, followed at once by those whose target reads it, and joins its queue so (log 10). ML has not sent yet. -/
def moveCauses (gone : Nat → Cause → Bool) (news : List NewCause) (s : State) : State :=
  let old := s.te.paths
  let new := changeCauses gone news old
  let keys := changedKeys old new
  let wasOpen (k : Nat) : Bool := (tfind old k).any (·.opened)
  let isOpen (k : Nat) : Bool := (tfind new k).any (·.opened)
  let flips := (keys.filter fun k => wasOpen k != isOpen k).filterMap fun k => (tfind new k).map fun e => ImageReport.path e.talker e.listener
  let s := { s with te := { s.te with paths := new },
                    reports := { s.reports with
                      kdFromTe := s.reports.kdFromTe ++ flips, teFromMl := noteReopened new s.reports.teFromMl } }
  let s := (keys.flatMap fun k => ((tfind new k).map fun e => readersOf s.te e.talker e.listener).getD []).foldl retarget s
  (keys.filter fun k => wasOpen k && !isOpen k).foldl closedEntry s

/-- Withdraw and record causes at one event, and send what ML then can (R170). -/
def applyCauses (gone : Nat → Cause → Bool) (news : List NewCause) (s : State) : State := sendGains (moveCauses gone news s)

/-- How many causes a withdrawal takes from the pool (R150). -/
def Te.freedBy (te : Te) (gone : Nat → Cause → Bool) : Nat := (te.paths.map fun kv => kv.2.causes.countP (gone kv.1)).sum

/-- Room for new causes, `freed` causes being withdrawn at the same event (R152). -/
def hasRoom (te : Te) (freed : Nat) (news : List NewCause) : Bool :=
  te.causesUsed - freed + news.length ≤ Config.causesMax &&
    te.paths.length + ((sortAsc (news.map (·.key))).filter fun k => (tfind te.paths k).isNone).length ≤ Config.entriesMax

/-- A refusal for room sets PATHS and is counted (R153). -/
def refuseRoom (s : State) : State :=
  setFlag .paths { s with te := { s.te with refusals := bump s.te.refusals } }

/-- The target ports of a key (R151). -/
def targetPorts (te : Te) (live : List Nat) : KeyTarget → List Nat
  | .port p => [p]
  | .group g => te.group g
  | .live => live

/-- The causes of an active key with its entry, the panel's port `p` and the target ports `ports` (R151). -/
def causesOfKey (te : Te) (n k p : Nat) (ports : List Nat) : KeyEntry → List NewCause
  | .talk target _ listenWith listenLevel _ =>
    let xs := ports.filter (· != p)
    let origin := if target = .live then Origin.live n k else Origin.key n k
    xs.map (fun x => ⟨p, x, origin, (te.port x).receive⟩) ++
      if listenWith then xs.map (fun x => ⟨x, p, origin, listenLevel⟩) else []
  | .listen _ level => (ports.filter (· != p)).map fun x => ⟨x, p, .key n k, level⟩
  | _ => []

/-- A cause has its origin in key `k` of panel `n`. -/
def ofKey (n k : Nat) (c : Cause) : Bool := c.origin == .key n k || c.origin == .live n k

/-- TE withdraws every cause of a key; it always succeeds (R151). -/
def withdrawKey (n k : Nat) (s : State) : State := applyCauses (fun _ c => ofKey n k c) [] s

/-- A cause whose origin has a new cause for its pair: the new one takes its place, as one origin gives a pair at most one cause
(R150). Only a cause left standing over a RESET is met so (log 47). -/
def renewed (news : List NewCause) (key : Nat) (c : Cause) : Bool := news.any fun n => n.key == key && n.cause.origin == c.origin

/-- TE records new causes all or nothing: the state, and whether it refuses (R151 to R153). -/
def recordCauses (news : List NewCause) (s : State) : State × Bool :=
  if hasRoom s.te (s.te.freedBy (renewed news)) news then (applyCauses (renewed news) news s, false) else (refuseRoom s, true)

/-! ### Recovery (R174, R175) -/

/-- Entries whose GAIN has ended without its reply are DIRTY again (R174, R179). -/
def unsent (paths : Tab PathEntry) : Tab PathEntry :=
  paths.map fun kv => if kv.2.sync = .sent then (kv.1, { kv.2 with sync := .dirty }) else kv

/-- The line goes DOWN (R174); of the frames chosen, the one on the wire is sent whole and the others are dropped (log 21). -/
def matrixDown (s : State) : State :=
  let closing := (s.te.paths.filter fun kv => !kv.2.opened).map (·.1)
  let s :=
    { s with
      te := { s.te with paths := unsent s.te.paths }
      ml := { s.ml with
        line := .down, muteQueue := [], levelQueue := [], outstanding := [], muteAll := none, tx := s.ml.tx.take 1,
        nextPing := some (after s.now Config.pingMs) } }
  setFlag .matrix (closing.foldl (fun t k => reportRemoval k t) s)

/-- A timeout is counted in the total and in a row, and the eighth in a row takes an UP line DOWN (R172). -/
def matrixTimeout (s : State) : State :=
  let s := { s with ml := { s.ml with timeouts := bump s.ml.timeouts, consecutive := bump s.ml.consecutive } }
  if s.ml.line = .up ∧ Config.matrixTimeouts ≤ s.ml.consecutive then matrixDown s else s

/-- A reply not awaited (R171). -/
def matrixStray (s : State) : State := { s with ml := { s.ml with strays := bump s.ml.strays, consecutive := 0 } }

/-- The line goes to CLEARING and MUTE-ALL is sent (R175, R179); the consecutive timeout count is left. -/
def startClearing (ml : Ml) : Ml :=
  { ml with
    line := .clearing, muteQueue := [], levelQueue := [], outstanding := [], muteAll := some none, nextPing := none,
    tx := ml.tx ++ [.muteAll] }

/-- ML's soft reset but for its four counts; a PROFILE-LOAD takes it so (R179, R200). Of the frames chosen, the one on the wire is
sent whole and the others are dropped (log 21). -/
def clearMatrix (ml : Ml) : Ml := startClearing { ml with tx := ml.tx.take 1 }

/-- The causes of the standing slots, in slot order (R147). -/
def standingCauses (te : Te) : List NewCause :=
  te.standing.map fun kv => ⟨kv.2.talker, kv.2.listener, .standing kv.1, kv.2.level⟩

/-- TE empties the path table and records the standing causes again, the new entries held DIRTY without a queue (R161, R179). -/
def clearPaths (s : State) : State :=
  let news := standingCauses s.te
  let paths := changeCauses (fun _ _ => false) news []
  let te := { s.te with paths := paths }
  let jump (kv : Nat × PathEntry) : Nat × PathEntry :=
    let g := targetGain te kv.2
    (kv.1, { kv.2 with target := g, current := g, sync := if g = .mute then .clean else .dirty })
  { s with
    te := { te with paths := paths.map jump }
    ml := { s.ml with muteQueue := [], levelQueue := [] }
    reports := { s.reports with teFromMl := [] } }

end Sys2Proof.Machine
end

