-- ==== Sys2Proof/Machine/Matrix.lean ====
section
/-! DEFINITION. The meanings of the gain commands of TE and of ML's commands (chapter 9). -/

namespace Sys2Proof.Machine

/-! ### Gain ticks and settings (R167, R176) -/

/-- One step of a number toward another (R167). -/
def rampStep (step : Nat) (c t : Int) : Int := if c < t then min t (c + step) else max t (c - step)

/-- An entry's current gain moves toward its target at a gain tick. -/
def rampEntry (s : State) (key : Nat) : State :=
  match tfind s.te.paths key with
  | none => s
  | some e => match e.current, e.target with
    | .steps c, .steps t => if c = t then s else setCurrent key (.steps (rampStep s.te.rampStep c t)) s
    | _, _ => s

/-- A gain tick if it is due; ML then sends what it can (R167, R170). -/
def gainTick (s : State) : State :=
  if due s.now s.te.nextTick then
    let s := (s.te.paths.map (·.1)).foldl rampEntry s
    sendGains { s with te := { s.te with nextTick := after s.te.nextTick s.te.gainTick } }
  else s

def execGainTick (s : State) : Out := finish (gainTick s)

/-- R176: a tick setting moves the next tick; one already reached falls at once, the ticks then running at the new period. -/
def storeGainTiming (fs : List (Option Nat)) (s : State) : State :=
  let te := s.te
  let s :=
    { s with
      te := { te with rampStep := ((fieldAt fs 1).map (clampN 1 40)).getD te.rampStep }
      ml := { s.ml with replyTimeout := ((fieldAt fs 2).map (clampN 2 100)).getD s.ml.replyTimeout } }
  match fieldAt fs 0 with
  | none => s
  | some t =>
    let tick := clampN 5 100 t
    let next := after (te.nextTick - BitVec.ofNat 32 te.gainTick) tick
    gainTick { s with te := { s.te with gainTick := tick, nextTick := if due s.now next then s.now else next } }

/-- R176. -/
def ownGainTiming (body : List Byte) (s : State) : Answer :=
  match presence [1, 1, 1] body with
  | none => .refuse .malformed s
  | some fs =>
    let s := storeGainTiming fs s
    .now .ok (e1 s.te.gainTick ++ e1 s.te.rampStep ++ e1 s.ml.replyTimeout) s

def execGainTiming (tag : Byte) (body : List Byte) (s : State) : Out :=
  request .gainTiming (readbackClass 0 body) ownGainTiming tag body s

/-- The first 16 entries of a queue as pairs of listener and talker. -/
def queueHead (q : List Nat) : List Byte := (q.take 16).flatMap fun k => e1 (k / 96) ++ e1 (k % 96)

/-- READ-MATRIX's reply (R177, log 14). -/
def matrixContent (s : State) : List Byte :=
  let ml := s.ml
  let dirty := (s.te.paths.filter fun kv => kv.2.sync == .dirty).map (·.1)
  e1 ml.line.code ++ e1 s.te.gainTick ++ e1 s.te.rampStep ++ e1 ml.replyTimeout
    ++ e2 ml.consecutive ++ e2 ml.timeouts ++ e2 ml.badFrames ++ e2 ml.strays
    ++ e2 ml.outstanding.length
    ++ ml.outstanding.flatMap (fun o => e1 o.listener ++ e1 o.talker ++ eGain o.gain ++ eRemaining s.now o.expiry)
    ++ eBool ml.muteAll.isSome ++ eRemaining s.now ml.muteAll.join
    ++ e2 ml.muteQueue.length ++ e2 ml.levelQueue.length ++ queueHead ml.muteQueue ++ queueHead ml.levelQueue
    ++ e2 dirty.length ++ e2 (dirty.countP fun k => !ml.muteQueue.contains k && !ml.levelQueue.contains k)

/-- R177. -/
def ownReadMatrix (s : State) : Answer := .now .ok (matrixContent s) s

def execReadMatrix (tag : Byte) (body : List Byte) (s : State) : Out :=
  request .readMatrix .read (noFields ownReadMatrix) tag body s

/-! ### The line -/

def badMatrixFrame (s : State) : State := { s with ml := { s.ml with badFrames := bump s.ml.badFrames } }

def execMatrixBadFrame (s : State) : Out := finish (badMatrixFrame s)

/-- A gap ends a frame early (R168, log 9). -/
def execMatrixGapExpiry (s : State) : Out := finish (badMatrixFrame s)

/-- The frame is a GAIN of the pair. -/
def MatrixFrame.isGain (l t : Nat) : MatrixFrame → Bool
  | .gain l' t' _ => l' == l && t' == t
  | _ => false

/-- The outstanding GAIN of a pair. -/
def OutGain.is (o : OutGain) (l t : Nat) : Bool := o.listener == l && o.talker == t

/-- The last character of a frame has been sent: the reply expiry of its GAIN or MUTE-ALL is set (R168, R170, R175). -/
def matrixFrameSent (s : State) : State :=
  match s.ml.tx with
  | [] => s
  | f :: rest =>
    let ml := { s.ml with tx := rest }
    let e := some (after s.now ml.replyTimeout)
    match f with
    | .gain l t _ =>
      if rest.any (·.isGain l t) then { s with ml := ml }
      else
        { s with
          ml := { ml with
            outstanding := ml.outstanding.map fun o => if o.is l t ∧ o.expiry = none then { o with expiry := e } else o } }
    | .muteAll =>
      if ml.muteAll = some none ∧ !rest.contains .muteAll then { s with ml := { ml with muteAll := some e } }
      else { s with ml := ml }
    | .ping => { s with ml := ml }

def execMatrixFrameSent (s : State) : Out := finish (matrixFrameSent s)

/-- The entry of an answered GAIN: its sent value and its sync state (R171). -/
def confirmGain (o : OutGain) (s : State) : State :=
  let key := pairKey o.talker o.listener
  match tfind s.te.paths key with
  | none => s
  | some e =>
    if e.current = o.gain then
      let s := setEntry key { e with sentValue := o.gain, sync := .clean } s
      if !e.opened && o.gain == .mute then reportRemoval key s else s
    else requeue key e.current (setEntry key { e with sentValue := o.gain, sync := .dirty } s)

/-- R171: a GAIN-OK is the reply of the outstanding GAIN of its pair, or a stray. -/
def takeGainOk (l t : Nat) (s : State) : State :=
  match s.ml.outstanding.find? (·.is l t) with
  | none => matrixStray s
  | some o =>
    sendGains <| confirmGain o
      { s with ml := { s.ml with outstanding := s.ml.outstanding.filter (!·.is l t), consecutive := 0 } }

def execGainOk (listener talker : Byte) (s : State) : Out :=
  finish (if pairClean listener talker then takeGainOk listener.toNat talker.toNat s else badMatrixFrame s)

/-- The entry of a timed out GAIN is DIRTY again, in the queue its current gain calls for (R172). -/
def requeueTimedOut (o : OutGain) (s : State) : State :=
  let key := pairKey o.talker o.listener
  match tfind s.te.paths key with
  | none => s
  | some e => requeue key e.current (setEntry key { e with sync := .dirty } s)

/-- R172. -/
def expireGain (l t : Nat) (s : State) : State :=
  match s.ml.outstanding.find? (·.is l t) with
  | none => s
  | some o =>
    if dueOpt s.now o.expiry then
      sendGains <| matrixTimeout <| requeueTimedOut o
        { s with ml := { s.ml with outstanding := s.ml.outstanding.filter (!·.is l t) } }
    else s

def execGainReplyExpiry (l t : Nat) (s : State) : Out := finish (expireGain l t s)

/-- R174: a PING falls due while the line is DOWN. -/
def sendPing (s : State) : State :=
  match s.ml.nextPing with
  | none => s
  | some e =>
    if s.ml.line = .down ∧ due s.now e then
      { s with ml := { s.ml with tx := s.ml.tx ++ [.ping], nextPing := some (after e Config.pingMs) } }
    else s

def execPingTimer (s : State) : Out := finish (sendPing s)

/-- R171, R174, R175: the first PONG while DOWN moves the line to CLEARING; any other is a stray. -/
def takePong (s : State) : State :=
  if s.ml.line = .down then { s with ml := startClearing { s.ml with consecutive := 0 } } else matrixStray s

def execPong (s : State) : Out := finish (takePong s)

/-- Steps 1 to 3 of R175 for one entry. -/
def clearedEntry (e : PathEntry) : PathEntry :=
  { e with sentValue := .mute, sync := if e.current = .mute then .clean else .dirty }

/-- R175: the MUTE-ALL has been carried out and the line is UP. -/
def finishClearing (s : State) : State :=
  let paths := s.te.paths.map fun kv => (kv.1, clearedEntry kv.2)
  let muted := (paths.filter fun kv => kv.2.current == .mute && !kv.2.opened).map (·.1)
  let audible := (paths.filter fun kv => kv.2.current != .mute).map (·.1)
  let s := { s with te := { s.te with paths := paths } }
  let s := muted.foldl (fun t k => reportRemoval k t) s
  sendGains <| setFlag .matrix
    { s with
      ml := { s.ml with
        line := .up, muteAll := none, consecutive := 0, levelQueue := s.ml.levelQueue ++ audible } }

/-- R171, R175. -/
def takeMuteAllOk (s : State) : State := if s.ml.muteAll.isSome then finishClearing s else matrixStray s

def execMuteAllOk (s : State) : Out := finish (takeMuteAllOk s)

/-- R175: the MUTE-ALL's expiry falls due, and the line goes DOWN again. -/
def expireMuteAll (s : State) : State := if dueOpt s.now s.ml.muteAll.join then matrixDown s else s

def execMuteAllExpiry (s : State) : Out := finish (expireMuteAll s)

/-! ### Soft reset (R179) -/

/-- ML's soft reset. An entry whose GAIN it ends is DIRTY, and waits without a queue for the MUTE-ALL-OK: so also where TE took its
soft reset first and entries of its new table have been sent (R175, R179). -/
def softResetMl (s : State) : State :=
  { s with
    te := { s.te with paths := unsent s.te.paths }
    ml := { clearMatrix s.ml with consecutive := 0, timeouts := 0, badFrames := 0, strays := 0 } }

end Sys2Proof.Machine
end

