-- ==== Sys2Proof/Machine/Keys.lean ====
section
/-! DEFINITION. KD's shared operations: lamp images, refusal indications, activation and deactivation, key transitions
(chapter 2). -/

namespace Sys2Proof.Machine

def imageOff : Image := ⟨.off, .steady⟩
/-- What a refused key shows (R49). -/
def imageRefused : Image := ⟨.red, .fast⟩

def Kd.entry (kd : Kd) (n k : Nat) : KeyEntry :=
  match tfind kd.records n with
  | none => .none
  | some r => tget .none r.keys k

/-- The live state of one key of one panel with a context. -/
def Kd.key (kd : Kd) (n k : Nat) : Option KeyCtx := (tfind kd.contexts n).bind fun c => tfind c.keys k

/-- The state of a key: IDLE without a context (R34). -/
def Kd.keyState (kd : Kd) (n k : Nat) : KeyState := ((kd.key n k).map (·.state)).getD .idle

/-- A key with nothing pressed, running or shown, and an image. -/
def freshKey (i : Image) : KeyCtx :=
  { pressed := false, state := .idle, tapExpiry := none, latchExpiry := none, refusalExpiry := none, image := i }

/-- Change the live state of one key. -/
def setKeyCtx (n k : Nat) (f : KeyCtx → KeyCtx) (s : State) : State :=
  { s with kd := { s.kd with contexts := tmodify s.kd.contexts n fun c => { c with keys := tmodify c.keys k f } } }

/-! ### Images (R52 to R55) -/

def Colour.keyColour : Colour → KeyColour
  | .red => .red | .amber => .amber | .green => .green

/-- Some position whose intercom port is `p` has RED in its colour set (R53). -/
def redOnPort (tr : Tr) (p : Nat) : Bool := positionList.any fun x => (tr.position x).port == some p && (tr.position x).colours.red

/-- The image of an IDLE TALK key (R53). -/
def idleTalkImage (s : State) (port : Option Nat) (target : KeyTarget) : Image :=
  if port.any fun p => (targetPorts s.te s.tr.live target).any fun x => s.te.isOpen x p then ⟨.amber, .slow⟩
  else
    match target with
    | .port p => if redOnPort s.tr p then ⟨.red, .wink⟩ else imageOff
    | _ => imageOff

/-- The image of a SOURCE key (R54). -/
def sourceImage (s : State) (dest preset : Option Nat) (src : Nat) : Image :=
  let tally := ((s.rc.source src).position.bind fun p => (s.tr.position p).colours.highest).map Colour.keyColour
  let colour := tally.getD .white
  let d := dest.map s.rc.dest
  if d.any fun r => r.confirmed == some src then ⟨colour, .steady⟩
  else if (d.any fun r => r.pending == some src) || preset == some src then ⟨colour, .slow⟩
  else if tally.isSome then ⟨colour, .wink⟩
  else imageOff

/-- A protect of kind PROTECT whose owner is panel `n` (R55). -/
def ownProtect (p : Option Protect) (n : Nat) : Bool := p == some ⟨some n, .protect⟩

/-- The image of a DEST key (R55). -/
def destImage (s : State) (n : Nat) (dest : Option Nat) (d : Nat) : Image :=
  let p := (s.rc.dest d).protect
  let colour : KeyColour := if p.isNone then .white else if ownProtect p n then .amber else .red
  if dest = some d then ⟨colour, .steady⟩ else if p.isSome then ⟨colour, .wink⟩ else imageOff

/-- The image of a TAKE key (R55). -/
def takeImage (s : State) (n : Nat) (dest : Option Nat) : Image :=
  if dest.any fun d => s.rc.queue.any fun e => e.dest == d && e.requester.panels.contains n then ⟨.green, .slow⟩ else imageOff

/-- The image of a PROTECT key (R55). -/
def protectImage (s : State) (n : Nat) : Option Nat → Image
  | none => imageOff
  | some d =>
    let p := (s.rc.dest d).protect
    if p.isNone then imageOff else if ownProtect p n then ⟨.amber, .steady⟩ else ⟨.red, .steady⟩

def Party.isPanel (n : Nat) : Party → Bool
  | .panel m _ => m == n
  | .host _ => false

/-- The image of a SALVO key (R55). -/
def salvoImage (s : State) (n i : Nat) : Image :=
  if s.rc.fires.any fun f => f.salvo == i && f.party.isPanel n then ⟨.green, .slow⟩ else imageOff

/-- The image of a key by its kind, no refusal indication being shown (R53 to R55). -/
def kindImage (s : State) (n : Nat) (port : Option Nat) (dest preset : Option Nat) (st : KeyState) : KeyEntry → Image
  | .none => imageOff
  | .talk target _ _ _ _ =>
    match st with
    | .timing | .held | .latched => ⟨.green, .steady⟩
    | .unlatching => ⟨.green, .slow⟩
    | _ => idleTalkImage s port target
  | .listen _ _ => if st = .active then ⟨.amber, .steady⟩ else imageOff
  | .call _ => if st = .held then ⟨.amber, .fast⟩ else imageOff
  | .source src => sourceImage s dest preset src
  | .dest d => destImage s n dest d
  | .take => takeImage s n dest
  | .protect => protectImage s n dest
  | .salvo i => salvoImage s n i

/-- The desired image of a key of a panel context (R52). -/
def composeImage (s : State) (n k : Nat) (c : Context) (kc : KeyCtx) : Image :=
  match tfind s.kd.records n with
  | none => imageOff
  | some r =>
    if kc.refusalExpiry.isSome then imageRefused
    else kindImage s n r.port c.dest c.preset kc.state (tget .none r.keys k)

/-- KD adds a key to its panel's dirty set (R5). -/
def markDirty (n k : Nat) (s : State) : State :=
  { s with
    pbc := { s.pbc with
      roster := tmodify s.pbc.roster n fun e =>
        match e.presence with
        | .member link stall ask =>
          if k < link.sent.length then { e with presence := .member { link with dirty := insertAsc link.dirty k } stall ask }
          else e
        | _ => e } }

/-- Recompute one key's desired image; a new one replaces it and the key becomes dirty (R52). -/
def refreshKey (s : State) (n k : Nat) : State :=
  match tfind s.kd.contexts n with
  | none => s
  | some c =>
    match tfind c.keys k with
    | none => s
    | some kc =>
      let i := composeImage s n k c kc
      if i = kc.image then s else markDirty n k (setKeyCtx n k (fun x => { x with image := i }) s)

/-- Recompute the keys of one panel whose entry satisfies `p`. -/
def refreshPanel (p : KeyEntry → Bool) (n : Nat) (s : State) : State :=
  match tfind s.kd.contexts n with
  | none => s
  | some c => (c.keys.filter fun kv => p (s.kd.entry n kv.1)).foldl (fun t kv => refreshKey t n kv.1) s

/-- The keys whose images the router-panel state touches (R43). -/
def routerKey : KeyEntry → Bool
  | .source _ | .dest _ | .take | .protect => true
  | _ => false

def KeyEntry.isTalk : KeyEntry → Bool
  | .talk _ _ _ _ _ => true
  | _ => false

def KeyEntry.talkTarget : KeyEntry → Option KeyTarget
  | .talk t _ _ _ _ => some t
  | _ => Option.none

/-- A TALK key whose PORT target is one of the ports. -/
def talksTo (ports : List Nat) (e : KeyEntry) : Bool :=
  match e.talkTarget with
  | some (.port p) => ports.contains p
  | _ => false

/-- Which keys of panel `n` a change report touches (R60, R63, R91, R94, R95, R121, R122, R146, R158). -/
def affects (s : State) (n : Nat) (c : Context) : ImageReport → KeyEntry → Bool
  | .colours changed, e =>
    let ps := changed.map (·.1)
    (match e with
      | .source src => (s.rc.source src).position.any ps.contains
      | _ => false) || talksTo (ps.filterMap fun p => (s.tr.position p).port) e
  | .live _, e => e.talkTarget == some .live
  | .positionPort old new, e => talksTo (old.toList ++ new.toList) e
  | .path _ l, e => e.isTalk && ((tfind s.kd.records n).bind (·.port)) == some l
  | .group g, e => e.talkTarget == some (.group g)
  | .crosspoint d srcs, .source src => srcs.contains src && c.dest == some d
  | .protect d, .dest x => x == d
  | .protect d, .protect => c.dest == some d
  | .takes d panels, .take => panels.contains n && c.dest == some d
  | .fire i m, .salvo x => x == i && m == some n
  | .sourcePosition src, .source x => x == src
  | _, _ => false

/-- KD takes a change report: the images it touches are recomputed on every panel context (R52). -/
def takeImageReport (s : State) (r : ImageReport) : State :=
  s.kd.contexts.foldl (fun t kv => refreshPanel (affects t kv.1 kv.2 r) kv.1 t) s

/-! ### Refusals, activation, deactivation (R37, R40, R49) -/

/-- A refusal indication starts, or restarts, on a key (R49). -/
def refuseKey (n k : Nat) (s : State) : State :=
  setKeyCtx n k (fun x => { x with refusalExpiry := some (after s.now Config.refusalMs) }) s

/-- A key enters a state, with the timer that state calls for (R37, R39, R40). -/
def enterState (dst : KeyState) (limit : Nat) (s : State) (x : KeyCtx) : KeyCtx :=
  { x with
    state := dst
    tapExpiry := if dst = .timing then some (after s.now s.kd.tapWindow) else none
    latchExpiry := if dst = .latched ∧ limit ≠ 0 then some (after s.now (limit * 1000)) else none }

/-- An active key returns to IDLE: its causes withdrawn or its call cause removed, its timers stopped (R37, R42). -/
def deactivateKey (n k : Nat) (s : State) : State :=
  let s := match s.kd.entry n k with
    | .call p => removeKeyCall p n k s
    | .talk _ _ _ _ _ | .listen _ _ => withdrawKey n k s
    | _ => s
  setKeyCtx n k (fun x => { x with state := .idle, tapExpiry := none, latchExpiry := none }) s

/-- Deactivate a key if it is active. -/
def deactivateIfActive (n k : Nat) (s : State) : State :=
  if s.kd.keyState n k = .idle then s else deactivateKey n k s

/-- A cause has its origin in a key of panel `n`. -/
def ofPanel (n : Nat) (c : Cause) : Bool :=
  match c.origin with
  | .key m _ | .live m _ => m == n
  | .standing _ => false

/-- Deactivate at one event every active key of panel `n` whose entry satisfies `p`: its CALL causes are removed, the causes
of its TALK and LISTEN keys withdrawn, its timers stopped (R32, R50). -/
def deactivatePanel (p : KeyEntry → Bool) (n : Nat) (s : State) : State :=
  match tfind s.kd.contexts n with
  | none => s
  | some c =>
    let keys := (c.keys.filter fun kv => kv.2.state != .idle && p (s.kd.entry n kv.1)).map (·.1)
    let s := keys.foldl (fun t k => match t.kd.entry n k with
      | .call x => removeKeyCall x n k t
      | _ => t) s
    let s := applyCauses (fun _ cause => keys.any fun k => ofKey n k cause) [] s
    keys.foldl (fun t k => setKeyCtx n k (fun x => { x with state := .idle, tapExpiry := none, latchExpiry := none }) t) s

def talkOrListen : KeyEntry → Bool
  | .talk _ _ _ _ _ | .listen _ _ => true
  | _ => false

/-- Activation of a TALK or LISTEN key to a state, with its latch limit; refused without an intercom port or without room
(R37, R41). -/
def activateKey (n k : Nat) (dst : KeyState) (limit : Nat) (e : KeyEntry) (target : KeyTarget) (s : State) : State :=
  match (tfind s.kd.records n).bind (·.port) with
  | none => refuseKey n k s
  | some p =>
    let r := recordCauses (causesOfKey s.te n k p (targetPorts s.te s.tr.live target) e) s
    if r.2 then refuseKey n k r.1 else setKeyCtx n k (enterState dst limit s) r.1

/-! ### Key transitions (R36 to R48) -/

/-- How a TALK key moves on a press or a release. -/
inductive TalkMove where
  | stay
  | activate (dst : KeyState)
  | go (dst : KeyState)
  | deactivate
  deriving DecidableEq, Repr

/-- The tables of R38 and R39 for PRESS (true) and RELEASE. -/
def talkMove : TalkMode → KeyState → Bool → TalkMove
  | .momentary, .idle, true => .activate .held
  | .momentary, .held, false => .deactivate
  | .latch, .idle, true => .activate .latched
  | .latch, .latched, true => .go .unlatching
  | .latch, .unlatching, false => .deactivate
  | .auto, .idle, true => .activate .timing
  | .auto, .timing, false => .go .latched
  | .auto, .held, false => .deactivate
  | .auto, .latched, true => .go .unlatching
  | .auto, .unlatching, false => .deactivate
  | _, _, _ => .stay

/-- KD asks RC for a take; a refusal starts an indication (R44, R45). -/
def askTake (n k : Nat) (dest src : Option Nat) (s : State) : State :=
  match dest, src with
  | some d, some x =>
    match takeTest s.rc d (some n) with
    | some _ => refuseKey n k s
    | none => enqueue d x (.party (.panel n k)) s
  | _, _ => refuseKey n k s

/-- The panel's router-panel state becomes (dest, preset), and the images it touches are recomputed (R43). -/
def setRouterPanel (n : Nat) (dest preset : Option Nat) (s : State) : State :=
  refreshPanel routerKey n
    { s with kd := { s.kd with contexts := tmodify s.kd.contexts n fun c => { c with dest := dest, preset := preset } } }

/-- What a key's entry does on a transition taken in state `st` (step 5 of R36). -/
def keyAct (n k : Nat) (press : Bool) (r : PanelRec) (c : Context) (st : KeyState) (s : State) : State :=
  match tget .none r.keys k with
  | .none => { s with kd := { s.kd with unassigned := bump s.kd.unassigned } }
  | .talk target mode lw ll limit =>
    match talkMove mode st press with
    | .stay => s
    | .activate dst => activateKey n k dst limit (.talk target mode lw ll limit) target s
    | .go dst => setKeyCtx n k (enterState dst limit s) s
    | .deactivate => deactivateKey n k s
  | .listen target level =>
    if !press then s
    else if st = .idle then activateKey n k .active 0 (.listen target level) target s
    else deactivateKey n k s
  | .call p =>
    if press then
      if st = .idle then addKeyCall p n k (setKeyCtx n k (fun x => { x with state := .held }) s) else s
    else if st = .held then deactivateKey n k s
    else s
  | .dest d => if press then setRouterPanel n (some d) none s else s
  | .source src =>
    if !press then s
    else
      let s := setRouterPanel n c.dest (some src) s
      if r.mode = .direct then askTake n k c.dest (some src) s else s
  | .take => if press then askTake n k c.dest c.preset s else s
  | .protect =>
    if !press then s
    else
      match c.dest with
      | none => refuseKey n k s
      | some d =>
        let t := toggleProtect d n s
        if t.2 then refuseKey n k t.1 else t.1
  | .salvo i =>
    if !press then s
    else if (fireTest s.rc i (some n)).isSome then refuseKey n k s
    else startFire i (.panel n k) s

/-- The key count of a panel's roster entry. -/
def rosterKeys (pbc : Pbc) (n : Nat) : Nat := ((tfind pbc.roster n).bind fun e => e.info.map (·.keys)).getD 0

/-- KD takes one transition of panel `n`, whole (R36). Without a context it is ignored and counted, and the context of a panel whose
departure still waits for KD is the one acted on, though the panel has joined anew (log 16). -/
def takeTransition (n : Nat) (s : State) (t : Nat × Bool) : State :=
  let ignored : State := { s with kd := { s.kd with unassigned := bump s.kd.unassigned } }
  match tfind s.kd.records n with
  | none => ignored
  | some r =>
    if rosterKeys s.pbc n ≤ t.1 then ignored
    else
      match tfind s.kd.contexts n with
      | none => ignored
      | some c =>
        match tfind c.keys t.1 with
        | none => ignored
        | some kc =>
          if kc.pressed = t.2 then { s with kd := { s.kd with duplicate := bump s.kd.duplicate } }
          else
            let s := setKeyCtx n t.1 (fun x => { x with pressed := t.2 }) s
            refreshKey (keyAct n t.1 t.2 r c kc.state s) n t.1

/-- The active keys of every context: node, key, intercom port, entry; ascending. -/
def activeKeys (kd : Kd) : List (Nat × Nat × Nat × KeyEntry) :=
  kd.contexts.flatMap fun cv =>
    match tfind kd.records cv.1 with
    | none => []
    | some r =>
      match r.port with
      | none => []
      | some p => (cv.2.keys.filter fun kv => kv.2.state != .idle).map fun kv => (cv.1, kv.1, p, tget .none r.keys kv.1)

end Sys2Proof.Machine
end

