-- ==== Sys2Proof/Machine/Bus.lean ====
section
/-! DEFINITION. PBC's shared operations: ring, notifications, probes, sweeps, the turn, activity, answers (chapter 1). -/

namespace Sys2Proof.Machine

/-! ### Ring and roster (R3 to R6) -/

def RosterEntry.isMember (e : RosterEntry) : Bool :=
  match e.presence with
  | .member _ _ _ => true
  | _ => false

def Pbc.entry (pbc : Pbc) (n : Nat) : Option RosterEntry := tfind pbc.roster n
/-- The presence of an entry, if there is one. -/
def Pbc.presence (pbc : Pbc) (n : Nat) : Option Presence := (pbc.entry n).map (·.presence)
def Pbc.memberIds (pbc : Pbc) : List Nat := (pbc.roster.filter (·.2.isMember)).map (·.1)
/-- The ring: the MEMBER IDs and the hub's own, ascending (R4); an ID of 0, no node's, is not in it (log 49). -/
def Pbc.ring (pbc : Pbc) : List Nat := if pbc.id = 0 then pbc.memberIds else insertAsc pbc.memberIds pbc.id
/-- The hub's successor (R4). -/
def Pbc.successor (pbc : Pbc) : Nat := (pbc.ring.find? (pbc.id < ·)).getD (pbc.ring.headD pbc.id)

/-- The link part at the join (R5). -/
def newLink (keys : Nat) : Link := { sent := List.replicate keys none, dirty := [], outSeq := 0, lastIn := none }
/-- An entry that becomes MEMBER (R14). -/
def newMember (i : PanelInfo) : RosterEntry := { info := some i, presence := .member (newLink i.keys) 0 none }

/-- Departure: stored cargos and the reservation of the ID go, KD is told (R6, R23, R25). -/
def departure (n : Nat) (s : State) : State :=
  { s with
    pbc := { s.pbc with
      inbound := s.pbc.inbound.filter (·.sender != n)
      reserved := s.pbc.reserved.filter (·.1 != n) }
    reports := { s.reports with kdPanels := s.reports.kdPanels ++ [.departure n] } }

/-- Release: RC is told (R6). -/
def release (n : Nat) (s : State) : State := { s with reports := { s.reports with rcReleases := s.reports.rcReleases ++ [n] } }

/-- Join: KD is told (R6). -/
def join (n keys : Nat) (s : State) : State :=
  { s with reports := { s.reports with kdPanels := s.reports.kdPanels ++ [.join n keys] } }

def setRoster (n : Nat) (e : RosterEntry) (s : State) : State := { s with pbc := { s.pbc with roster := tput s.pbc.roster n e } }
def dropRoster (n : Nat) (s : State) : State := { s with pbc := { s.pbc with roster := tdel s.pbc.roster n } }

/-- Whether a HERE names the same physical panel as the entry. -/
def RosterEntry.sameUnit (e : RosterEntry) (i : PanelInfo) : Bool := e.info.any (·.unit == i.unit)

/-- One row of the table of R14: the state after the result for one ID, with its notifications in the order of R6. -/
def applyProbe (n : Nat) (r : ProbeResult) (s : State) : State :=
  match r, s.pbc.entry n with
  | .present i, none => join n i.keys (setRoster n (newMember i) s)
  | .present i, some e =>
    match e.presence with
    | .member _ _ _ =>
      if e.info = some i then s
      else if e.sameUnit i then join n i.keys (departure n (setRoster n (newMember i) s))
      else join n i.keys (release n (departure n (setRoster n (newMember i) s)))
    | .absent _ =>
      if e.sameUnit i then join n i.keys (setRoster n (newMember i) s)
      else join n i.keys (release n (setRoster n (newMember i) s))
    | .contested => join n i.keys (setRoster n (newMember i) s)
  | .contested, none => setRoster n { info := none, presence := .contested } s
  | .contested, some e =>
    match e.presence with
    | .member _ _ _ => release n (departure n (setRoster n { e with presence := .contested } s))
    | .absent _ => release n (setRoster n { e with presence := .contested } s)
    | .contested => s
  | .absent, none => s
  | .absent, some e =>
    match e.presence with
    | .member _ _ _ => departure n (setRoster n { e with presence := .absent s.now } s)
    | .absent _ => s
    | .contested => release n (dropRoster n s)

/-- The result changes the roster (R6, R14). -/
def probeChanges (r : ProbeResult) (e : Option RosterEntry) : Bool :=
  match r, e with
  | .present _, none => true
  | .present i, some e => !e.isMember || e.info != some i
  | .contested, none => true
  | .contested, some e => e.presence != .contested
  | .absent, none => false
  | .absent, some e =>
    match e.presence with
    | .absent _ => false
    | _ => true

/-! ### Sending, sweeps, the turn (R11 to R22) -/

/-- PB-TXEN, asserted while the front frame is on the wire (R1, log 37). -/
def Pbc.txEnable (pbc : Pbc) : Bool := !pbc.tx.isEmpty

def sendPb (f : PbFrame) (s : State) : State := { s with pbc := { s.pbc with tx := s.pbc.tx ++ [f] } }

/-- The hub sends a frame and will wait for its answer (R11). -/
def sendAndWait (f : PbFrame) (w : Work) (s : State) : State :=
  let s := sendPb f s
  { s with pbc := { s.pbc with work := w, windowOpen := false } }

/-- The IDs after `p`, ascending and wrapping from 63 to 1, `p` itself last. -/
def idsAfter (p : Nat) : List Nat := List.range' (p + 1) (63 - p) ++ List.range' 1 p

/-- The next ID a sweep probes after `p`, leaving out the hub's own (R12). -/
def nextProbeId (own p : Nat) : Option Nat := (List.range' (p + 1) (63 - p)).find? (· != own)

/-- A sweep starts; of the frames chosen, the one on the wire is sent to its end (R12, log 18). -/
def startSweep (s : State) : State :=
  let first := (nextProbeId s.pbc.id 0).getD 1
  { s with
    pbc := { s.pbc with
      node := .sweeping
      checkingExpiry := none
      sweepPending := false
      results := []
      silentSince := none
      turn := { s.pbc.turn with holds := true }
      tx := s.pbc.tx.take 1 ++ [.sweep, .probe first]
      work := .probe false first false
      windowOpen := false } }

/-- Step 3 of R17: PASS to the successor, or the turn is kept by a ring of one. -/
def passOn (s : State) : State :=
  if s.pbc.successor = s.pbc.id then { s with pbc := { s.pbc with work := .idle, windowOpen := false } }
  else sendAndWait (.pass s.pbc.successor) (.pass s.pbc.successor false) s

/-- A panel is eligible for an exchange in this turn (R19). -/
def eligible (s : State) (n : Nat) : Bool :=
  !s.pbc.turn.chosen.contains n &&
    match s.pbc.presence n with
    | some (.member link _ none) => !link.dirty.isEmpty
    | some (.member link _ (some ask)) => !link.dirty.isEmpty && passed s.now ask s.pbc.timing.census
    | _ => false

/-- Change the link and the stall fields of a MEMBER entry. -/
def onMember (n : Nat) (f : Link → Nat → Option Millis → Presence) (s : State) : State :=
  { s with
    pbc := { s.pbc with
      roster := tmodify s.pbc.roster n fun e =>
        match e.presence with
        | .member link stall ask => { e with presence := f link stall ask }
        | _ => e } }

/-- Step 2 of R17: the next exchange, or else step 3 (R19, R20). -/
def nextExchange (s : State) : State :=
  if s.pbc.turn.made < s.pbc.turn.budget then
    match (idsAfter s.pbc.rotationPtr).find? (eligible s) with
    | none => passOn s
    | some p =>
      let s := onMember p (fun link stall ask => .member link stall (ask.map fun _ => s.now)) s
      let s :=
        { s with
          pbc := { s.pbc with
            rotationPtr := p
            turn := { s.pbc.turn with made := s.pbc.turn.made + 1, chosen := s.pbc.turn.chosen ++ [p] } } }
      sendAndWait (.ask s.pbc.id p) (.ask p) s
  else passOn s

/-- The ID of the census check: the first after the pointer that is not the hub's and has no MEMBER entry (R18). -/
def censusChoice (pbc : Pbc) : Option Nat :=
  (idsAfter pbc.censusPtr).find? fun n => n != pbc.id && !(pbc.entry n).any (·.isMember)

/-- Step 1 of R17 if the census interval has passed, then the exchanges. The census pointer and the time of the check are set
where the PROBE is chosen, before its answer (R18, log 41). -/
def turnSequence (s : State) : State :=
  if passed s.now s.pbc.lastCensus s.pbc.timing.census then
    let s := { s with pbc := { s.pbc with lastCensus := s.now } }
    match censusChoice s.pbc with
    | none => nextExchange s
    | some n => sendAndWait (.probe n) (.probe true n false) { s with pbc := { s.pbc with censusPtr := n } }
  else nextExchange s

/-- The hub takes the turn (R17). -/
def beginTurn (s : State) : State :=
  let s :=
    { s with
      pbc := { s.pbc with
        silentSince := none
        turn := { holds := true, made := 0, chosen := [], budget := s.pbc.timing.turnBudget, started := s.now } } }
  if s.pbc.sweepPending then startSweep s else turnSequence s

/-- The hub broadcasts the ring (R4). -/
def sendRing (s : State) : State := sendPb (.ring s.pbc.ring) s

/-- A sweep completes: the roster is updated in one change, RING is sent, the hub is MEMBER with the turn (R14). -/
def completeSweep (s : State) : State :=
  let changed := s.pbc.results.any fun kv => probeChanges kv.2 (s.pbc.entry kv.1)
  let s := s.pbc.results.foldl (fun t kv => applyProbe kv.1 kv.2 t) s
  let s := setFlagIf changed .roster { s with pbc := { s.pbc with node := .member, results := [], work := .idle } }
  beginTurn (sendRing s)

/-- The probe in progress ends with a result (R12, R13, R18). -/
def endProbe (r : ProbeResult) (s : State) : State :=
  match s.pbc.work with
  | .probe true n _ =>
    let before := s.pbc.entry n
    let t := setFlagIf (probeChanges r before) .roster (applyProbe n r s)
    let t := { t with pbc := { t.pbc with work := .idle, windowOpen := false } }
    nextExchange (if (t.pbc.entry n).any (·.isMember) && probeChanges r before then sendRing t else t)
  | .probe false n _ =>
    let t := { s with pbc := { s.pbc with results := tput s.pbc.results n r, windowOpen := false } }
    match nextProbeId s.pbc.id n with
    | some m => sendAndWait (.probe m) (.probe false m false) t
    | none => completeSweep t
  | _ => s

/-- A reply window is open for a probe. -/
def probeOpen (pbc : Pbc) : Bool :=
  pbc.windowOpen && match pbc.work with
    | .probe _ _ _ => true
    | _ => false

/-! ### What the hub takes from the line (R2, R9, R15) -/

/-- Activity: noted, or it restarts the silence timer, or ends a PASS wait, or is heard in a probe window (R2, R13, R15, R22). -/
def noteActivity (s : State) : State :=
  let p : Pbc :=
    { s.pbc with reserved := s.pbc.reserved.map fun (r : Nat × RoomStage) => if r.2 = .window then (r.1, .heard) else r }
  match p.node with
  | .asleep => s
  | .listening | .conflict => { s with pbc := { p with activitySeen := true } }
  | .checking => { s with pbc := p }
  | .sweeping | .member =>
    match p.work, p.windowOpen with
    | .pass _ _, true =>
      { s with pbc := { p with work := .idle, windowOpen := false, turn := { p.turn with holds := false }, silentSince := some s.now } }
    | .probe c n _, true => { s with pbc := { p with work := .probe c n true } }
    | _, _ =>
      if p.node = .member ∧ !p.turn.holds then { s with pbc := { p with silentSince := some s.now } } else { s with pbc := p }

/-- A frame carrying the hub's ID during CHECKING sends the node to CONFLICT (R9). -/
def examine (ids : List Byte) (s : State) : State :=
  if s.pbc.node = .checking ∧ ids.any (·.toNat == s.pbc.id) then
    setFlag .bus { s with pbc := { s.pbc with node := .conflict, checkingExpiry := none } }
  else s

/-- The reservation lapses at the end of the first frame after its ROOM (R23). -/
def lapseReservation (s : State) : State := { s with pbc := { s.pbc with reserved := none } }

/-- A clean frame is activity and is examined; `ids` are its source and destination fields. -/
def cleanFrame (ids : List Byte) (s : State) : State :=
  if s.pbc.node = .asleep then s else examine ids (noteActivity s)

/-- A clean frame that is no HERE, first in a probe window, is its answer: Contested (R11, R13, log 15). -/
def answerProbe (s : State) : State := if probeOpen s.pbc then endProbe .contested s else s

/-- A frame that is not clean is discarded and counted; it remains activity (R1, R2). -/
def badPbFrame (s : State) : State :=
  if s.pbc.node = .asleep then s
  else
    let s := lapseReservation (noteActivity s)
    { s with pbc := { s.pbc with badFrames := bump s.pbc.badFrames } }

/-! ### Node states (R7 to R10) -/

/-- The node goes to CHECKING with a fresh window (R9). -/
def startChecking (s : State) : State :=
  { s with pbc := { s.pbc with node := .checking, checkingExpiry := some (after s.now Config.checkingMs) } }

/-- At RUN and at the end of a load a LISTENING node with BUS-AUTO on goes to CHECKING (R30). -/
def busAutoStep (s : State) : State := if s.pbc.node = .listening ∧ s.pbc.busAuto then startChecking s else s

/-- The node enters LISTENING: activity-seen and last-turn-seen are cleared (R2). -/
def enterListening (s : State) : State :=
  { s with pbc := { s.pbc with node := .listening, activitySeen := false, lastTurn := none } }

/-- The node leaves the bus (R10). -/
def leaveBus (s : State) : State :=
  let members := s.pbc.memberIds
  let s := members.foldl (fun t n => match t.pbc.entry n with
    | some e => departure n (setRoster n { e with presence := .absent s.now } t)
    | none => t) s
  let s := enterListening
    { s with
      pbc := { s.pbc with
        checkingExpiry := none, sweepPending := false, results := [], work := .idle, windowOpen := false, tx := [],
        silentSince := none, reserved := none, inbound := [], turn := { s.pbc.turn with holds := false, chosen := [] } } }
  setFlagIf (!members.isEmpty) .roster s

/-- An entry is removed from the roster and its owner's protects are released (R6). -/
def removeEntry (n : Nat) (s : State) : State := setFlag .roster (release n (dropRoster n s))

/-- Every MEMBER at or above the stall limit becomes STALLED, BUS being set (R21). -/
def applyStallLimit (s : State) : State :=
  let stalls (e : RosterEntry) : Bool :=
    match e.presence with
    | .member _ stall none => s.pbc.timing.stallLimit ≤ stall
    | _ => false
  let roster := s.pbc.roster.map fun kv =>
    if stalls kv.2 then
      (kv.1, match kv.2.presence with
        | .member link stall _ => { kv.2 with presence := .member link stall (some s.now) }
        | _ => kv.2)
    else kv
  setFlagIf (s.pbc.roster.any fun kv => stalls kv.2) .bus { s with pbc := { s.pbc with roster := roster } }

/-- SET-NODE's effect where the state accepts it; none where it is refused STATE (R7). -/
def applyNodeId (n : Nat) (s : State) : Option State :=
  let own (s : State) : State :=
    let s := { s with pbc := { s.pbc with id := n } }
    if (s.pbc.entry n).isSome then removeEntry n s else s
  match s.pbc.node, n with
  | .asleep, 0 => some s
  | .asleep, _ => some (enterListening (own s))
  | .listening, 0 => some { s with pbc := { s.pbc with id := 0, node := .asleep } }
  | .listening, _ => some (own s)
  | .conflict, 0 => none
  | .conflict, _ => some (startChecking (own s))
  | _, _ => none

/-! ### Inbound cargo (R23 to R25, R204) -/

/-- The transitions of a KEYS payload's entries; none for an unknown transition. -/
def keyTransitions : List Byte → Option (List (Nat × Bool))
  | [] => some []
  | k :: t :: rest => match flagOf t.toNat with
    | none => none
    | some press => (keyTransitions rest).map ((k.toNat, press) :: ·)
  | _ => none

/-- A well-formed KEYS list (R24, R204). -/
def keysPayload : List Byte → Option (List (Nat × Bool))
  | kind :: count :: rest =>
    if kind = 1 ∧ 1 ≤ count.toNat ∧ count.toNat ≤ 16 ∧ rest.length = 2 * count.toNat then keyTransitions rest else none
  | _ => none

/-- Slots that neither hold a stored cargo nor are reserved (R23). -/
def freeSlots (pbc : Pbc) : Nat := Config.inboundMax - pbc.inbound.length - if pbc.reserved.isSome then 1 else 0

/-- A cargo is discarded without GOT, or after it, and counted (R24). -/
def discardCargo (s : State) : State := { s with pbc := { s.pbc with discarded := bump s.pbc.discarded } }

/-- The last accepted inbound sequence of a panel becomes `q` (R24). -/
def acceptSeq (n q : Nat) (s : State) : State := onMember n (fun link stall ask => .member { link with lastIn := some q } stall ask) s

/-- The table of R24 for a cargo addressed to the hub, the reservation being as it stood before the frame. -/
def takeCargo (n seq : Nat) (payload : List Byte) (s : State) : State :=
  match s.pbc.presence n with
  | some (.member link _ _) =>
    let got := sendPb (.got s.pbc.id n)
    if link.lastIn = some seq then got s
    else
      match keysPayload payload with
      | none => got (acceptSeq n seq (discardCargo s))
      | some l =>
        if s.pbc.reserved.any (·.1 == n) || 0 < freeSlots s.pbc then
          got (acceptSeq n seq { s with pbc := { s.pbc with inbound := s.pbc.inbound ++ [⟨n, l⟩] } })
        else discardCargo s
  | _ => discardCargo s

/-! ### Outbound exchanges (R20, R21) -/

/-- ROOM: the stall fields are cleared and the LAMPS cargo is built and sent (R20). A dirty key without a context, whose desired image
KD does not hold then, is carried OFF STEADY (log 40). -/
def sendLamps (p : Nat) (s : State) : State :=
  match s.pbc.presence p with
  | some (.member link _ _) =>
    let lamps := (link.dirty.take Config.lampsMax).map fun k => (k, ((s.kd.key p k).map (·.image)).getD imageOff)
    let s := onMember p (fun link _ _ => .member { link with outSeq := (link.outSeq + 1) % 256 } 0 none) s
    sendAndWait (.cargo s.pbc.id p link.outSeq lamps) (.cargo p lamps) s
  | _ => s

/-- GOT: each key carried takes its sent image, and leaves the dirty set unless its desired image has changed (R20). -/
def confirmLamps (p : Nat) (carried : List (Nat × Image)) (s : State) : State :=
  onMember p (fun link stall ask =>
    .member
      (carried.foldl (fun l c =>
        { l with
          sent := l.sent.set c.1 (some c.2)
          dirty := if ((s.kd.key p c.1).map (·.image)) = some c.2 then l.dirty.filter (· != c.1) else l.dirty }) link)
      stall ask) s

/-- NOROOM adds to the stall count, to 255, and may make the panel STALLED (R21). -/
def stallPanel (p : Nat) (s : State) : State :=
  match s.pbc.presence p with
  | some (.member _ stall ask) =>
    let n := if stall < 255 then stall + 1 else stall
    let stalls := ask.isNone && s.pbc.timing.stallLimit ≤ n
    setFlagIf stalls .bus (onMember p (fun link _ a => .member link n (if stalls then some s.now else a)) s)
  | _ => s

/-- The turn is lost to a silent successor (R22). -/
def loseTurn (n : Nat) (s : State) : State :=
  let s := match s.pbc.entry n with
    | some e => if e.isMember then setFlag .roster (departure n (setRoster n { e with presence := .absent s.now } s)) else s
    | none => s
  passOn (sendRing s)

end Sys2Proof.Machine
end

