-- ==== Sys2Proof/Machine/PanelBus.lean ====
section
/-! DEFINITION. The meanings of PBC's commands (chapter 1). -/

namespace Sys2Proof.Machine

/-! ### Requests -/

/-- R7. -/
def ownSetNode (body : List Byte) (s : State) : Answer :=
  match body with
  | [n] =>
    if 63 < n.toNat then .refuse .range s
    else match applyNodeId n.toNat s with
      | none => .refuse .state s
      | some t => .now .ok [] t
  | _ => .refuse .malformed s

def execSetNode (tag : Byte) (body : List Byte) (s : State) : Out := request .setNode .config ownSetNode tag body s

/-- The enable part of BUS-ENABLE (R8). -/
def applyEnable (on : Bool) (s : State) : Answer :=
  match s.pbc.node, on with
  | .asleep, true => .refuse .state s
  | .asleep, false | .listening, false => .now .ok [] s
  | .listening, true => .now .ok [] (startChecking s)
  | _, true => .now .ok [] s
  | _, false => .now .ok [] (leaveBus s)

/-- R8: a BUS-AUTO value is stored in every state, before the enable value is acted on. -/
def ownBusEnable (body : List Byte) (s : State) : Answer :=
  match body with
  | e :: rest =>
    match flagOf e.toNat, presence [1] rest with
    | some on, some [none] => applyEnable on s
    | some on, some [some a] =>
      match flagOf a with
      | none => .refuse .malformed s
      | some auto => applyEnable on { s with pbc := { s.pbc with busAuto := auto } }
    | _, _ => .refuse .malformed s
  | [] => .refuse .malformed s

def execBusEnable (tag : Byte) (body : List Byte) (s : State) : Out := request .busEnable .config ownBusEnable tag body s

/-- Each field present is clamped into its range (R28). -/
def BusTimings.update (t : BusTimings) (fs : List (Option Nat)) : BusTimings :=
  { replyWindow := ((fieldAt fs 0).map (clampN 50 1000)).getD t.replyWindow
    silence := ((fieldAt fs 1).map (clampN 1 50)).getD t.silence
    turnBudget := ((fieldAt fs 2).map (clampN 1 8)).getD t.turnBudget
    census := ((fieldAt fs 3).map (clampN 100 5000)).getD t.census
    stallLimit := ((fieldAt fs 4).map (clampN 1 255)).getD t.stallLimit
    release := ((fieldAt fs 5).map (clampN 0 255)).getD t.release }

/-- R15. -/
def endSilence (s : State) : State :=
  if s.pbc.node = .member ∧ !s.pbc.turn.holds ∧ s.pbc.silentSince.any (passed s.now · s.pbc.timing.silence) then startSweep s
  else s

/-- R26. -/
def endAbsence (n : Nat) (s : State) : State :=
  match s.pbc.presence n with
  | some (.absent since) => if passed s.now since (s.pbc.timing.release * 1000) then removeEntry n s else s
  | _ => s

/-- The settings are stored (R28). A stall limit, a release interval and a silence interval carried act at once (R15, R21, R26). -/
def applyBusTiming (fs : List (Option Nat)) (s : State) : State :=
  let s := { s with pbc := { s.pbc with timing := s.pbc.timing.update fs } }
  let s := if (fieldAt fs 4).isSome then applyStallLimit s else s
  let s := if (fieldAt fs 5).isSome then (s.pbc.roster.map (·.1)).foldl (fun t n => endAbsence n t) s else s
  if (fieldAt fs 1).isSome then endSilence s else s

/-- R28. -/
def ownBusTiming (body : List Byte) (s : State) : Answer :=
  match presence [2, 2, 1, 2, 1, 1] body with
  | none => .refuse .malformed s
  | some fs => .now .ok [] (applyBusTiming fs s)

def execBusTiming (tag : Byte) (body : List Byte) (s : State) : Out := request .busTiming .config ownBusTiming tag body s

/-- R16: a sweep is made pending, and starts at once if the hub holds the turn. -/
def ownSweepNow (s : State) : Answer :=
  if s.pbc.node ≠ .member then .refuse .state s
  else
    let s := { s with pbc := { s.pbc with sweepPending := true } }
    .now .ok [] (if s.pbc.turn.holds then startSweep s else s)

def execSweepNow (tag : Byte) (body : List Byte) (s : State) : Out := request .sweepNow .live (noFields ownSweepNow) tag body s

/-- R27. -/
def ownForget (body : List Byte) (s : State) : Answer :=
  match body with
  | [n] =>
    if !nodeByte n then .refuse .range s
    else match s.pbc.entry n.toNat with
      | none => .refuse .state s
      | some e => if e.isMember then .refuse .state s else .now .ok [] (removeEntry n.toNat s)
  | _ => .refuse .malformed s

def execForget (tag : Byte) (body : List Byte) (s : State) : Out := request .forget .live ownForget tag body s

/-- One roster entry of READ-ROSTER, with every field present in it, and its two times in every state (R29, R202). The one byte of the
key count and of the stall count, the forms of the two sequences and the one 0xFF for an absent panel kind, unit number and key count
are log 14's. -/
def rosterBytes (kv : Nat × RosterEntry) : List Byte :=
  let e := kv.2
  e1 kv.1 ++ e1 e.presence.code ++
    (match e.info with
      | none => [0xFF]
      | some i => e1 i.kind.code ++ e4 i.unit ++ e1 i.keys) ++
    match e.presence with
    | .member link stall ask =>
      e1 stall ++ eBool ask.isSome ++ eTime ask ++ eTime none ++ e2 link.dirty.length ++ e1 link.outSeq ++ eWide link.lastIn
    | .absent since => eTime none ++ eTime (some since)
    | .contested => eTime none ++ eTime none

/-- What READ-ROSTER gives before its roster entries (R29, log 14). -/
def rosterFront (p : Pbc) : List Byte :=
  e1 p.node.code ++ e1 p.id ++ eBool p.busAuto ++ eBool p.turn.holds ++ eBool p.sweepPending ++ eBool p.activitySeen
    ++ eIndex p.lastTurn ++ e2 p.timing.replyWindow ++ e2 p.timing.silence ++ e1 p.timing.turnBudget ++ e2 p.timing.census
    ++ e1 p.timing.stallLimit ++ e1 p.timing.release ++ e2 p.ring.length ++ p.ring.flatMap e1 ++ e1 p.censusPtr
    ++ e1 p.rotationPtr ++ e2 p.badFrames ++ e2 p.discarded ++ e2 p.inbound.length ++ p.inbound.flatMap (fun c => e1 c.sender)
    ++ eIndex (p.reserved.map (·.1))

/-- R29. -/
def ownReadRoster (body : List Byte) (s : State) : Answer :=
  match skipOf body with
  | none => .refuse .malformed s
  | some skip => .now .ok (longList (rosterFront s.pbc) (s.pbc.roster.map rosterBytes) skip []) s

def execReadRoster (tag : Byte) (body : List Byte) (s : State) : Out := request .readRoster .read ownReadRoster tag body s

/-! ### Frames and characters from the pair -/

def execPbBadFrame (s : State) : Out := finish (badPbFrame s)

/-- A gap ends a frame early; such a frame is not clean (R1, log 9), and it is activity at the gap's expiry (log 42). -/
def execPbGapExpiry (s : State) : Out := finish (badPbFrame s)

/-- The fields of a frame of another kind that R9 examines. -/
def busOtherIds : BusOther → List Byte
  | .probe t => [t]
  | _ => []

/-- A character of activity (R15), and the clean frame of another kind it completes, if any (R2, R9). -/
def hearActivity (completes : Option BusOther) (s : State) : State :=
  match completes with
  | none => noteActivity s
  | some f =>
    if !f.clean then badPbFrame s
    else if s.pbc.node = .asleep then s
    else answerProbe (lapseReservation (cleanFrame (busOtherIds f) s))

def execActivity (completes : Option BusOther) (s : State) : Out := finish (hearActivity completes s)

/-- The frame is the one the work in progress waits to see answered. -/
def Work.awaits : Work → PbFrame → Bool
  | .probe _ n _, .probe t => n == t
  | .ask p, .ask _ t => p == t
  | .cargo p _, .cargo _ t _ _ => p == t
  | .pass t _, .pass u => t == u
  | _, _ => false

/-- The end of a hub frame opens the reply window for its answer (R11, R23). -/
def pbFrameSent (s : State) : State :=
  match s.pbc.tx with
  | [] => s
  | f :: rest =>
    let p := { s.pbc with tx := rest }
    match f with
    | .room _ n =>
      { s with pbc := { p with reserved := p.reserved.map fun r => if r = (n, .sending) then (n, .window) else r } }
    | _ =>
      if p.work.awaits f && !rest.any p.work.awaits then { s with pbc := { p with windowOpen := true } } else { s with pbc := p }

def execPbFrameSent (s : State) : Out := finish (pbFrameSent s)

/-- A clean PASS (R2, R17). What is done with it is what the node does in the state it is in when the frame comes (log 36); in
CONFLICT one that carries the hub's ID is noted as any other (log 39). -/
def hearPass (target : Byte) (s : State) : State :=
  let t := lapseReservation (cleanFrame [target] s)
  answerProbe <|
    match s.pbc.node with
    | .listening | .conflict => { t with pbc := { t.pbc with lastTurn := some target.toNat } }
    | .member => if target.toNat = t.pbc.id ∧ !t.pbc.turn.holds then beginTurn t else t
    | _ => t

def execPassReceived (target : Byte) (s : State) : Out :=
  finish (if nodeByte target then hearPass target s else badPbFrame s)

/-- A clean ASK: answered ROOM with a reservation, or NOROOM, or not at all (R23). An earlier reservation lapses at this frame's end,
before the free slots are counted for the answer (log 31). -/
def hearAsk (sender target : Byte) (s : State) : State :=
  let s := lapseReservation (cleanFrame [sender, target] s)
  let n := sender.toNat
  answerProbe <|
    if s.pbc.node = .member ∧ !s.pbc.turn.holds ∧ target.toNat = s.pbc.id then
      if (s.pbc.entry n).any (·.isMember) && 0 < freeSlots s.pbc then
        sendPb (.room s.pbc.id n) { s with pbc := { s.pbc with reserved := some (n, .sending) } }
      else sendPb (.noroom s.pbc.id n) s
    else s

def execAskReceived (sender target : Byte) (s : State) : Out :=
  finish (if nodeByte sender && nodeByte target then hearAsk sender target s else badPbFrame s)

/-- A clean CARGO (R24). -/
def hearCargo (sender target seq : Byte) (payload : List Byte) (s : State) : State :=
  let s := cleanFrame [sender, target] s
  answerProbe <| lapseReservation <|
    if s.pbc.node = .member ∧ target.toNat = s.pbc.id then takeCargo sender.toNat seq.toNat payload s else s

def execCargoReceived (sender target seq : Byte) (payload : List Byte) (s : State) : Out :=
  finish (if cargoClean sender target payload then hearCargo sender target seq payload s else badPbFrame s)

/-- A frame addressed to the hub from the node the work in progress waits for, its window being open. -/
def answers (pbc : Pbc) (p : Nat) (sender target : Byte) : Bool :=
  pbc.node == .member && pbc.windowOpen && sender.toNat == p && target.toNat == pbc.id

/-- A clean ROOM (R20). -/
def hearRoom (sender target : Byte) (s : State) : State :=
  let s := lapseReservation (cleanFrame [sender, target] s)
  answerProbe <|
    match s.pbc.work with
    | .ask p => if answers s.pbc p sender target then sendLamps p s else s
    | _ => s

def execRoomReceived (sender target : Byte) (s : State) : Out :=
  finish (if nodeByte sender && nodeByte target then hearRoom sender target s else badPbFrame s)

/-- A clean NOROOM (R21). -/
def hearNoroom (sender target : Byte) (s : State) : State :=
  let s := lapseReservation (cleanFrame [sender, target] s)
  answerProbe <|
    match s.pbc.work with
    | .ask p => if answers s.pbc p sender target then nextExchange (stallPanel p s) else s
    | _ => s

def execNoroomReceived (sender target : Byte) (s : State) : Out :=
  finish (if nodeByte sender && nodeByte target then hearNoroom sender target s else badPbFrame s)

/-- A clean GOT (R20). -/
def hearGot (sender target : Byte) (s : State) : State :=
  let s := lapseReservation (cleanFrame [sender, target] s)
  answerProbe <|
    match s.pbc.work with
    | .cargo p carried => if answers s.pbc p sender target then nextExchange (confirmLamps p carried s) else s
    | _ => s

def execGotReceived (sender target : Byte) (s : State) : Out :=
  finish (if nodeByte sender && nodeByte target then hearGot sender target s else badPbFrame s)

/-- A clean HERE: in a probe window it ends the probe, Present from the ID probed, Contested otherwise (R13). -/
def hearHere (sender kind : Byte) (unit : BitVec 32) (keys : Byte) (s : State) : State :=
  let s := lapseReservation (cleanFrame [sender] s)
  match s.pbc.work, s.pbc.windowOpen with
  | .probe _ n _, true =>
    endProbe (if sender.toNat = n then .present ⟨.ofCode kind.toNat, unit, keys.toNat⟩ else .contested) s
  | _, _ => s

def execHereReceived (sender kind : Byte) (unit : BitVec 32) (keys : Byte) (s : State) : Out :=
  finish (if hereClean sender kind keys then hearHere sender kind unit keys s else badPbFrame s)

/-! ### Windows and timers -/

/-- R13. -/
def closeProbe (s : State) : State :=
  match s.pbc.work, s.pbc.windowOpen with
  | .probe _ _ heard, true => endProbe (if heard then .contested else .absent) s
  | _, _ => s

def execProbeWindowClose (s : State) : Out := finish (closeProbe s)

/-- R20: no answer to ASK. -/
def closeAsk (s : State) : State :=
  match s.pbc.work, s.pbc.windowOpen with
  | .ask _, true => nextExchange s
  | _, _ => s

def execAskWindowClose (s : State) : Out := finish (closeAsk s)

/-- R20: no GOT. -/
def closeCargo (s : State) : State :=
  match s.pbc.work, s.pbc.windowOpen with
  | .cargo _ _, true => nextExchange s
  | _, _ => s

def execCargoWindowClose (s : State) : Out := finish (closeCargo s)

/-- R22. -/
def closePass (s : State) : State :=
  match s.pbc.work, s.pbc.windowOpen with
  | .pass t false, true => sendAndWait (.pass t) (.pass t true) s
  | .pass t true, true => loseTurn t s
  | _, _ => s

def execPassWindowClose (s : State) : Out := finish (closePass s)

/-- R23: the window after a ROOM closes without a character. -/
def lapseRoom (s : State) : State := if s.pbc.reserved.any (·.2 == .window) then lapseReservation s else s

def execReservationLapse (s : State) : Out := finish (lapseRoom s)

/-- R9, R12. -/
def endChecking (s : State) : State :=
  if s.pbc.node = .checking ∧ dueOpt s.now s.pbc.checkingExpiry then startSweep s else s

def execCheckingExpiry (s : State) : Out := finish (endChecking s)

def execSilenceExpiry (s : State) : Out := finish (endSilence s)

/-- R17: the ring holds the hub alone and the census interval has passed since the last turn sequence began. -/
def endCensusInterval (s : State) : State :=
  if s.pbc.node = .member ∧ s.pbc.turn.holds ∧ s.pbc.work = .idle ∧ s.pbc.successor = s.pbc.id
      ∧ passed s.now s.pbc.turn.started s.pbc.timing.census then beginTurn s
  else s

def execCensusIntervalExpiry (s : State) : Out := finish (endCensusInterval s)

def execAbsenceExpiry (n : Nat) (s : State) : Out := finish (endAbsence n s)

/-! ### Soft reset (R31) -/

/-- PBC's soft reset (R31); the frames chosen are dropped (log 18). Removing an entry of the roster sets the ROSTER flag, as every change
of the roster does (R6, R191). No departure is made (R31): a context KD holds by then, made after KD's own soft reset, stands (log 47). -/
def softResetPbc (s : State) : State :=
  let p := s.pbc
  let s := setFlagIf (!p.roster.isEmpty) .roster
    { s with
      pbc := { Pbc.powerOn with
        id := p.id, busAuto := p.busAuto, timing := p.timing, lastCensus := s.now
        turn := { p.turn with holds := false, made := 0, chosen := [] } } }
  if p.id = 0 then s
  else if p.busAuto then startChecking s
  else enterListening s

end Sys2Proof.Machine
end

