-- ==== Sys2Proof/Machine/Panels.lean ====
section
/-! DEFINITION. The meanings of KD's commands (chapter 2). -/

namespace Sys2Proof.Machine

/-! ### Requests -/

/-- A panel record whose keys are all of kind NONE (R32). -/
def newPanel (port : Option Nat) (mode : TakeMode) : PanelRec := { port := port, mode := mode, keys := [] }

/-- Store a panel record's fields: create the record, or replace them, a changed port deactivating TALK and LISTEN keys; then
the panel's images are recomputed (R32). -/
def storePanel (n : Nat) (port : Option Nat) (mode : TakeMode) (s : State) : State :=
  refreshPanel (fun _ => true) n <|
    match tfind s.kd.records n with
    | none => { s with kd := { s.kd with records := tput s.kd.records n (newPanel port mode) } }
    | some r =>
      let s := if r.port = port then s else deactivatePanel talkOrListen n s
      { s with kd := { s.kd with records := tput s.kd.records n { r with port := port, mode := mode } } }

/-- Remove a panel record: every key deactivated, indications, pressed flags and router-panel state cleared (R32). -/
def removePanel (n : Nat) (s : State) : State :=
  let s := deactivatePanel (fun _ => true) n s
  refreshPanel (fun _ => true) n
    { s with
      kd := { s.kd with
        records := tdel s.kd.records n
        contexts := tmodify s.kd.contexts n fun c =>
          { keys := c.keys.map fun kv => (kv.1, freshKey kv.2.image), dest := none, preset := none } } }

/-- R32. -/
def ownSetPanel (body : List Byte) (s : State) : Answer :=
  match body with
  | [n, 0, port, mode] =>
    if 1 < mode.toNat then .refuse .malformed s
    else if !nodeByte n || !indexUpTo 95 port.toNat then .refuse .range s
    else .now .ok [] (storePanel n.toNat (optIndex port.toNat) (if mode = 0 then .direct else .preset) s)
  | [n, 1] =>
    if !nodeByte n then .refuse .range s
    else if (tfind s.kd.records n.toNat).isNone then .refuse .state s
    else .now .ok [] (removePanel n.toNat s)
  | _ => .refuse .malformed s

def execSetPanel (tag : Byte) (body : List Byte) (s : State) : Out := request .setPanel .config ownSetPanel tag body s

/-- The bytes of a key entry, its kind included, that the kind calls for (R203). -/
def keyLength : Nat → Option Nat
  | 0 | 5 | 6 => some 1
  | 1 => some 8
  | 2 => some 4
  | 3 | 4 => some 3
  | 7 | 8 => some 2
  | _ => none

/-- A key target of its form; LIVE carries the index 0xFF (R203), and with another it is MALFORMED (log 13). -/
def keyTarget (t i : Byte) : Option KeyTarget :=
  match t.toNat with
  | 0 => some (.port i.toNat)
  | 1 => some (.group i.toNat)
  | 2 => if i = 0xFF then some .live else none
  | _ => none

/-- A talk mode (R202). -/
def talkMode : Nat → Option TalkMode
  | 0 => some .momentary
  | 1 => some .latch
  | 2 => some .auto
  | _ => none

/-- The key entry a kind and its fields give, level and limit clamped; none where the form is MALFORMED (R33, R203). TALK on LIVE with
listen-with and LISTEN to LIVE are judged with the form, before any range (log 13). -/
def keyForm (bytes : List Byte) : Option KeyEntry :=
  match bytes with
  | [0] => some .none
  | [1, t, i, m, lw, ll, hi, lo] =>
    match keyTarget t i, talkMode m.toNat, flagOf lw.toNat with
    | some .live, some _, some true => Option.none
    | some target, some mode, some lw =>
      some (.talk target mode lw (clampI (-80) 24 (signedByte ll.toNat)) (clampN 0 600 (beNat [hi, lo])))
    | _, _, _ => Option.none
  | [2, t, i, l] =>
    match keyTarget t i with
    | some .live => Option.none
    | some target => some (.listen target (clampI (-80) 24 (signedByte l.toNat)))
    | Option.none => Option.none
  | [3, hi, lo] => some (.source (beNat [hi, lo]))
  | [4, hi, lo] => some (.dest (beNat [hi, lo]))
  | [5] => some .take
  | [6] => some .protect
  | [7, n] => some (.salvo n.toNat)
  | [8, p] => some (.call p.toNat)
  | _ => Option.none

def targetInRange : KeyTarget → Bool
  | .port p => p ≤ 95
  | .group g => g ≤ 31
  | .live => true

/-- Every index field of a key entry lies in its range (R33). -/
def keyInRange : KeyEntry → Bool
  | .none | .take | .protect => true
  | .talk t _ _ _ _ | .listen t _ => targetInRange t
  | .source i | .dest i => i ≤ 255
  | .salvo n => n ≤ 63
  | .call p => p ≤ 23

/-- Replace a key's entry: the key is deactivated first, its indication cleared, its image recomputed (R33). -/
def storeKey (n k : Nat) (e : KeyEntry) (s : State) : State :=
  let s := setKeyCtx n k (fun x => { x with refusalExpiry := none }) (deactivateIfActive n k s)
  refreshKey
    { s with kd := { s.kd with records := tmodify s.kd.records n fun r => { r with keys := tset .none r.keys k e } } } n k

/-- R33: the form, in which TALK on LIVE with listen-with is MALFORMED already, then the ranges, then the record (log 13). -/
def ownSetKey (body : List Byte) (s : State) : Answer :=
  match body with
  | n :: k :: kind :: rest =>
    match keyForm (kind :: rest) with
    | none => .refuse .malformed s
    | some e =>
      if !nodeByte n || 31 < k.toNat || !keyInRange e then .refuse .range s
      else if (tfind s.kd.records n.toNat).isNone then .refuse .state s
      else .now .ok [] (storeKey n.toNat k.toNat e s)
  | _ => .refuse .malformed s

def execSetKey (tag : Byte) (body : List Byte) (s : State) : Out := request .setKey .config ownSetKey tag body s

/-- R56. -/
def ownKeyTiming (body : List Byte) (s : State) : Answer :=
  match body with
  | [hi, lo] => .now .ok [] { s with kd := { s.kd with tapWindow := clampN 100 1000 (beNat [hi, lo]) } }
  | _ => .refuse .malformed s

def execKeyTiming (tag : Byte) (body : List Byte) (s : State) : Out := request .keyTiming .config ownKeyTiming tag body s

/-- The sent image of a key as PBC's link part holds it; UNKNOWN is colour 5 (R202), with the pattern byte of STEADY (log 14). -/
def sentBytes (s : State) (n k : Nat) : List Byte :=
  match s.pbc.presence n with
  | some (.member link _ _) => match (link.sent[k]?).join with
    | some i => i.bytes
    | none => [5, 0]
  | _ => [5, 0]

/-- Whether a key is in its panel's dirty set. -/
def isDirty (s : State) (n k : Nat) : Bool :=
  match s.pbc.presence n with
  | some (.member link _ _) => link.dirty.contains k
  | _ => false

/-- The live state of one key in READ-PANEL (R57). -/
def keyCtxBytes (s : State) (n k : Nat) (x : KeyCtx) : List Byte :=
  e1 x.state.code ++ eBool x.pressed ++ eRemaining s.now x.tapExpiry ++ eRemaining s.now x.latchExpiry
    ++ eRemaining s.now x.refusalExpiry ++ x.image.bytes ++ sentBytes s n k ++ eBool (isDirty s n k)

/-- The context READ-PANEL shows: one of a panel that is MEMBER (R34). -/
def shownContext (s : State) (n : Nat) : Option Context :=
  if (s.pbc.entry n).any (·.isMember) then tfind s.kd.contexts n else none

/-- The Keys list of READ-PANEL: of each key its entry, if there is a record, and its live state; a key without a context is IDLE
(R34, R57, log 14). -/
def keyItems (s : State) (n : Nat) : List (List Byte) :=
  let rec' := tfind s.kd.records n
  let keys := ((shownContext s n).map (·.keys)).getD []
  (List.range (if rec'.isSome then Config.keysMax else keys.length)).map fun k =>
    (if rec'.isSome then (s.kd.entry n k).bytes else []) ++
      match tfind keys k with
      | some x => keyCtxBytes s n k x
      | none => e1 KeyState.idle.code

/-- What READ-PANEL gives before its keys (R57, log 14). -/
def panelFront (s : State) (n : Nat) : List Byte :=
  e2 s.kd.tapWindow ++ e2 s.kd.unassigned ++ e2 s.kd.duplicate ++
    (match tfind s.kd.records n with
      | none => eBool false
      | some r => eBool true ++ eIndex r.port ++ e1 r.mode.code) ++
    match shownContext s n with
    | none => eBool false
    | some c => eBool true ++ eWide c.dest ++ eWide c.preset

/-- R57. -/
def ownReadPanel (body : List Byte) (s : State) : Answer :=
  match body with
  | n :: rest => match skipOf rest with
    | none => .refuse .malformed s
    | some skip =>
      if !nodeByte n then .refuse .range s
      else .now .ok (longList (panelFront s n.toNat) (keyItems s n.toNat) skip []) s
  | [] => .refuse .malformed s

def execReadPanel (tag : Byte) (body : List Byte) (s : State) : Out := request .readPanel .read ownReadPanel tag body s

/-! ### Notifications of PBC -/

def PanelNotice.node : PanelNotice → Nat
  | .departure n => n
  | .join n _ => n

/-- KD takes a departure: the panel's keys are deactivated and its context deleted (R50). -/
def departPanel (n : Nat) (s : State) : State :=
  let s := deactivatePanel (fun _ => true) n s
  { s with kd := { s.kd with contexts := tdel s.kd.contexts n } }

/-- The oldest notice of a node, if it is a departure, is taken. -/
def takeDeparture (n : Nat) (s : State) : State :=
  match takeFirst (fun (x : PanelNotice) => x.node == n) s.reports.kdPanels with
  | some (.departure _, rest) => departPanel n { s with reports := { s.reports with kdPanels := rest } }
  | _ => s

def execKdDeparture (n : Nat) (s : State) : Out := finish (takeDeparture n s)

/-- Give a key its composed image and make it dirty (R51). -/
def paintKey (n : Nat) (s : State) (k : Nat) : State :=
  match tfind s.kd.contexts n with
  | none => s
  | some c => match tfind c.keys k with
    | none => s
    | some x =>
      let i := composeImage s n k c x
      markDirty n k (setKeyCtx n k (fun y => { y with image := i }) s)

/-- KD takes a join: a fresh context, every image composed, every key dirty (R51). -/
def joinPanel (n keys : Nat) (s : State) : State :=
  let ctx : Context := { keys := (List.range keys).map fun k => (k, freshKey imageOff), dest := none, preset := none }
  (List.range keys).foldl (paintKey n) { s with kd := { s.kd with contexts := tput s.kd.contexts n ctx } }

/-- The oldest notice of a node, if it is a join, is taken. -/
def takeJoin (n : Nat) (s : State) : State :=
  match takeFirst (fun (x : PanelNotice) => x.node == n) s.reports.kdPanels with
  | some (.join _ keys, rest) => joinPanel n keys { s with reports := { s.reports with kdPanels := rest } }
  | _ => s

def execKdJoin (n : Nat) (s : State) : Out := finish (takeJoin n s)

/-! ### Dispatch and key timers -/

/-- The oldest stored cargo is taken, its transitions in order, and its slot becomes free (R35). -/
def dispatchOldest (s : State) : State :=
  match s.pbc.inbound with
  | [] => s
  | c :: _ =>
    let s := c.transitions.foldl (takeTransition c.sender) s
    { s with pbc := { s.pbc with inbound := s.pbc.inbound.drop 1 } }

def execDispatch (s : State) : Out := finish (dispatchOldest s)

/-- R39: a tap window runs out and the key is HELD. -/
def endTapWindow (n k : Nat) (s : State) : State :=
  match s.kd.key n k with
  | none => s
  | some x =>
    if x.state = .timing ∧ dueOpt s.now x.tapExpiry then refreshKey (setKeyCtx n k (enterState .held 0 s) s) n k else s

def execTapWindowExpiry (n k : Nat) (s : State) : Out := finish (endTapWindow n k s)

/-- R38 to R40: a latch limit falls due and the key is deactivated. -/
def endLatchLimit (n k : Nat) (s : State) : State :=
  match s.kd.key n k with
  | none => s
  | some x =>
    if x.state = .latched ∧ dueOpt s.now x.latchExpiry then refreshKey (deactivateKey n k s) n k else s

def execLatchLimitExpiry (n k : Nat) (s : State) : Out := finish (endLatchLimit n k s)

/-- R49: an indication ends. -/
def endRefusal (n k : Nat) (s : State) : State :=
  match s.kd.key n k with
  | none => s
  | some x =>
    if dueOpt s.now x.refusalExpiry then refreshKey (setKeyCtx n k (fun y => { y with refusalExpiry := none }) s) n k else s

def execRefusalIndicationExpiry (n k : Nat) (s : State) : Out := finish (endRefusal n k s)

/-! ### Reports of RC, TR and TE -/

/-- Start an indication on a key that a panel's record and context reach, and show it (R46, R48). -/
def indicate (n k : Nat) (s : State) : State :=
  if (tfind s.kd.records n).isNone then s else refreshKey (refuseKey n k s) n k

/-- R46: the images that came with the outcome are recomputed, and an outcome but DONE starts an indication. -/
def takeOutcome (s : State) : State :=
  match s.reports.kdOutcomes with
  | [] => s
  | r :: rest =>
    let s := r.changes.foldl takeImageReport { s with reports := { s.reports with kdOutcomes := rest } }
    if r.outcome = .done then s else indicate r.node r.key s

def execKdTakeOutcome (s : State) : Out := finish (takeOutcome s)

/-- R48: the panel's SALVO image is recomputed, and other outcomes or skipped pairs start an indication. -/
def takeFire (s : State) : State :=
  match s.reports.kdFires with
  | [] => s
  | r :: rest =>
    let s := takeImageReport { s with reports := { s.reports with kdFires := rest } } (.fire r.salvo (some r.node))
    if r.other = 0 ∧ r.skipped = 0 then s else indicate r.node r.key s

def execKdFireCompletion (s : State) : Out := finish (takeFire s)

/-- R52: KD takes the oldest change report of one source. -/
def takeReportOf (src : KdSource) (s : State) : State :=
  match src with
  | .tr => match s.reports.kdFromTr with
    | [] => s
    | r :: rest => takeImageReport { s with reports := { s.reports with kdFromTr := rest } } r
  | .te => match s.reports.kdFromTe with
    | [] => s
    | r :: rest => takeImageReport { s with reports := { s.reports with kdFromTe := rest } } r
  | .rc => match s.reports.kdFromRc with
    | [] => s
    | r :: rest => takeImageReport { s with reports := { s.reports with kdFromRc := rest } } r

def execKdImageReport (src : KdSource) (s : State) : Out := finish (takeReportOf src s)

/-! ### Soft reset (R59) -/

/-- KD's soft reset; reports waiting for KD go with what they were about (log 20). Nothing is withdrawn from TE or TR (R59), whose own
soft resets may have come before, and PBC's may come after, with a join in between (log 47). -/
def softResetKd (s : State) : State :=
  { s with
    kd := { s.kd with contexts := [], unassigned := 0, duplicate := 0 }
    reports := { s.reports with kdPanels := [], kdFromTr := [], kdFromTe := [], kdFromRc := [], kdOutcomes := [], kdFires := [] } }

end Sys2Proof.Machine
end

