-- ==== Sys2Proof/Machine/Router.lean ====
section
/-! DEFINITION. The meanings of the Router Line and take queue commands of RC (chapter 4), and RC's soft reset. -/

namespace Sys2Proof.Machine

/-! ### Requests -/

/-- R92: range before the tests of R72; an accepted take is answered at its outcome. -/
def ownTake (tag : Byte) (body : List Byte) (s : State) : Answer :=
  match body with
  | [dh, dl, sh, sl] =>
    let d := beNat [dh, dl]
    let src := beNat [sh, sl]
    if 255 < d || 255 < src then .refuse .range s
    else match takeTest s.rc d none with
      | some c => .refuse c s
      | none => .later (enqueue d src (.party (.host tag)) s)
  | _ => .refuse .malformed s

def execTake (tag : Byte) (body : List Byte) (s : State) : Out := request .take .live (ownTake tag) tag body s

/-- The requester kind: host, panel or fire (R202). -/
def Requester.code : Requester → Nat
  | .party (.host _) => 0
  | .party (.panel _ _) => 1
  | .fire _ => 2

/-- R93: the oldest WAITING entry is removed with CANCELLED; its outcome comes before the reply made here. -/
def ownTakeCancel (s : State) : Answer :=
  match takeFirst TakeEntry.isWaiting s.rc.queue with
  | none => .refuse .state s
  | some (e, rest) =>
    .now .ok (e2 e.dest ++ e2 e.source ++ e1 e.requester.code) <| fillWindow <|
      deliver e.requester .cancelled [] [.takes e.dest e.requester.panels] { s with rc := { s.rc with queue := rest } }

def execTakeCancel (tag : Byte) (body : List Byte) (s : State) : Out :=
  request .takeCancel .live (noFields ownTakeCancel) tag body s

/-- R94. -/
def ownFireSalvo (tag : Byte) (body : List Byte) (s : State) : Answer :=
  match body with
  | [n] =>
    if 63 < n.toNat then .refuse .range s
    else match fireTest s.rc n.toNat none with
      | some c => .refuse c s
      | none => .later (startFire n.toNat (.host tag) s)
  | _ => .refuse .malformed s

def execFireSalvo (tag : Byte) (body : List Byte) (s : State) : Out := request .fireSalvo .live (ownFireSalvo tag) tag body s

/-- R96. -/
def ownRouterTiming (body : List Byte) (s : State) : Answer :=
  match body with
  | [hi, lo] => .now .ok [] { s with rc := { s.rc with replyTimer := clampN 10 1000 (beNat [hi, lo]) } }
  | _ => .refuse .malformed s

def execRouterTiming (tag : Byte) (body : List Byte) (s : State) : Out :=
  request .routerTiming .config ownRouterTiming tag body s

/-- The five bytes of a requester (R202). -/
def requesterBytes (rc : Rc) : Requester → List Byte
  | .party p => e1 (Requester.party p).code ++ [0xFF] ++ p.bytes
  | .fire serial =>
    match rc.fires.find? (·.serial == serial) with
    | some f => e1 2 ++ e1 f.salvo ++ f.party.bytes
    | none => [2, 0xFF, 0, 0, 0]

/-- One entry of READ-QUEUE: destination, source, requester, state, time remaining (R97). -/
def queueBytes (s : State) (e : TakeEntry) : List Byte :=
  e2 e.dest ++ e2 e.source ++ requesterBytes s.rc e.requester ++
    match e.state with
    | .waiting => e1 0 ++ eTime none
    | .sent x => e1 1 ++ eRemaining s.now x

/-- A fire of READ-QUEUE: its reference and its three counts (R97). -/
def fireBytes (f : Fire) : List Byte := e1 f.salvo ++ f.party.bytes ++ e2 f.done ++ e2 f.other ++ e2 f.skipped

/-- What READ-QUEUE gives before its entries (R97, log 14). -/
def queueFront (rc : Rc) : List Byte := eBool rc.down ++ e2 rc.consecutive ++ e2 rc.replyTimer

/-- What READ-QUEUE gives after its entries: the queries, the fires in progress, the counts. Where the body cannot hold all the fires,
it holds as many whole ones as it can, after their number (R97, log 14). -/
def queueTail (s : State) : List Byte :=
  let rc := s.rc
  let before := e2 rc.queries.length ++ rc.queries.flatMap (fun q => e2 q.dest ++ eRemaining s.now q.expiry)
    ++ e2 rc.querySet.length ++ e2 rc.fires.length
  let counts := e2 rc.badFrames ++ e2 rc.strays ++ e2 rc.violations
  let fires := fitItems (Config.bodyMax - ((queueFront rc).length + before.length + counts.length + 8)) (rc.fires.map fireBytes)
  before ++ e2 fires.length ++ fires.flatten ++ counts

/-- R97. -/
def ownReadQueue (body : List Byte) (s : State) : Answer :=
  match skipOf body with
  | none => .refuse .malformed s
  | some skip => .now .ok (longList (queueFront s.rc) (s.rc.queue.map (queueBytes s)) skip (queueTail s)) s

def execReadQueue (tag : Byte) (body : List Byte) (s : State) : Out := request .readQueue .read ownReadQueue tag body s

/-! ### Frames from the router -/

def badRouterFrame (s : State) : State := { s with rc := { s.rc with badFrames := bump s.rc.badFrames } }

def execRouterBadFrame (s : State) : Out := finish (badRouterFrame s)

/-- A gap ends a frame early; such a frame is not clean (R78, log 9). -/
def execRouterGapExpiry (s : State) : Out := finish (badRouterFrame s)

/-- The SENT entry of a destination, and the queue without it. -/
def takeSent (d : Nat) (rc : Rc) : Option (TakeEntry × List TakeEntry) :=
  takeFirst (fun (e : TakeEntry) => e.dest == d && e.isSent) rc.queue

/-- The confirmed source takes the source a frame names, and the change is reported to KD at once (R85, R86, R88). -/
def confirm (d src : Nat) (s : State) : State :=
  let r := setConfirmed d (some src) s
  reportKd r.2 r.1

/-- R83, R85. -/
def takeXdone (d src : Nat) (s : State) : State :=
  let s := routerUp s
  match takeSent d s.rc with
  | some (e, rest) =>
    let r := setConfirmed d (some src) { s with rc := { s.rc with consecutive := 0 } }
    fillWindow (endEntry e rest .done (e2 src) r.2 r.1)
  | none => fillWindow (confirm d src (routerStray s))

def execXdone (dest source : Byte) (s : State) : Out := finish (takeXdone dest.toNat source.toNat s)

/-- R83, R85. -/
def takeXfail (d : Nat) (reason : Byte) (s : State) : State :=
  let s := routerUp s
  match takeSent d s.rc with
  | some (e, rest) => fillWindow (endEntry e rest .failed [reason] [] { s with rc := { s.rc with consecutive := 0 } })
  | none => fillWindow (routerStray s)

def execXfail (dest reason : Byte) (s : State) : Out := finish (takeXfail dest.toNat reason s)

/-- R85, R88. -/
def takeXstate (d src : Nat) (s : State) : State :=
  let s := routerUp s
  if s.rc.queries.any (·.dest == d) then
    fillWindow <| confirm d src
      { s with rc := { s.rc with queries := s.rc.queries.filter (·.dest != d), consecutive := 0 } }
  else fillWindow (confirm d src (routerStray s))

def execXstate (dest source : Byte) (s : State) : Out := finish (takeXstate dest.toNat source.toNat s)

/-- R86. -/
def takeXmoved (d src : Nat) (s : State) : State :=
  let s := confirm d src (routerUp s)
  let s := if (s.rc.dest d).protect.isSome then { s with rc := { s.rc with violations := bump s.rc.violations } } else s
  fillWindow (setFlag .external s)

def execXmoved (dest source : Byte) (s : State) : Out := finish (takeXmoved dest.toNat source.toNat s)

/-! ### Frames to the router, and timers -/

/-- The last character of a frame has been sent: the reply timer of its take or query starts (R78, R82, R87). -/
def routerFrameSent (s : State) : State :=
  match s.rc.tx with
  | [] => s
  | f :: rest =>
    let s := { s with rc := { s.rc with tx := rest } }
    let e := some (after s.now s.rc.replyTimer)
    match f with
    | .xset d _ =>
      if rest.any fun g => match g with
          | .xset x _ => x == d
          | _ => false
      then s
      else
        { s with
          rc := { s.rc with
            queue := replaceFirst (fun x => x.dest == d && x.state == .sent none) (fun x => { x with state := .sent e })
              s.rc.queue } }
    | .xask d false =>
      if rest.contains (.xask d false) then s
      else
        { s with
          rc := { s.rc with
            queries := replaceFirst (fun q => q.dest == d && q.expiry == none) (fun q => { q with expiry := e }) s.rc.queries } }
    | .xask _ true => s

def execRouterFrameSent (s : State) : Out := finish (routerFrameSent s)

/-- R84. -/
def expireTake (d : Nat) (s : State) : State :=
  match takeSent d s.rc with
  | none => s
  | some (e, rest) =>
    match e.state with
    | .sent x => if dueOpt s.now x then fillWindow (routerTimeout (endEntry e rest .timeout [] [] s)) else s
    | .waiting => s

def execTakeReplyTimerExpiry (d : Nat) (s : State) : Out := finish (expireTake d s)

/-- R88. -/
def expireQuery (d : Nat) (s : State) : State :=
  if s.rc.queries.any fun q => q.dest == d && dueOpt s.now q.expiry then
    fillWindow <| routerTimeout
      { s with rc := { s.rc with queries := s.rc.queries.filter (·.dest != d), querySet := insertAsc s.rc.querySet d } }
  else s

def execQueryReplyTimerExpiry (d : Nat) (s : State) : Out := finish (expireQuery d s)

/-- R90. -/
def sendProbe (s : State) : State :=
  match s.rc.nextProbe with
  | none => s
  | some e =>
    if s.rc.down && due s.now e then
      { s with rc := { s.rc with tx := s.rc.tx ++ [.xask 0 true], nextProbe := some (after e Config.routerProbeMs) } }
    else s

def execRouterProbeTimer (s : State) : Out := finish (sendProbe s)

/-! ### Soft reset (R77, R99) -/

/-- RC's soft reset. The frames chosen before it are sent all the same, one after another (R78). The window is then filled from the
query set (R81). A DOWN line that becomes UP here sets no ROUTER flag (R99, log 44), and a protect that a panel's key sets after it stands
(log 47). -/
def softResetRc (s : State) : State :=
  let rc := s.rc
  fillWindow
    { s with
      rc :=
        { rc with
          dests := rc.dests.map fun kv => (kv.1, ⟨kv.2.confirmed, none, none⟩)
          queue := [], fires := [], querySet := List.range 256, queries := [], down := false, consecutive := 0
          badFrames := 0, strays := 0, violations := 0, nextProbe := none }
      reports := { s.reports with rcReleases := [] } }

end Sys2Proof.Machine
end

