-- ==== Sys2Proof/Machine/Routing.lean ====
section
/-! DEFINITION. The meanings of the routing table commands of RC (chapter 3). -/

namespace Sys2Proof.Machine

/-- The fields of a source record are written. Each field that changes is reported to TR, a tally position to KD as well (R60, R61). -/
def storeSource (i : Nat) (r : SourceRec) (s : State) : State :=
  let old := s.rc.source i
  let s := { s with rc := { s.rc with sources := tset noSource s.rc.sources i r } }
  let s := if r.position = old.position then s else reportKd [.sourcePosition i] (reportTrFromRc s)
  if r.tie = old.tie then s else reportTrFromRc s

/-- R61. -/
def ownSetSource (body : List Byte) (s : State) : Answer :=
  match body with
  | hi :: lo :: rest => match presence [1, 2] rest with
    | none => .refuse .malformed s
    | some fs =>
      let i := beNat [hi, lo]
      if 255 < i || !okIf (indexUpTo 23) (fieldAt fs 0) || !okIf (fun t => t ≤ 255 || t == 65535) (fieldAt fs 1) then
        .refuse .range s
      else
        let r := s.rc.source i
        .now .ok [] (storeSource i
          { position := ((fieldAt fs 0).map optIndex).getD r.position, tie := ((fieldAt fs 1).map optWide).getD r.tie } s)
  | _ => .refuse .malformed s

def execSetSource (tag : Byte) (body : List Byte) (s : State) : Out := request .setSource .config ownSetSource tag body s

/-- A destination is put in the query set, its confirmed source cleared with the flag, and a free window place is filled
(R64, R81). -/
def relearn (d : Nat) (clear : Bool) (s : State) : State :=
  let s := { s with rc := { s.rc with querySet := insertAsc s.rc.querySet d } }
  let s := if clear then let r := setConfirmed d none s; reportKd r.2 r.1 else s
  fillWindow s

/-- R64; an unknown flag comes before the range (log 13). -/
def ownSetDest (body : List Byte) (s : State) : Answer :=
  match body with
  | [hi, lo, c] => match flagOf c.toNat with
    | none => .refuse .malformed s
    | some clear =>
      if 255 < beNat [hi, lo] then .refuse .range s else .now .ok [] (relearn (beNat [hi, lo]) clear s)
  | _ => .refuse .malformed s

def execSetDest (tag : Byte) (body : List Byte) (s : State) : Out := request .setDest .live ownSetDest tag body s

/-- The protect an action of the host leaves; none for an unknown action (R67). -/
def hostProtect : Nat → Option (Option Protect)
  | 0 => some (some ⟨none, .protect⟩)
  | 1 => some (some ⟨none, .lock⟩)
  | 2 => some none
  | _ => none

/-- R67; an unknown action comes before the range (log 13). -/
def ownProtectRequest (body : List Byte) (s : State) : Answer :=
  match body with
  | [hi, lo, a] => match hostProtect a.toNat with
    | none => .refuse .malformed s
    | some p => if 255 < beNat [hi, lo] then .refuse .range s else .now .ok [] (setProtect (beNat [hi, lo]) p s)
  | _ => .refuse .malformed s

def execProtect (tag : Byte) (body : List Byte) (s : State) : Out := request .protect .live ownProtectRequest tag body s

/-- R70, the checks in its order; the form of the body comes before them. -/
def ownDefineSalvo (body : List Byte) (s : State) : Answer :=
  match body with
  | n :: c :: rest =>
    if rest.length ≠ 2 * c.toNat then .refuse .malformed s
    else if 63 < n.toNat then .refuse .range s
    else
      let pairs := bytePairs rest
      if Config.salvoPairs < c.toNat || !noRepeats (pairs.map (·.1)) then .refuse .malformed s
      else if s.rc.firesOf n.toNat ≠ 0 then .refuse .state s
      else if Config.poolPairs + (s.rc.salvo n.toNat).length < s.rc.poolUsed + pairs.length then .refuse .full s
      else .now .ok [] { s with rc := { s.rc with salvos := tset [] s.rc.salvos n.toNat pairs } }
  | _ => .refuse .malformed s

def execDefineSalvo (tag : Byte) (body : List Byte) (s : State) : Out :=
  request .defineSalvo .config ownDefineSalvo tag body s

/-- One record of READ-DEST (R74). -/
def recordBytes (rc : Rc) (i : Nat) : List Byte :=
  let r := rc.source i
  let d := rc.dest i
  eIndex r.position ++ eWide r.tie ++ eWide d.confirmed ++ eWide d.pending ++ protectBytes d.protect
    ++ eBool (rc.querySet.contains i)

/-- What both forms of READ-DEST give last: pool usage and the number of protected destinations (R74). -/
def destTail (rc : Rc) : List Byte := e2 rc.poolUsed ++ e2 (rc.dests.countP (·.2.protect.isSome))

/-- The indexes RECORDS gives: `c` from `k`, those above 255 omitted (R74). -/
def recordRange (k c : Nat) : List Nat := (List.range' k c).filter (· ≤ 255)

/-- R74. -/
def ownReadDest (body : List Byte) (s : State) : Answer :=
  match body with
  | 0 :: hi :: lo :: c :: rest => match skipOf rest with
    | none => .refuse .malformed s
    | some skip =>
      if 255 < beNat [hi, lo] || c.toNat < 1 || 32 < c.toNat then .refuse .range s
      else .now .ok (longList [] ((recordRange (beNat [hi, lo]) c.toNat).map (recordBytes s.rc)) skip (destTail s.rc)) s
  | 1 :: n :: rest => match skipOf rest with
    | none => .refuse .malformed s
    | some skip =>
      if 63 < n.toNat then .refuse .range s
      else
        let l := s.rc.salvo n.toNat
        .now .ok (longList (eBool (!l.isEmpty)) (l.map fun p => e2 p.1 ++ e2 p.2) skip
          (e2 (s.rc.firesOf n.toNat) ++ destTail s.rc)) s
  | _ => .refuse .malformed s

def execReadDest (tag : Byte) (body : List Byte) (s : State) : Out := request .readDest .read ownReadDest tag body s

/-- R68: the oldest release notification for a node is taken. -/
def takeRelease (n : Nat) (s : State) : State :=
  match takeFirst (· == n) s.reports.rcReleases with
  | some (_, rest) => releaseProtects n { s with reports := { s.reports with rcReleases := rest } }
  | none => s

def execRcRelease (n : Nat) (s : State) : Out := finish (takeRelease n s)

end Sys2Proof.Machine
end

