-- ==== Sys2Proof/Machine/Talk.lean ====
section
/-! DEFINITION. The meanings of TE's commands but for its gains (chapter 8). -/

namespace Sys2Proof.Machine

/-! ### Ports (R143, R144) -/

/-- The fields of a SET-PORT body that its checks read, in order of the body. -/
def portWidths : List Nat := [1, 1, 1, 1, 1, 1, 1, 1]

/-- A duck depth field: FULL, or a depth clamped to 80 (R202). -/
def duckField (n : Nat) : Duck := if n = 255 then .full else .steps (clampN 0 80 n)

/-- Step 3 of the checks of R144, for the kind that applies. -/
def portFits (p : Nat) (kind : PortKind) (fs : List (Option Nat)) : Bool :=
  (kind == .ifb || (okIf (· == 0) (fieldAt fs 5) && okIf (· == 255) (fieldAt fs 6)))
    && (kind == .speaker || okIf (· == 255) (fieldAt fs 7)) && okIf (· != p) (fieldAt fs 6)

/-- The port record after an accepted SET-PORT: a changed kind drops the fields it does not have (R144). -/
def PortRec.update (r : PortRec) (fs : List (Option Nat)) : PortRec :=
  let kind := ((fieldAt fs 0).map PortKind.ofCode).getD r.kind
  let level (i : Nat) (lo hi old : Int) : Int := ((fieldAt fs i).map fun n => clampI lo hi (signedByte n)).getD old
  { kind := kind
    receive := level 1 (-80) 24 r.receive
    inTrim := level 2 (-24) 24 r.inTrim
    outTrim := level 3 (-24) 24 r.outTrim
    dim := ((fieldAt fs 4).map (clampN 0 60)).getD r.dim
    duck := ((fieldAt fs 5).map duckField).getD (if kind = .ifb then r.duck else .steps 0)
    program := ((fieldAt fs 6).map optIndex).getD (if kind = .ifb then r.program else none)
    guardPos := ((fieldAt fs 7).map optIndex).getD (if kind = .speaker then r.guardPos else none) }

/-- A cause whose level is the receive level of its listener: LIVE, or of a TALK key that runs from the panel's port (R144). -/
def readsReceive (kd : Kd) (talker : Nat) (c : Cause) : Bool :=
  match c.origin with
  | .live _ _ => true
  | .key n k => (kd.entry n k).isTalk && (tfind kd.records n).bind (·.port) == some talker
  | .standing _ => false

/-- The causes that read the receive level of `p` take it (R144). -/
def relevel (kd : Kd) (p : Nat) (receive : Int) (paths : Tab PathEntry) : Tab PathEntry :=
  paths.map fun kv =>
    if kv.2.listener = p ∧ kv.2.causes.any (readsReceive kd kv.2.talker) then
      (kv.1, settle { kv.2 with
        causes := kv.2.causes.map fun c => if readsReceive kd kv.2.talker c then { c with level := receive } else c })
    else kv

/-- The entries whose talker or listener is `p` take new targets, in order of the table (R162). -/
def retargetPort (p : Nat) (s : State) : State :=
  ((s.te.paths.filter fun kv => kv.2.talker == p || kv.2.listener == p).map (·.1)).foldl retarget s

/-- A port record is replaced: causes that read its receive level follow it, and the gains of
its entries are recomputed (R144, R162). -/
def storePort (p : Nat) (r : PortRec) (s : State) : State :=
  let old := s.te.port p
  if r = old then s
  else
    let paths := if r.receive = old.receive then s.te.paths else relevel s.kd p r.receive s.te.paths
    sendGains (retargetPort p { s with te := { s.te with ports := tset plainPort s.te.ports p r, paths := paths } })

/-- Step 1 of the checks of R144: the port, the program port and the guard position lie in their ranges. -/
def portInRange (p : Nat) (fs : List (Option Nat)) : Bool :=
  p ≤ 95 && okIf (indexUpTo 95) (fieldAt fs 6) && okIf (indexUpTo 23) (fieldAt fs 7)

/-- R144, the checks in its order: the first reads the fields as far as the body gives them (log 13). -/
def ownSetPort (body : List Byte) (s : State) : Answer :=
  match body with
  | p :: rest =>
    if !portInRange p.toNat (partialFields portWidths rest) then .refuse .range s
    else match presence portWidths rest with
      | none => .refuse .malformed s
      | some fs =>
        let old := s.te.port p.toNat
        if !okIf (· ≤ 4) (fieldAt fs 0) then .refuse .malformed s
        else if !portFits p.toNat (((fieldAt fs 0).map PortKind.ofCode).getD old.kind) fs then .refuse .malformed s
        else .now .ok [] (storePort p.toNat (old.update fs) s)
  | [] => .refuse .malformed s

def execSetPort (tag : Byte) (body : List Byte) (s : State) : Out := request .setPort .config ownSetPort tag body s

/-! ### Groups (R145, R146) -/

/-- The group a TALK or LISTEN key names. -/
def groupTarget : KeyEntry → Option Nat
  | .talk (.group g) _ _ _ _ | .listen (.group g) _ => some g
  | _ => none

/-- What the active keys that name group `g` would have with new members: node, key, causes (R146), in ascending order of node and then
key index, in which the new causes of several keys on one pair are recorded (log 10). -/
def groupWould (s : State) (g : Nat) (members : List Nat) : List (Nat × Nat × List NewCause) :=
  ((activeKeys s.kd).filter fun a => groupTarget a.2.2.2 == some g).map fun a =>
    (a.1, a.2.1, causesOfKey s.te a.1 a.2.1 a.2.2.1 members a.2.2.2)

/-- A cause is one of a concerned key whose pair it would no longer have. -/
def groupGone (would : List (Nat × Nat × List NewCause)) (key : Nat) (c : Cause) : Bool :=
  would.any fun w => ofKey w.1 w.2.1 c && !w.2.2.any (·.key == key)

/-- The causes of a list whose pair has no cause yet of a key. -/
def lacking (te : Te) (mine : Cause → Bool) (l : List NewCause) : List NewCause :=
  l.filter fun n => !((tfind te.paths n.key).any fun e => e.causes.any mine)

/-- A group's members are replaced and its active keys' causes re-derived, all or nothing; none where room is short (R146). -/
def storeGroup (g : Nat) (members : List Nat) (s : State) : Option State :=
  if members = s.te.group g then some s
  else
    let would := groupWould s g members
    let gone := groupGone would
    let news := would.flatMap fun w => lacking s.te (ofKey w.1 w.2.1) w.2.2
    if hasRoom s.te (s.te.freedBy gone) news then
      let s := applyCauses gone news { s with te := { s.te with groups := tset [] s.te.groups g members } }
      some { s with reports := { s.reports with kdFromTe := s.reports.kdFromTe ++ [.group g] } }
    else none

/-- R145. -/
def ownSetGroup (body : List Byte) (s : State) : Answer :=
  match body with
  | g :: c :: rest =>
    let ports := rest.map (·.toNat)
    if rest.length ≠ c.toNat then .refuse .malformed s
    else if 31 < g.toNat || ports.any (95 < ·) then .refuse .range s
    else if Config.groupMax < c.toNat || !noRepeats ports then .refuse .malformed s
    else match storeGroup g.toNat (sortAsc ports) s with
      | none => .refuse .full (refuseRoom s)
      | some t => .now .ok [] t
  | _ => .refuse .malformed s

def execSetGroup (tag : Byte) (body : List Byte) (s : State) : Out := request .setGroup .config ownSetGroup tag body s

/-! ### Standing paths (R147 to R149) -/

/-- A slot is defined, in place of what it held; none where room is short (R148, R160). -/
def defineSlot (k : Nat) (x : Standing) (s : State) : Option State :=
  let news : List NewCause := [⟨x.talker, x.listener, .standing k, x.level⟩]
  if hasRoom s.te (if (tfind s.te.standing k).isSome then 1 else 0) news then
    some (applyCauses (fun _ c => c.origin == .standing k) news { s with te := { s.te with standing := tput s.te.standing k x } })
  else none

/-- The standing path a talker, a listener and a level byte give (R148). -/
def standingOf (t l level : Byte) : Standing := ⟨t.toNat, l.toNat, clampI (-80) 24 (signedByte level.toNat)⟩

/-- The lowest undefined slot. -/
def freeSlot (te : Te) : Option Nat := (List.range Config.slots).find? fun k => (tfind te.standing k).isNone

/-- R148. -/
def ownAddStanding (body : List Byte) (s : State) : Answer :=
  match body with
  | [t, l, level] =>
    if 95 < t.toNat || 95 < l.toNat then .refuse .range s
    else if t = l then .refuse .malformed s
    else match freeSlot s.te with
      | none => .refuse .full s
      | some k => match defineSlot k (standingOf t l level) s with
        | none => .refuse .full (refuseRoom s)
        | some u => .now .ok (e1 k) u
  | _ => .refuse .malformed s

def execAddStanding (tag : Byte) (body : List Byte) (s : State) : Out :=
  request .addStanding .config ownAddStanding tag body s

/-- R149. -/
def ownDropStanding (body : List Byte) (s : State) : Answer :=
  match body with
  | [k] =>
    if 127 < k.toNat then .refuse .range s
    else if (tfind s.te.standing k.toNat).isNone then .refuse .state s
    else
      .now .ok [] (applyCauses (fun _ c => c.origin == .standing k.toNat) []
        { s with te := { s.te with standing := tdel s.te.standing k.toNat } })
  | _ => .refuse .malformed s

def execDropStanding (tag : Byte) (body : List Byte) (s : State) : Out :=
  request .dropStanding .config ownDropStanding tag body s

/-! ### Readback (R159, log 14) -/

/-- A LIVE key: active, TALK, its target LIVE. -/
def liveKeys (kd : Kd) : List (Nat × Nat × Nat × KeyEntry) := (activeKeys kd).filter fun a => a.2.2.2.talkTarget == some .live

def isLive (c : Cause) : Bool :=
  match c.origin with
  | .live _ _ => true
  | _ => false

def summaryBytes (s : State) : List Byte :=
  let te := s.te
  e2 (te.paths.countP (·.2.opened)) ++ e2 (te.paths.countP (!·.2.opened)) ++ e2 te.causesUsed ++ e2 te.standing.length
    ++ e2 (liveKeys s.kd).length ++ e2 (te.paths.map fun kv => kv.2.causes.countP isLive).sum
    ++ e2 te.refusals ++ e2 te.liveSkips ++ (List.range 32).flatMap fun g => e2 (te.group g).length

def portBytes (r : PortRec) : List Byte :=
  e1 r.kind.code ++ eInt r.receive ++ eInt r.inTrim ++ eInt r.outTrim ++ e1 r.dim ++ r.duck.byte ++ eIndex r.program
    ++ eIndex r.guardPos

/-- The state code of a path entry: OPEN 0, CLOSING 1 (R202). -/
def PathEntry.code (e : PathEntry) : Nat := if e.opened then 0 else 1

def gainBytes (e : PathEntry) : List Byte := eGain e.target ++ eGain e.current ++ eGain e.sentValue ++ e1 e.sync.code

def entryBytes (e : PathEntry) : List Byte := e1 e.talker ++ e1 e.code ++ eInt e.level ++ e2 e.causes.length ++ gainBytes e

def portFront (te : Te) (p : Nat) : List Byte :=
  let groups := (List.range 32).filter fun g => (te.group g).contains p
  portBytes (te.port p) ++ e2 groups.length ++ groups.flatMap e1

def pairFront : Option PathEntry → List Byte
  | none => eBool false
  | some e => eBool true ++ e1 e.code ++ eInt e.level ++ gainBytes e

def causeBytes (c : Cause) : List Byte := c.origin.bytes ++ eInt c.level

def slotBytes (te : Te) (k : Nat) : List Byte :=
  match tfind te.standing k with
  | none => eBool false
  | some x => eBool true ++ e1 x.talker ++ e1 x.listener ++ eInt x.level

/-- R159. -/
def ownReadPaths (body : List Byte) (s : State) : Answer :=
  let te := s.te
  match body with
  | [0] => .now .ok (summaryBytes s) s
  | 1 :: p :: rest => match skipOf rest with
    | none => .refuse .malformed s
    | some skip =>
      if 95 < p.toNat then .refuse .range s
      else
        let entries := (te.paths.filter (·.2.listener == p.toNat)).map fun kv => entryBytes kv.2
        .now .ok (longList (portFront te p.toNat) entries skip []) s
  | 2 :: t :: l :: rest => match skipOf rest with
    | none => .refuse .malformed s
    | some skip =>
      if 95 < t.toNat || 95 < l.toNat then .refuse .range s
      else if t = l then .refuse .malformed s
      else
        let e := te.entry t.toNat l.toNat
        .now .ok (longList (pairFront e) (((e.map (·.causes)).getD []).map causeBytes) skip []) s
  | [3, g] =>
    if 31 < g.toNat then .refuse .range s
    else .now .ok (e2 (te.group g.toNat).length ++ (te.group g.toNat).flatMap e1) s
  | [4, k, c] =>
    if 127 < k.toNat || c.toNat < 1 || 32 < c.toNat then .refuse .range s
    else .now .ok (((List.range' k.toNat c.toNat).filter (· ≤ 127)).flatMap (slotBytes te)) s
  | _ => .refuse .malformed s

def execReadPaths (tag : Byte) (body : List Byte) (s : State) : Out := request .readPaths .read ownReadPaths tag body s

/-! ### Reports of TR and ML -/

/-- Step 2 of R154 for one key and one port: the causes recorded so far and the ports skipped. -/
def tryLive (te : Te) (n k p : Nat) (acc : List NewCause × Nat) (x : Nat) : List NewCause × Nat :=
  let new : NewCause := ⟨p, x, .live n k, (te.port x).receive⟩
  if x = p ∨ (tfind te.paths new.key).any (fun e => e.causes.any (·.origin == .live n k)) then acc
  else if hasRoom te 0 (acc.1 ++ [new]) then (acc.1 ++ [new], acc.2)
  else (acc.1, acc.2 + 1)

/-- TE holds the guard states reported. -/
def Te.takeGuards (reported : List (Nat × Bool)) (te : Te) : Te :=
  { te with guards := reported.foldl (fun g r => if r.2 then insertAsc g r.1 else g.filter (· != r.1)) te.guards }

/-- The entries toward SPEAKER ports guarded by the positions take new targets (R124, R162). -/
def retargetGuarded (positions : List Nat) (s : State) : State :=
  ((s.te.paths.filter fun kv => (s.te.port kv.2.listener).guardPos.any positions.contains).map (·.1)).foldl retarget s

/-- TE takes reported guard states: the entries they guard take new targets (R121, R162). -/
def guardTargets (reported : List (Nat × Bool)) (s : State) : State :=
  retargetGuarded (reported.map (·.1)) { s with te := s.te.takeGuards reported }

/-- A count that rises by `n`, stopping at the largest value. -/
def bumpBy (n c : Nat) : Nat := min Config.countMax (c + n)

/-- TE takes a change of the LIVE port set, and the guard states that came with it, at one event (R121, R154). -/
def followLive (ports : List Nat) (reported : List (Nat × Bool)) (s : State) : State :=
  let gone (key : Nat) (c : Cause) : Bool := isLive c && !ports.contains (key / 96)
  let te := { s.te with paths := changeCauses gone [] s.te.paths }
  let r := (liveKeys s.kd).foldl (fun acc a => ports.foldl (tryLive te a.1 a.2.1 a.2.2.1) acc) (([] : List NewCause), 0)
  let s := retargetGuarded (reported.map (·.1)) (moveCauses gone r.1 { s with te := s.te.takeGuards reported })
  let s := { s with te := { s.te with liveSkips := bumpBy r.2 s.te.liveSkips } }
  setFlagIf (r.2 != 0) .paths (sendGains s)

/-- The oldest report of TR to TE, if it carries a LIVE port set, is taken. -/
def takeLiveReport (s : State) : State :=
  match s.reports.teFromTr with
  | ⟨some ports, guards⟩ :: rest => followLive ports guards { s with reports := { s.reports with teFromTr := rest } }
  | _ => s

def execTeLiveSetReport (s : State) : Out := finish (takeLiveReport s)

/-- The oldest report of TR to TE, if it carries guard states alone, is taken. -/
def takeGuardReport (s : State) : State :=
  match s.reports.teFromTr with
  | ⟨none, guards⟩ :: rest =>
    sendGains (guardTargets guards { s with reports := { s.reports with teFromTr := rest } })
  | _ => s

def execTeGuardReport (s : State) : Out := finish (takeGuardReport s)

/-- R157: an entry CLOSING ever since its report was made is removed. -/
def takeRemoval (s : State) : State :=
  match s.reports.teFromMl with
  | [] => s
  | r :: rest =>
    let s := { s with reports := { s.reports with teFromMl := rest } }
    match tfind s.te.paths r.key with
    | none => s
    | some e =>
      if r.reopened || e.opened then s
      else
        { s with
          te := { s.te with paths := tdel s.te.paths r.key }
          ml := { s.ml with
            muteQueue := s.ml.muteQueue.filter (· != r.key), levelQueue := s.ml.levelQueue.filter (· != r.key) } }

def execTeRemovalReport (s : State) : Out := finish (takeRemoval s)

/-! ### Soft reset (R161) -/

/-- TE's soft reset: the entries of the standing causes anew, the counts 0, the reports waiting for it gone. A line still UP is
taken to CLEARING first, its timeouts in a row at 0, so that no gain of the new entries goes before a MUTE-ALL (R161, R175, log 23);
the guard states are TR's as it holds them after its own soft reset (log 20). -/
def softResetTe (s : State) : State :=
  let s := if s.ml.line = .up then { s with ml := { clearMatrix s.ml with consecutive := 0 } } else s
  let guards := if yetToReset .tr s then [] else positionList.filter s.tr.guard
  let s := clearPaths { s with te := { s.te with guards := guards } }
  { s with te := { s.te with refusals := 0, liveSkips := 0 }, reports := { s.reports with teFromTr := [] } }

end Sys2Proof.Machine
end

