-- ==== Sys2Proof/Machine/Mixers.lean ====
section
/-! DEFINITION. The meanings of MM's commands (chapter 5). -/

namespace Sys2Proof.Machine

/-! ### Shared operations -/

/-- Change one mixer as MM holds it. -/
def onMixer (x : Mixer) (f : MixerRec → MixerRec) (s : State) : State :=
  match x with
  | .a => { s with mm := { s.mm with a := f s.mm.a } }
  | .b => { s with mm := { s.mm with b := f s.mm.b } }

/-- MM's report of a mixer to TR (R105, R109). -/
def reportMixer (x : Mixer) (s : State) : State :=
  { s with reports := { s.reports with trFromMm := s.reports.trFromMm ++ [x] } }

/-- The number of a mixer code; none for a code the request does not take. -/
def mixerOf : Nat → Option Mixer
  | 0 => some .a
  | 1 => some .b
  | _ => none

/-- A RESEND is given to the line's transmitter and counted (R108). -/
def MixerRec.resend (m : MixerRec) : MixerRec := { m with resends := bump m.resends, sent := m.sent ++ [.resend] }

/-- The line refreshed at time `now` (R104), the record counted (R103); a RESEND is sent from SILENT and WITHDRAWN (R108). -/
def MixerRec.refreshed (now : Millis) (m : MixerRec) : MixerRec :=
  let m := if m.line = .silent ∨ m.line = .withdrawn then m.resend else m
  { m with
    line := .current
    lastRecord := some now
    staleExpiry := some (after now m.stale)
    withdrawExpiry := some (after now (m.withdraw * 1000))
    records := bump m.records }

/-- A record is taken whole: `write` puts its content into the mixer, then the line is refreshed (R103 to R105). -/
def takeRecord (x : Mixer) (write : MixerRec → MixerRec) (s : State) : State :=
  let old := s.mm.mixer x
  let new := (write old).refreshed s.now
  let s := onMixer x (fun _ => new) s
  let s := if new.state = old.state ∧ old.line = .current then s else reportMixer x s
  setFlagIf (old.line != .current) .mixer s

/-- The input stored for an input field, and the out-of-range count after it (R103). -/
def storedInput (i : Nat) : Nat := if i ≤ 64 then i else 0
def countInput (i : Nat) (m : MixerRec) : MixerRec := if i ≤ 64 then m else { m with outOfRange := bump m.outOfRange }

/-- Bus `b` takes an input (R100: PGM, PVW, ISO1 to ISO4). -/
def BusTable.set (t : BusTable) (b i : Nat) : BusTable :=
  match b with
  | 0 => { t with pgm := i }
  | 1 => { t with pvw := i }
  | 2 => { t with iso1 := i }
  | 3 => { t with iso2 := i }
  | 4 => { t with iso3 := i }
  | 5 => { t with iso4 := i }
  | _ => t

/-- Keyer `k` takes a value. -/
def Keyers.set (t : Keyers) (k : Nat) (v : Keyer) : Keyers :=
  match k with
  | 0 => { t with k0 := v }
  | 1 => { t with k1 := v }
  | 2 => { t with k2 := v }
  | 3 => { t with k3 := v }
  | _ => t

def writeBus (b i : Nat) (m : MixerRec) : MixerRec :=
  countInput i { m with state := { m.state with buses := m.state.buses.set b (storedInput i) } }

def writeTransition (v : Bool) (m : MixerRec) : MixerRec := { m with state := { m.state with transition := v } }

def writeKeyer (k : Nat) (onAir : Bool) (fill : Nat) (m : MixerRec) : MixerRec :=
  countInput fill { m with state := { m.state with keyers := m.state.keyers.set k ⟨onAir, storedInput fill⟩ } }

/-- A frame of a mixer is discarded and counted (R100). -/
def badMixerFrame (x : Mixer) (s : State) : State := onMixer x (fun m => { m with badFrames := bump m.badFrames }) s

/-- The withdraw expiry is due while the line has one running (R107). -/
def MixerRec.withdrawDue (now : Millis) (m : MixerRec) : Bool := m.contributing && dueOpt now m.withdrawExpiry

/-- The stale expiry is due with the line CURRENT (R106). -/
def MixerRec.staleDue (now : Millis) (m : MixerRec) : Bool := m.line == .current && dueOpt now m.staleExpiry

/-- R107. -/
def withdraw (x : Mixer) (s : State) : State :=
  setFlag .mixer <| reportMixer x <|
    onMixer x (fun m => { m with line := .withdrawn, staleExpiry := none, withdrawExpiry := none }) s

/-- R106. -/
def goStale (x : Mixer) (s : State) : State :=
  setFlag .mixer (reportMixer x (onMixer x (fun m => { m with line := .stale, staleExpiry := none }) s))

/-- The expiries that are due, withdrawal before staleness (R106, R107, R110). -/
def settleMixer (x : Mixer) (s : State) : State :=
  if (s.mm.mixer x).withdrawDue s.now then withdraw x s
  else if (s.mm.mixer x).staleDue s.now then goStale x s
  else s

/-! ### Requests -/

/-- The settings given are stored, and a running timer follows its new interval (R110). -/
def MixerRec.configure (mode stale wd : Option Nat) (m : MixerRec) : MixerRec :=
  let st := (stale.map (clampN 100 5000)).getD m.stale
  let w := (wd.map (clampN 1 60)).getD m.withdraw
  { m with
    mode := (mode.map MixerMode.ofCode).getD m.mode
    stale := st
    withdraw := w
    staleExpiry := if stale.isNone then m.staleExpiry else m.staleExpiry.bind fun _ => m.lastRecord.map (after · st)
    withdrawExpiry := if wd.isNone then m.withdrawExpiry else m.withdrawExpiry.bind fun _ => m.lastRecord.map (after · (w * 1000)) }

/-- SET-MIXER's effect: settings, a mode change reported, and the expiries a new interval brings due taken (R109, R110). -/
def configureMixer (x : Mixer) (mode stale wd : Option Nat) (s : State) : State :=
  let old := s.mm.mixer x
  let new := old.configure mode stale wd
  let s := onMixer x (fun _ => new) s
  let s := if new.mode = old.mode then s else reportMixer x s
  if stale.isNone ∧ wd.isNone then s else settleMixer x s

/-- R110; an unknown mode comes before the range of the mixer (log 13). -/
def ownSetMixer (body : List Byte) (s : State) : Answer :=
  match body with
  | m :: rest => match presence [1, 2, 1] rest with
    | none => .refuse .malformed s
    | some fs =>
      if !okIf (· ≤ 1) (fieldAt fs 0) then .refuse .malformed s
      else match mixerOf m.toNat with
        | none => .refuse .range s
        | some x => .now .ok [] (configureMixer x (fieldAt fs 0) (fieldAt fs 1) (fieldAt fs 2) s)
  | [] => .refuse .malformed s

def execSetMixer (tag : Byte) (body : List Byte) (s : State) : Out := request .setMixer .live ownSetMixer tag body s

def keyerBytes (k : Keyer) : List Byte := eBool k.onAir ++ e1 k.fill

/-- What READ-MIXER gives of one mixer, in the order of R111. -/
def mixerBytes (now : Millis) (m : MixerRec) : List Byte :=
  let b := m.state.buses
  let k := m.state.keyers
  e1 m.line.code ++ e1 m.mode.code ++ e2 m.stale ++ e1 m.withdraw ++ eTime (m.lastRecord.map (now - ·))
    ++ eRemaining now m.staleExpiry ++ eRemaining now m.withdrawExpiry
    ++ e1 b.pgm ++ e1 b.pvw ++ e1 b.iso1 ++ e1 b.iso2 ++ e1 b.iso3 ++ e1 b.iso4 ++ eBool m.state.transition
    ++ keyerBytes k.k0 ++ keyerBytes k.k1 ++ keyerBytes k.k2 ++ keyerBytes k.k3
    ++ e2 m.badFrames ++ e2 m.outOfRange ++ e2 m.records ++ e2 m.resends

/-- R111. -/
def ownReadMixer (body : List Byte) (s : State) : Answer :=
  match body with
  | [m] => match m.toNat with
    | 0 => .now .ok (mixerBytes s.now s.mm.a) s
    | 1 => .now .ok (mixerBytes s.now s.mm.b) s
    | 2 => .now .ok (mixerBytes s.now s.mm.a ++ mixerBytes s.now s.mm.b) s
    | _ => .refuse .range s
  | _ => .refuse .malformed s

def execReadMixer (tag : Byte) (body : List Byte) (s : State) : Out := request .readMixer .read ownReadMixer tag body s

/-! ### Records and expiries -/

def execMixerBadFrame (x : Mixer) (s : State) : Out := finish (badMixerFrame x s)

/-- A gap ends a frame early (R100, log 9). -/
def execMixerGapExpiry (x : Mixer) (s : State) : Out := finish (badMixerFrame x s)

def execBusRecord (x : Mixer) (bus input : Byte) (s : State) : Out :=
  finish (if busClean bus then takeRecord x (writeBus bus.toNat input.toNat) s else badMixerFrame x s)

def execTransRecord (x : Mixer) (value : Byte) (s : State) : Out :=
  finish (if transClean value then takeRecord x (writeTransition (value == 1)) s else badMixerFrame x s)

def execKeyerRecord (x : Mixer) (keyer onAir fill : Byte) (s : State) : Out :=
  finish (if keyerClean keyer onAir then takeRecord x (writeKeyer keyer.toNat (onAir == 1) fill.toNat) s else badMixerFrame x s)

def execAliveRecord (x : Mixer) (s : State) : Out := finish (takeRecord x id s)

/-- R106: not where the withdraw expiry has fallen due too, which takes the line from CURRENT at the one event (R107). -/
def expireStale (x : Mixer) (s : State) : State :=
  if (s.mm.mixer x).staleDue s.now && !(s.mm.mixer x).withdrawDue s.now then goStale x s else s

def execStaleExpiry (x : Mixer) (s : State) : Out := finish (expireStale x s)

/-- R107. -/
def expireWithdraw (x : Mixer) (s : State) : State := if (s.mm.mixer x).withdrawDue s.now then withdraw x s else s

def execWithdrawExpiry (x : Mixer) (s : State) : Out := finish (expireWithdraw x s)

/-! ### Soft reset (R113) -/

/-- One mixer's soft reset: mode and intervals are kept, and one RESEND is sent after the counts are cleared, behind those the
transmitter was given before. -/
def MixerRec.softReset (m : MixerRec) : MixerRec :=
  { MixerRec.powerOn with mode := m.mode, stale := m.stale, withdraw := m.withdraw, sent := m.sent ++ [.resend] }

def softResetMm (s : State) : State := { s with mm := { a := s.mm.a.softReset, b := s.mm.b.softReset } }

end Sys2Proof.Machine
end

