-- ==== Sys2Proof/Machine/Tally.lean ====
section
/-! DEFINITION. The meanings of TR's commands (chapter 6). -/

namespace Sys2Proof.Machine

/-! ### Requests -/

/-- A binding of its form; none where the form is unknown or the length is wrong (R202, R203). -/
def bindingForm : List Byte → Option Binding
  | [0] => some .none
  | [1, hi, lo] => some (.dest (beNat [hi, lo]))
  | [2, hi, lo] => some (.source (beNat [hi, lo]))
  | [3] => some .internal
  | _ => Option.none

def bindingInRange : Binding → Bool
  | .dest i | .source i => i ≤ 255
  | .none | .internal => true

def setBindingOf (x : Mixer) (i : Nat) (b : Binding) (tr : Tr) : Tr :=
  match x with
  | .a => { tr with bindingsA := tset .none tr.bindingsA i b }
  | .b => { tr with bindingsB := tset .none tr.bindingsB i b }

/-- A binding is replaced; a change recomputes the resolution (R115, R120). -/
def storeBinding (x : Mixer) (i : Nat) (b : Binding) (s : State) : State :=
  if s.tr.binding x i = b then s else recompute { s with tr := setBindingOf x i b s.tr }

/-- R115. -/
def ownSetBinding (body : List Byte) (s : State) : Answer :=
  match body with
  | m :: i :: rest => match bindingForm rest with
    | none => .refuse .malformed s
    | some b => match mixerOf m.toNat with
      | none => .refuse .range s
      | some x =>
        if i.toNat < 1 || 64 < i.toNat || !bindingInRange b then .refuse .range s
        else .now .ok [] (storeBinding x i.toNat b s)
  | _ => .refuse .malformed s

def execSetBinding (tag : Byte) (body : List Byte) (s : State) : Out := request .setBinding .config ownSetBinding tag body s

/-- A position's intercom port is replaced; a change recomputes the LIVE port set and is reported to KD (R121 to R123). -/
def storePosition (p : Nat) (port : Option Nat) (s : State) : State :=
  let old := s.tr.position p
  if old.port = port then s
  else
    let t := { s with tr := { s.tr with positions := tset noPosition s.tr.positions p { old with port := port } } }
    let t := { t with reports := { t.reports with kdFromTr := t.reports.kdFromTr ++ [.positionPort old.port port] } }
    reportResolution s.tr t

/-- R122. -/
def ownSetPosition (body : List Byte) (s : State) : Answer :=
  match body with
  | [p, port] =>
    if 23 < p.toNat || !indexUpTo 95 port.toNat then .refuse .range s
    else .now .ok [] (storePosition p.toNat (optIndex port.toNat) s)
  | _ => .refuse .malformed s

def execSetPosition (tag : Byte) (body : List Byte) (s : State) : Out :=
  request .setPosition .config ownSetPosition tag body s

/-- R126. -/
def ownCall (body : List Byte) (s : State) : Answer :=
  match body with
  | [p, d] =>
    if 23 < p.toNat then .refuse .range s
    else
      let e := some (after s.now (clampN 1 30 d.toNat * 1000))
      .now .ok [] (changeCalls p.toNat (fun x => { x with hostCall := e }) s)
  | _ => .refuse .malformed s

def execCall (tag : Byte) (body : List Byte) (s : State) : Out := request .call .live ownCall tag body s

/-- One position of READ-TALLY (R127, log 14). -/
def positionBytes (s : State) (p : Nat) : List Byte :=
  let x := s.tr.position p
  eIndex x.port ++ e1 x.colours.code ++ eBool (s.tr.guard p) ++ eBool x.called ++ eRemaining s.now x.hostCall
    ++ e2 x.keyCalls.length ++ x.keyCalls.flatMap fun k => e1 k.1 ++ e1 k.2

/-- A stop of the stop list (R118, log 14). -/
def stopBytes (x : Stop) : List Byte :=
  e1 (mixerCode x.mixer) ++ e1 x.input ++ e1 x.colour.code ++ e1 x.kind.code ++ e2 x.dest

/-- What READ-TALLY with POSITIONS gives after the positions (R127, log 14). -/
def tallyTail (tr : Tr) : List Byte :=
  e2 tr.live.length ++ tr.live.flatMap e1 ++ e2 tr.stops.length ++ tr.stops.flatMap stopBytes ++ e2 tr.unbound ++ e2 tr.resolutions

/-- A contribution of READ-TALLY: bus or keyer, input, colour (R127). -/
def contributionBytes (c : Contribution) : List Byte := e1 c.selection.code ++ e1 c.input ++ e1 c.colour.code

/-- What READ-TALLY with BINDINGS gives of a mixer (R127). -/
def bindingsContent (tr : Tr) (x : Mixer) : List Byte :=
  let cs := tr.contributions.filter (·.mixer == x)
  (List.range' 1 64).flatMap (fun i => (tr.binding x i).bytes) ++ e2 cs.length ++ cs.flatMap contributionBytes

/-- R127. -/
def ownReadTally (body : List Byte) (s : State) : Answer :=
  match body with
  | 0 :: rest => match skipOf rest with
    | none => .refuse .malformed s
    | some skip => .now .ok (longList [] (positionList.map (positionBytes s)) skip (tallyTail s.tr)) s
  | [1, m] => match mixerOf m.toNat with
    | none => .refuse .range s
    | some x => .now .ok (bindingsContent s.tr x) s
  | _ => .refuse .malformed s

def execReadTally (tag : Byte) (body : List Byte) (s : State) : Out := request .readTally .read ownReadTally tag body s

/-! ### Reports and expiries -/

/-- R120: TR takes the oldest report of one source and recomputes. -/
def takeTallyReport (src : TrSource) (s : State) : State :=
  match src with
  | .mm => match s.reports.trFromMm with
    | [] => s
    | _ :: rest => recompute { s with reports := { s.reports with trFromMm := rest } }
  | .rc => match s.reports.trFromRc with
    | 0 => s
    | n + 1 => recompute { s with reports := { s.reports with trFromRc := n } }

def execTrRecomputation (src : TrSource) (s : State) : Out := finish (takeTallyReport src s)

/-- R126: the host cause of a position is removed. -/
def expireHostCall (p : Nat) (s : State) : State :=
  if dueOpt s.now (s.tr.position p).hostCall then changeCalls p (fun x => { x with hostCall := none }) s else s

def execHostCallExpiry (p : Nat) (s : State) : Out := finish (expireHostCall p s)

/-! ### Soft reset (R129) -/

/-- TR's soft reset: calls go, and one recomputation follows, to which a mixer that has not taken its own soft reset gives nothing
(log 22). Nothing is reported, and the reports of TR's that wait for LD and TE go with what they were about (log 20). -/
def softResetTr (s : State) : State :=
  let bare (x : Position) : Position := { x with hostCall := none, keyCalls := [] }
  let tr := { s.tr with
    positions := positionList.foldl (fun t p => tset noPosition t p (bare (tget noPosition t p))) s.tr.positions
    resolutions := 0 }
  let mixers := if yetToReset .mm s then [] else contributionsOf s.mm
  { s with
    tr := resolve s.rc mixers tr
    reports := { s.reports with trFromMm := [], trFromRc := 0, ldRelights := [], ldCalls := [], teFromTr := [] } }

end Sys2Proof.Machine
end

