-- ==== Sys2Proof/Machine/Profile.lean ====
section
/-! DEFINITION. The meanings of PM's commands: the image, the save and the walk (chapter 11). -/

namespace Sys2Proof.Machine

/-! ### The image (R195, R202, R206) -/

/-- An image header with the magic value given. -/
def headerBytes (magic : List Byte) (first : Nat) : List Byte :=
  let b := magic ++ e1 1 ++ e2 first
  b ++ crcBytes b

/-- The header step 1 of a save writes: four zero bytes as its magic (R206); its other bytes are those of step 3's (log 30). -/
def spoiledHeader : List Byte := headerBytes [0, 0, 0, 0] 9
/-- The header step 3 of a save writes. -/
def goodHeader : List Byte := headerBytes Config.magic 9

/-- An offset at which a section header fits, beyond the image header (R195, R206). -/
def validOffset (off : Nat) : Bool := 9 ≤ off && off + 7 ≤ Config.memoryBytes

/-- The first section offset of a good image header; none for a bad one (R195). -/
def headerOffset (h : List Byte) : Option Nat :=
  let first := beNat ((h.drop 5).take 2)
  if h.take 4 = Config.magic ∧ (h.drop 4).take 1 = [1] ∧ h.drop 7 = crcBytes (h.take 7) ∧ (first = 0 ∨ validOffset first) then
    some first
  else none

/-- A section's header and body, its next offset given (R206). -/
def sectionBytes (kind next : Nat) (body : List Byte) : List Byte :=
  let h := e1 kind ++ e2 body.length ++ e2 next
  h ++ crcBytes (h ++ body) ++ body

def timingBytes (t : BusTimings) : List Byte :=
  e2 t.replyWindow ++ e2 t.silence ++ e1 t.turnBudget ++ e2 t.census ++ e1 t.stallLimit ++ e1 t.release

def mixerSettings (m : MixerRec) : List Byte := e1 m.mode.code ++ e2 m.stale ++ e1 m.withdraw

/-- The one record of SETTINGS (R196, R206). -/
def settingsBytes (s : State) : List Byte :=
  e1 s.pbc.id ++ eBool s.pbc.busAuto ++ timingBytes s.pbc.timing ++ e2 s.kd.tapWindow ++ e2 s.rc.replyTimer
    ++ mixerSettings s.mm.a ++ mixerSettings s.mm.b ++ e1 s.te.gainTick ++ e1 s.te.rampStep ++ e1 s.ml.replyTimeout

/-- The entries of a mixer's bindings. -/
def bindingEntries (tr : Tr) (x : Mixer) : List Byte :=
  (List.range' 1 64).flatMap fun i => e1 (mixerCode x) ++ e1 i ++ match tr.binding x i with
    | .none => e1 0
    | .dest d => e1 1 ++ e2 d
    | .source n => e1 2 ++ e2 n
    | .internal => e1 3

/-- The LAMPS body: a SET-HOUSE body, a LAMP-TIMING body, then SET-LAMP bodies (R206). -/
def lampsBytes (ld : Ld) : List Byte :=
  e1 1 ++ e1 ld.house ++ e1 7 ++ e1 ld.tick ++ e1 ld.step ++ e1 ld.floor ++ positionList.flatMap fun p =>
    let x := ld.lamp p
    e1 p ++ e1 7 ++ e1 x.trim ++ eWide x.manual ++ eBool x.exclusive

/-- The DESTS body: every destination whose protect is owned by FROM-HOST (R198). -/
def destEntries (rc : Rc) : List Byte :=
  rc.dests.flatMap fun kv => match kv.2.protect with
    | some ⟨none, k⟩ => e2 kv.1 ++ e1 k.code
    | _ => []

/-- The KEYS body: every key entry not of kind NONE (R198). -/
def keyEntries (kd : Kd) : List Byte := kd.records.flatMap fun r => r.2.keys.flatMap fun k => e1 r.1 ++ e1 k.1 ++ k.2.bytes

/-- The content of section kind 1 to 12 as the configuration stands (R198, R206). -/
def sectionBody (s : State) : Nat → List Byte
  | 1 => settingsBytes s
  | 2 => (List.range 96).flatMap fun p => e1 p ++ e1 255 ++ portBytes (s.te.port p)
  | 3 => (List.range 32).flatMap fun g => e1 g ++ e1 (s.te.group g).length ++ (s.te.group g).flatMap e1
  | 4 => s.te.standing.flatMap fun kv => e1 kv.1 ++ e1 kv.2.talker ++ e1 kv.2.listener ++ eInt kv.2.level
  | 5 => s.kd.records.flatMap fun r => e1 r.1 ++ e1 0 ++ eIndex r.2.port ++ e1 r.2.mode.code
  | 6 => keyEntries s.kd
  | 7 => (List.range 256).flatMap fun i => e2 i ++ e1 3 ++ eIndex (s.rc.source i).position ++ eWide (s.rc.source i).tie
  | 8 => destEntries s.rc
  | 9 => bindingEntries s.tr .a ++ bindingEntries s.tr .b
  | 10 => positionList.flatMap fun p => e1 p ++ eIndex (s.tr.position p).port
  | 11 => s.rc.salvos.flatMap fun kv => e1 kv.1 ++ e1 kv.2.length ++ kv.2.flatMap fun q => e1 q.1 ++ e1 q.2
  | 12 => lampsBytes s.ld
  | _ => []

/-- The length of the image as the configuration stands (R198). -/
def imageLength (s : State) : Nat := 9 + ((List.range' 1 12).map fun k => 7 + (sectionBody s k).length).sum

/-! ### Transfers (R197) -/

/-- PM begins a transfer: the memory is addressed. -/
def startTransfer (t : Transfer) (s : State) : State :=
  { s with pm := { s.pm with transfer := some t, unacked := 0, tried := s.now } }

/-- The transfer reaches past the memory. -/
def Transfer.outside : Transfer → Bool
  | .read a n => Config.memoryBytes < a + n
  | .write a b => Config.memoryBytes < a + b.length

/-! ### The end of a walk (R194, R196, R200) -/

/-- How a walk ends, with its code and the code of its reason, 0xFF where it did not stop (R202, log 14). -/
inductive WalkEnd where
  | course | headerBad | sectionLimit | offset | readFailed | checkFailed
  deriving DecidableEq, Repr

def WalkEnd.bytes : WalkEnd → List Byte
  | .course => [0, 0xFF]
  | .headerBad => [1, 0xFF]
  | .sectionLimit => [2, 0]
  | .offset => [2, 1]
  | .readFailed => [2, 2]
  | .checkFailed => [2, 3]

/-- TR takes every report that waits for it, MM's and then RC's (R76, R128, log 46). -/
def settleTallies (s : State) : State :=
  let s := s.reports.trFromMm.foldl (fun t _ => takeTallyReport .mm t) s
  (List.range s.reports.trFromRc).foldl (fun t _ => takeTallyReport .rc t) s

/-- The walk ends: LOADING is left once the mixer states and the tallies have reached TR, or PROFILE-LOAD is answered; a LISTENING node with BUS-AUTO on
goes to CHECKING. The reply gives the number of the section reached however the walk ended (log 14). -/
def endWalk (w : Walk) (how : WalkEnd) (s : State) : State :=
  let s := setFlagIf (how != .course) .profile { s with pm := { s.pm with op := .idle, transfer := none, unacked := 0 } }
  match w.request with
  | none => let s := settleTallies s; busAutoStep { s with cp := { s.cp with mode := .run } }
  | some tag =>
    deferredReply tag ReqKind.profileLoad.byte .ok
      (how.bytes ++ e2 w.reached ++ e2 w.applied ++ e2 w.skipped ++ e2 w.notLoaded) (busAutoStep s)

/-! ### The walk (R196) -/

/-- The walk stands in a phase. -/
def setWalk (w : Walk) (s : State) : State := { s with pm := { s.pm with op := .walking w, transfer := none, unacked := 0 } }

/-- PM reaches the section at an offset and reads its header, in a transfer of its own (log 26), or the walk ends (step 2 of R196). -/
def reachSection (off : Nat) (w : Walk) (s : State) : State :=
  if off = 0 then endWalk w .course s
  else
    let w := { w with reached := w.reached + 1 }
    if Config.sectionsMax < w.reached then endWalk w .sectionLimit s
    else if !validOffset off then endWalk w .offset s
    else startTransfer (.read off 7) (setWalk { w with phase := .head off } s)

/-- The section kinds the part knows (R206). -/
def knownSection (kind : Nat) : Bool := 1 ≤ kind && kind ≤ 12

/-- The header and the whole body of a section have been read (step 2 of R196). An empty body is a section applied with no entry, in
SETTINGS and LAMPS too (log 28). -/
def openSection (head body : List Byte) (w : Walk) (s : State) : State :=
  let kind := beNat (head.take 1)
  let next := beNat ((head.drop 3).take 2)
  if head.drop 5 ≠ crcBytes (head.take 5 ++ body) then endWalk w .checkFailed s
  else if !knownSection kind then reachSection next { w with skipped := w.skipped + 1 } s
  else if body = [] then reachSection next { w with applied := w.applied + 1 } s
  else setWalk { w with applied := w.applied + 1, phase := .entries kind body 0 next } s

/-- A section header has been read: the whole body is read next, in one transfer, and an empty one in none (log 26). -/
def readBody (off : Nat) (head : List Byte) (w : Walk) (s : State) : State :=
  let len := beNat ((head.drop 1).take 2)
  if Config.memoryBytes < off + 7 + len then endWalk w .offset s
  else if len = 0 then openSection head [] w s
  else startTransfer (.read (off + 7) len) (setWalk { w with phase := .body off head } s)

/-- A read of the walk has completed. -/
def walkOn (w : Walk) (bytes : List Byte) (s : State) : State :=
  match w.phase with
  | .header => match headerOffset bytes with
    | none => endWalk w .headerBad s
    | some first => reachSection first w s
  | .head off => readBody off bytes w s
  | .body _ head => openSection head bytes w s
  | .entries _ _ _ _ => s

/-- A read of the walk has failed: at the image header nothing is loaded, which PROFILE-LOAD's reply calls HEADER BAD (log 48);
elsewhere the walk stops (R196). -/
def walkFailed (w : Walk) (s : State) : State :=
  match w.phase with
  | .header => endWalk w .headerBad s
  | _ => endWalk w .readFailed s

/-! ### Entries (R196, R206) -/

/-- The bytes of the fields a presence byte names. -/
def presentLength (widths : List Nat) (p : Nat) : Nat :=
  match widths with
  | [] => 0
  | w :: ws => (if p % 2 = 1 then w else 0) + presentLength ws (p / 2)

/-- The length of the form whose optional fields follow the presence byte at place `n`. -/
def optionalLength (n : Nat) (widths : List Nat) (rest : List Byte) : Option Nat :=
  (rest[n]?).map fun p => n + 1 + presentLength widths p.toNat

/-- The length of a list form whose count stands at place 1. -/
def countedLength (width : Nat) (rest : List Byte) : Option Nat := (rest[1]?).map fun c => 2 + width * c.toNat

/-- The length the leading fields of an entry call for, by section kind and the entry's place in it (R206). None where they are
cut short, or name no form. -/
def entryLength (kind ordinal : Nat) (rest : List Byte) : Option Nat :=
  match kind with
  | 1 => if ordinal = 0 then some 26 else none
  | 2 => optionalLength 1 portWidths rest
  | 3 => countedLength 1 rest
  | 4 => some 4
  | 5 => some 4
  | 6 => (rest[2]?).bind fun k => (keyLength k.toNat).map (2 + ·)
  | 7 => optionalLength 2 [1, 2] rest
  | 8 => some 3
  | 9 => (rest[2]?).map fun b => if b = 1 ∨ b = 2 then 5 else 3
  | 10 => some 2
  | 11 => countedLength 2 rest
  | 12 =>
    match ordinal with
    | 0 => optionalLength 0 [1] rest
    | 1 => optionalLength 0 [1, 1, 1] rest
    | _ => optionalLength 1 [1, 2, 1] rest
  | _ => none

/-- What an entry's request came to: the state, and whether the entry was loaded. -/
def Answer.loaded : Answer → State × Bool
  | .now c _ s => (s, c == .ok)
  | .later s => (s, true)

/-- A field of the SETTINGS record. -/
def sliceOf (b : List Byte) (i n : Nat) : List Byte := (b.drop i).take n

/-- Run a request body's meaning; the count of refusals rises with each (log 28). -/
def applySetting (own : List Byte → State → Answer) (body : List Byte) (acc : State × Nat) : State × Nat :=
  let r := (own body acc.1).loaded
  (r.1, if r.2 then acc.2 else acc.2 + 1)

/-- BUS-AUTO is stored without acting on an enable value (R196). -/
def ownBusAuto (body : List Byte) (s : State) : Answer :=
  match body with
  | [a] => match flagOf a.toNat with
    | none => .refuse .malformed s
    | some auto => .now .ok [] { s with pbc := { s.pbc with busAuto := auto } }
  | _ => .refuse .malformed s

/-- The SETTINGS record: each setting applied as its request applies it, one refused leaving the others applied (log 28). -/
def applySettings (b : List Byte) (s : State) : State × Bool :=
  let r := applySetting ownSetNode (sliceOf b 0 1) (s, 0)
  let r := applySetting ownBusAuto (sliceOf b 1 1) r
  let r := applySetting ownBusTiming (0x3F :: sliceOf b 2 9) r
  let r := applySetting ownKeyTiming (sliceOf b 11 2) r
  let r := applySetting ownRouterTiming (sliceOf b 13 2) r
  let r := applySetting ownSetMixer (0 :: 7 :: sliceOf b 15 4) r
  let r := applySetting ownSetMixer (1 :: 7 :: sliceOf b 19 4) r
  let r := applySetting ownGainTiming (7 :: sliceOf b 23 3) r
  (r.1, r.2 == 0)

/-- A STANDING entry: the slot is defined at the index given, in place of what it held (R160). -/
def ownStandingEntry (body : List Byte) (s : State) : Answer :=
  match body with
  | [k, t, l, level] =>
    if 127 < k.toNat || 95 < t.toNat || 95 < l.toNat then .refuse .range s
    else if t = l then .refuse .malformed s
    else match defineSlot k.toNat (standingOf t l level) s with
      | none => .refuse .full (refuseRoom s)
      | some u => .now .ok [] u
  | _ => .refuse .malformed s

/-- A DESTS entry: PROTECT HOLD or LOCK in the host's name (R76). -/
def ownDestEntry (body : List Byte) (s : State) : Answer :=
  match body with
  | [hi, lo, k] => if 1 < k.toNat then .refuse .malformed s else ownProtectRequest [hi, lo, k] s
  | _ => .refuse .malformed s

/-- The place of an entry's presence byte and the value that names every field, for the forms that have one (R206). -/
def fullPresence (kind ordinal : Nat) : Option (Nat × Byte) :=
  match kind, ordinal with
  | 2, _ => some (1, 0xFF)
  | 7, _ => some (2, 3)
  | 12, 0 => some (0, 1)
  | 12, 1 => some (0, 7)
  | 12, _ => some (1, 7)
  | _, _ => none

/-- Every optional field of the entry is present (R206). -/
def hasFullForm (kind ordinal : Nat) (body : List Byte) : Bool :=
  (fullPresence kind ordinal).all fun f => body[f.1]? == some f.2

/-- The request a section's entry stands for. -/
def entryRequest (kind ordinal : Nat) (body : List Byte) (s : State) : Answer :=
  match kind with
  | 2 => ownSetPort body s
  | 3 => ownSetGroup body s
  | 4 => ownStandingEntry body s
  | 5 => ownSetPanel body s
  | 6 => ownSetKey body s
  | 7 => ownSetSource body s
  | 8 => ownDestEntry body s
  | 9 => ownSetBinding body s
  | 10 => ownSetPosition body s
  | 11 => ownDefineSalvo body s
  | 12 =>
    match ordinal with
    | 0 => ownSetHouse body s
    | 1 => ownLampTiming body s
    | _ => ownSetLamp body s
  | _ => .refuse .malformed s

/-- The request a section's entry applies; an entry that leaves a field out is of no form its kind has (R196, R206). -/
def ownEntry (kind ordinal : Nat) (body : List Byte) (s : State) : Answer :=
  if hasFullForm kind ordinal body then entryRequest kind ordinal body s else .refuse .malformed s

/-- One entry is applied: the state after, and whether it was loaded. -/
def applyEntry (kind ordinal : Nat) (body : List Byte) (s : State) : State × Bool :=
  if kind = 1 then applySettings body s else (ownEntry kind ordinal body s).loaded

/-- After an entry: PROFILE is set where it was not loaded, and the walk goes on to the next entry or section. -/
def afterEntry (w : Walk) (kind ordinal next : Nat) (rest : List Byte) (loaded : Bool) (s : State) : State :=
  let w := if loaded then w else { w with notLoaded := bump w.notLoaded }
  let s := setFlagIf (!loaded) .profile s
  if rest = [] then reachSection next w s
  else setWalk { w with phase := .entries kind rest (ordinal + 1) next } s

/-- R196: one entry of the section in hand is applied; one cut short takes the rest of the body. -/
def applyNextEntry (s : State) : State :=
  match s.pm.op with
  | .walking w => match w.phase with
    | .entries kind rest ordinal next =>
      match entryLength kind ordinal rest with
      | none => afterEntry w kind ordinal next [] false s
      | some n =>
        if rest.length < n then afterEntry w kind ordinal next [] false s
        else
          let r := applyEntry kind ordinal (rest.take n) s
          afterEntry w kind ordinal next (rest.drop n) r.2 r.1
    | _ => s
  | _ => s

def execProfileEntryApply (s : State) : Out := finish (applyNextEntry s)

/-! ### The save (R198) -/

/-- The save stands in a phase. -/
def setSave (sv : Save) (s : State) : State := { s with pm := { s.pm with op := .saving sv } }

/-- PM begins writing section `index` at an address: its content is taken now (R198). -/
def beginSection (index off : Nat) (sv : Save) (s : State) : State :=
  let body := sectionBody s (index + 1)
  let stop := off + 7 + body.length
  let bytes := sectionBytes (index + 1) (if index = 11 then 0 else stop) body
  startTransfer (.write off (bytes.take Config.writeBytes)) <|
    setSave { sv with phase := .sect index (bytes.drop Config.writeBytes) (off + min bytes.length Config.writeBytes), length := stop } s

/-- The save ends: its reply is made with OK and the length of the image, in two bytes (log 14), or with TIMEOUT, PROFILE being set
(R198). -/
def endSave (sv : Save) (ok : Bool) (s : State) : State :=
  let s := setFlagIf (!ok) .profile { s with pm := { s.pm with op := .idle, transfer := none, unacked := 0 } }
  deferredReply sv.tag ReqKind.profileSave.byte (if ok then .ok else .timeout) (if ok then e2 sv.length else []) s

/-- A write of the save has been acknowledged. -/
def saveOn (sv : Save) (s : State) : State :=
  match sv.phase with
  | .spoil => beginSection 0 9 sv s
  | .sect index rest next =>
    if rest ≠ [] then
      startTransfer (.write next (rest.take Config.writeBytes)) <|
        setSave { sv with phase := .sect index (rest.drop Config.writeBytes) (next + min rest.length Config.writeBytes) } s
    else if index < 11 then beginSection (index + 1) next sv s
    else startTransfer (.write 0 goodHeader) (setSave { sv with phase := .header } s)
  | .header => endSave sv true s

/-- R198: the length is worked out first; the save then starts with the bad header, which is bad from then on (log 30). -/
def ownProfileSave (tag : Byte) (s : State) : Answer :=
  if Config.memoryBytes < imageLength s then .refuse .full s
  else
    .later <| startTransfer (.write 0 spoiledHeader)
      { s with
        pm := { s.pm with
          op := .saving { tag := tag, phase := .spoil, length := 9 }
          memory := writeBytes s.pm.memory 0 spoiledHeader } }

def execProfileSave (tag : Byte) (body : List Byte) (s : State) : Out :=
  request .profileSave .profile (noFields (ownProfileSave tag)) tag body s

/-- KD takes every notice of PBC's that waits for it, in order (log 43). -/
def settleNotices (s : State) : State :=
  s.reports.kdPanels.foldl (fun t n => match n with
    | .departure x => takeDeparture x t
    | .join x _ => takeJoin x t) s

/-- R200: live state is cleared, ML first, and the walk begins. KD holds no context, once the departures that wait are taken. -/
def ownProfileLoad (tag : Byte) (s : State) : Answer :=
  if s.pbc.node ≠ .asleep ∧ s.pbc.node ≠ .listening then .refuse .state s
  else
    let s := { s with ml := clearMatrix s.ml }
    let s := settleNotices s
    let s := clearPaths { s with kd := { s.kd with contexts := [] } }
    .later <| startTransfer (.read 0 9) <|
      setWalk { request := some tag, phase := .header, reached := 0, applied := 0, skipped := 0, notLoaded := 0 } s

def execProfileLoad (tag : Byte) (body : List Byte) (s : State) : Out :=
  request .profileLoad .profile (noFields (ownProfileLoad tag)) tag body s

/-! ### Transfer events -/

/-- The bytes a transfer writes are in the memory. -/
def storeWrite (t : Transfer) (s : State) : State :=
  match t with
  | .read _ _ => s
  | .write a b => { s with pm := { s.pm with memory := writeBytes s.pm.memory a b } }

/-- The bytes a transfer reads. -/
def Transfer.readFrom (t : Transfer) (m : List Host.Cell) : List Byte :=
  match t with
  | .read a n => readBytes m a n
  | .write _ _ => []

/-- A transfer completes, and the walk or the save goes on (R196, R198). -/
def transferDone (t : Transfer) (s : State) : State :=
  let s := storeWrite t { s with pm := { s.pm with transfer := none, unacked := 0 } }
  match s.pm.op with
  | .idle => s
  | .walking w => walkOn w (t.readFrom s.pm.memory) s
  | .saving sv => saveOn sv s

/-- A transfer of the memory's own size goes ahead; one that reaches past the memory is a fault. -/
def withTransfer (act : Transfer → State → State) (s : State) : Out :=
  match s.pm.transfer with
  | none => finish s
  | some t => if t.outside then .fault .profileAddress else finish (act t s)

def execProfileTransferDone (s : State) : Out := withTransfer transferDone s

/-- A transfer fails: it ends the walk's read or the save (R197). -/
def transferFailed (s : State) : State :=
  match s.pm.op with
  | .idle => s
  | .walking w => walkFailed w s
  | .saving sv => endSave sv false s

/-- A millisecond after it was last sent, the address that has gone unacknowledged is sent again; the twenty-first time fails the
transfer (R197, log 34). -/
def addressRetry (s : State) : State :=
  match s.pm.transfer with
  | none => s
  | some _ =>
    if !passed s.now s.pm.tried 1 then s
    else if Config.addressTries ≤ s.pm.unacked + 1 then transferFailed s
    else { s with pm := { s.pm with unacked := s.pm.unacked + 1, tried := s.now } }

def execProfileAddressRetry (s : State) : Out := finish (addressRetry s)

/-- A byte of a write goes unacknowledged: the bytes taken before it are stored, and the transfer fails (R197, log 27). -/
def writeUnacknowledged (taken : Nat) (t : Transfer) (s : State) : State :=
  match t with
  | .read _ _ => s
  | .write a b => if taken < b.length then transferFailed (storeWrite (.write a (b.take taken)) s) else s

def execWriteByteNotAcknowledged (taken : Nat) (s : State) : Out := withTransfer (writeUnacknowledged taken) s

/-! ### Soft reset (R199, R201) -/

/-- PM becomes idle; the transfer in progress is stopped and leaves nothing more in the memory. -/
def softResetPm (s : State) : State := { s with pm := { s.pm with op := .idle, transfer := none, unacked := 0 } }

end Sys2Proof.Machine
end

