-- ==== Sys2Proof/Machine/Control.lean ====
section
/-! DEFINITION. The meanings of CP's and TB's commands (chapters 10 and 11). -/

namespace Sys2Proof.Machine

/-! ### Start-up and time -/

/-- R194: every block takes its power-on values; the memory keeps its contents, and commands wait on. -/
def execPowerOn (rateHigh profileSkip : Bool) (unit : BitVec 32) (s : State) : Out :=
  finish (State.powerOn { rateHigh := rateHigh, profileSkip := profileSkip, unit := unit } s.pm.memory s.pending)

/-- R193, R135: the count rises by one, modulo 2^32, and the lamp pins take their levels for the millisecond. -/
def tickMillis (s : State) : State := { s with now := s.now + 1, ld := latchPins s.ld }

def execMillisecondCountTick (s : State) : Out := finish (tickMillis s)

/-! ### The receiver (R180) -/

/-- IN-FRAME, the frame being received is discarded; a character or a gap while HUNTING is counted nowhere (R180). -/
def discardReceived (s : State) : State := if s.cp.inFrame then discardFrame s else s

/-- R180: LEN above 240, a low stop bit or a bad check. -/
def execControlFrameDiscard (s : State) : Out := finish (discardReceived s)

/-- R180: a gap inside a frame discards it (log 9). -/
def execControlGapExpiry (s : State) : Out := finish (discardReceived s)

/-- R180: SYNC while HUNTING puts the receiver IN-FRAME; inside a frame it is data. -/
def findSync (s : State) : State := { s with cp := { s.cp with inFrame := true } }

def execSyncFoundWhileHunting (s : State) : Out := finish (findSync s)

/-- Steps 1 to 3 of R181 for a request of an unknown kind. -/
def refuseUnknown (kind tag : Byte) (body : List Byte) (s : State) : State :=
  if Config.bodyMax < body.length || knownKind kind then discardFrame s
  else
    let s := { s with cp := { s.cp with inFrame := false } }
    if tag = 0 ∨ s.cp.outstanding.any (·.tag == tag) then makeReply tag kind .malformed [] s
    else if Config.requestsMax ≤ s.cp.outstanding.length then makeReply tag kind .full [] s
    else makeReply tag kind .unknown [] s

def execUnknownKind (kind tag : Byte) (body : List Byte) (s : State) : Out := finish (refuseUnknown kind tag body s)

/-! ### The transmitter (R180, R185) -/

def CtlFrame.isNotice : CtlFrame → Bool
  | .notice _ _ => true
  | .reply _ _ => false

/-- A frame begins: a NOTICE reports the whole flag set as it stands (R185). -/
def CtlFrame.begin' (flags : FlagSet) : CtlFrame → CtlFrame
  | .notice c _ => .notice c (some flags)
  | .reply t b => .reply t b

/-- The waiting NOTICE begins; the frames made before it have begun too, since frames go in order (R180, log 11). -/
def beginNotice (s : State) : State :=
  if s.cp.tx.any (·.isNotice) then
    let before := s.cp.tx.takeWhile (!·.isNotice)
    let rest := s.cp.tx.drop before.length
    { s with
      cp := { s.cp with
        tx := rest.drop 1
        begun := s.cp.begun ++ before ++ (rest.take 1).map (·.begin' s.cp.flags) } }
  else s

def execNoticeTransmitStart (s : State) : Out := finish (beginNotice s)

/-! ### Requests -/

/-- The profile operation code of STATUS (R202): a walk at power-on is none. -/
def Pm.operation (pm : Pm) : Nat :=
  match pm.op with
  | .idle => 0
  | .saving _ => 1
  | .walking w => if w.request.isSome then 2 else 0

/-- STATUS's reply (R189, log 14); the STATUS request itself is among the outstanding requests (log 25). -/
def statusContent (s : State) : List Byte :=
  let cp := s.cp
  eBool (cp.mode == .run) ++ e1 s.pm.operation ++ eBool cp.resetting.isSome ++ e1 s.pbc.node.code ++ e1 s.pbc.id
    ++ eBool s.rc.down ++ e1 s.ml.line.code ++ e1 s.mm.a.line.code ++ e1 s.mm.b.line.code
    ++ flagSetBytes cp.flags ++ flagSetBytes cp.announced ++ flagSetBytes cp.mask ++ eBool cp.attn ++ e2 cp.linkErrors
    ++ e2 cp.outstanding.length ++ cp.outstanding.flatMap (fun o => [o.tag, o.kind]) ++ eBool (cp.tx.any (·.isNotice))

/-- R189. -/
def ownStatus (s : State) : Answer := .now .ok (statusContent s) s

def execStatus (tag : Byte) (body : List Byte) (s : State) : Out := request .status .always (noFields ownStatus) tag body s

/-- R190. -/
def ownIdentify (s : State) : Answer := .now .ok (Config.identity ++ e4 s.straps.unit) s

def execIdentify (tag : Byte) (body : List Byte) (s : State) : Out :=
  request .identify .always (noFields ownIdentify) tag body s

/-- A flag set of a body; none where it names an unknown flag or has a wrong form (R187, R188). -/
def flagSetOf : List Byte → Option FlagSet
  | [hi, lo] => let f : FlagSet := hi ++ lo; if f &&& ~~~allFlags = 0 then some f else none
  | _ => none

/-- R187; what the new mask makes due is announced at the end of the event. -/
def ownSetMask (body : List Byte) (s : State) : Answer :=
  match flagSetOf body with
  | none => .refuse .malformed s
  | some m => .now .ok (flagSetBytes m ++ flagSetBytes s.cp.flags) { s with cp := { s.cp with mask := m } }

def execSetMask (tag : Byte) (body : List Byte) (s : State) : Out := request .setMask .live ownSetMask tag body s

/-- R188. -/
def ownClearFlags (body : List Byte) (s : State) : Answer :=
  match flagSetOf body with
  | none => .refuse .malformed s
  | some m =>
    .now .ok (flagSetBytes (s.cp.flags &&& ~~~m))
      { s with cp := { s.cp with flags := s.cp.flags &&& ~~~m, announced := s.cp.announced &&& ~~~m } }

def execClearFlags (tag : Byte) (body : List Byte) (s : State) : Out := request .clearFlags .live ownClearFlags tag body s

/-- The eleven blocks. -/
def allBlocks : List Block := [.cp, .pbc, .kd, .rc, .mm, .tr, .ld, .te, .ml, .tb, .pm]

/-- Steps 1 and 2 of R191; the blocks take their soft resets at events of their own. -/
def ownReset (tag : Byte) (s : State) : Answer :=
  .later
    { s with
      cp := { s.cp with
        outstanding := s.cp.outstanding.filter (·.tag == tag)
        tx := []
        resetting := some { tag := tag, left := allBlocks } } }

def execReset (tag : Byte) (body : List Byte) (s : State) : Out := request .reset .reset (noFields (ownReset tag)) tag body s

/-! ### Soft reset (R191, R192) -/

/-- CP's soft reset. -/
def softResetCp (s : State) : State := { s with cp := { s.cp with flags := 0, announced := 0, linkErrors := 0 } }

/-- TR's soft reset, after which LD and TE, where they took theirs before it, find their state from it anew (R129, R142, log 20). -/
def followTrReset (s : State) : State :=
  let s := softResetTr s
  let s := if yetToReset .ld s then s else lampsFromTally s
  if yetToReset .te s then s else sendGains (guardTargets (positionList.map fun p => (p, s.tr.guard p)) s)

/-- The soft reset of one block; TB's count runs on (R193). -/
def softReset (b : Block) (s : State) : State :=
  match b with
  | .cp => softResetCp s
  | .pbc => softResetPbc s
  | .kd => softResetKd s
  | .rc => softResetRc s
  | .mm => softResetMm s
  | .tr => followTrReset s
  | .ld => softResetLd s
  | .te => softResetTe s
  | .ml => softResetMl s
  | .tb => s
  | .pm => softResetPm s

/-- A block takes its soft reset while a RESET in progress awaits it; with the last block's, RESET is answered (R191). -/
def resetBlock (b : Block) (s : State) : State :=
  match s.cp.resetting with
  | none => s
  | some r =>
    if r.left.contains b then
      let s := softReset b s
      let left := r.left.filter (· != b)
      if left = [] then
        deferredReply r.tag ReqKind.reset.byte .ok [] { s with cp := { s.cp with resetting := none } }
      else { s with cp := { s.cp with resetting := some { r with left := left } } }
    else s

def execBlockSoftReset (b : Block) (s : State) : Out := finish (resetBlock b s)

end Sys2Proof.Machine
end

