-- ==== Sys2Proof/Machine/Dispatch.lean ====
section
/-! DEFINITION. Every command and its meaning. -/

namespace Sys2Proof.Machine

/-- The effect of a command on everything but the queue. -/
def exec (i : Instr) (s : State) : Host.Outcome State Fault Refusal :=
  match i with
  | .powerOn rateHigh profileSkip unit => Sys2Proof.Machine.execPowerOn rateHigh profileSkip unit s
  | .controlFrameDiscard => Sys2Proof.Machine.execControlFrameDiscard s
  | .controlGapExpiry => Sys2Proof.Machine.execControlGapExpiry s
  | .unknownKind kind tag body => Sys2Proof.Machine.execUnknownKind kind tag body s
  | .noticeTransmitStart => Sys2Proof.Machine.execNoticeTransmitStart s
  | .setNode tag body => Sys2Proof.Machine.execSetNode tag body s
  | .busEnable tag body => Sys2Proof.Machine.execBusEnable tag body s
  | .busTiming tag body => Sys2Proof.Machine.execBusTiming tag body s
  | .sweepNow tag body => Sys2Proof.Machine.execSweepNow tag body s
  | .forget tag body => Sys2Proof.Machine.execForget tag body s
  | .readRoster tag body => Sys2Proof.Machine.execReadRoster tag body s
  | .setPanel tag body => Sys2Proof.Machine.execSetPanel tag body s
  | .setKey tag body => Sys2Proof.Machine.execSetKey tag body s
  | .keyTiming tag body => Sys2Proof.Machine.execKeyTiming tag body s
  | .readPanel tag body => Sys2Proof.Machine.execReadPanel tag body s
  | .setSource tag body => Sys2Proof.Machine.execSetSource tag body s
  | .setDest tag body => Sys2Proof.Machine.execSetDest tag body s
  | .protect tag body => Sys2Proof.Machine.execProtect tag body s
  | .defineSalvo tag body => Sys2Proof.Machine.execDefineSalvo tag body s
  | .readDest tag body => Sys2Proof.Machine.execReadDest tag body s
  | .take tag body => Sys2Proof.Machine.execTake tag body s
  | .takeCancel tag body => Sys2Proof.Machine.execTakeCancel tag body s
  | .fireSalvo tag body => Sys2Proof.Machine.execFireSalvo tag body s
  | .routerTiming tag body => Sys2Proof.Machine.execRouterTiming tag body s
  | .readQueue tag body => Sys2Proof.Machine.execReadQueue tag body s
  | .setMixer tag body => Sys2Proof.Machine.execSetMixer tag body s
  | .readMixer tag body => Sys2Proof.Machine.execReadMixer tag body s
  | .setBinding tag body => Sys2Proof.Machine.execSetBinding tag body s
  | .setPosition tag body => Sys2Proof.Machine.execSetPosition tag body s
  | .call tag body => Sys2Proof.Machine.execCall tag body s
  | .readTally tag body => Sys2Proof.Machine.execReadTally tag body s
  | .setHouse tag body => Sys2Proof.Machine.execSetHouse tag body s
  | .setLamp tag body => Sys2Proof.Machine.execSetLamp tag body s
  | .lampTiming tag body => Sys2Proof.Machine.execLampTiming tag body s
  | .setPort tag body => Sys2Proof.Machine.execSetPort tag body s
  | .setGroup tag body => Sys2Proof.Machine.execSetGroup tag body s
  | .addStanding tag body => Sys2Proof.Machine.execAddStanding tag body s
  | .dropStanding tag body => Sys2Proof.Machine.execDropStanding tag body s
  | .readPaths tag body => Sys2Proof.Machine.execReadPaths tag body s
  | .gainTiming tag body => Sys2Proof.Machine.execGainTiming tag body s
  | .readMatrix tag body => Sys2Proof.Machine.execReadMatrix tag body s
  | .status tag body => Sys2Proof.Machine.execStatus tag body s
  | .identify tag body => Sys2Proof.Machine.execIdentify tag body s
  | .setMask tag body => Sys2Proof.Machine.execSetMask tag body s
  | .clearFlags tag body => Sys2Proof.Machine.execClearFlags tag body s
  | .reset tag body => Sys2Proof.Machine.execReset tag body s
  | .blockSoftReset b => Sys2Proof.Machine.execBlockSoftReset b s
  | .profileSave tag body => Sys2Proof.Machine.execProfileSave tag body s
  | .profileLoad tag body => Sys2Proof.Machine.execProfileLoad tag body s
  | .pbBadFrame => Sys2Proof.Machine.execPbBadFrame s
  | .pbGapExpiry => Sys2Proof.Machine.execPbGapExpiry s
  | .activity completes => Sys2Proof.Machine.execActivity completes s
  | .pbFrameSent => Sys2Proof.Machine.execPbFrameSent s
  | .passReceived target => Sys2Proof.Machine.execPassReceived target s
  | .askReceived sender target => Sys2Proof.Machine.execAskReceived sender target s
  | .cargoReceived sender target seq payload => Sys2Proof.Machine.execCargoReceived sender target seq payload s
  | .roomReceived sender target => Sys2Proof.Machine.execRoomReceived sender target s
  | .noroomReceived sender target => Sys2Proof.Machine.execNoroomReceived sender target s
  | .gotReceived sender target => Sys2Proof.Machine.execGotReceived sender target s
  | .hereReceived sender kind unit keys => Sys2Proof.Machine.execHereReceived sender kind unit keys s
  | .probeWindowClose => Sys2Proof.Machine.execProbeWindowClose s
  | .askWindowClose => Sys2Proof.Machine.execAskWindowClose s
  | .cargoWindowClose => Sys2Proof.Machine.execCargoWindowClose s
  | .passWindowClose => Sys2Proof.Machine.execPassWindowClose s
  | .reservationLapse => Sys2Proof.Machine.execReservationLapse s
  | .checkingExpiry => Sys2Proof.Machine.execCheckingExpiry s
  | .silenceExpiry => Sys2Proof.Machine.execSilenceExpiry s
  | .censusIntervalExpiry => Sys2Proof.Machine.execCensusIntervalExpiry s
  | .absenceExpiry node => Sys2Proof.Machine.execAbsenceExpiry node s
  | .kdDeparture node => Sys2Proof.Machine.execKdDeparture node s
  | .kdJoin node => Sys2Proof.Machine.execKdJoin node s
  | .rcRelease node => Sys2Proof.Machine.execRcRelease node s
  | .dispatch => Sys2Proof.Machine.execDispatch s
  | .tapWindowExpiry node key => Sys2Proof.Machine.execTapWindowExpiry node key s
  | .latchLimitExpiry node key => Sys2Proof.Machine.execLatchLimitExpiry node key s
  | .refusalIndicationExpiry node key => Sys2Proof.Machine.execRefusalIndicationExpiry node key s
  | .kdTakeOutcome => Sys2Proof.Machine.execKdTakeOutcome s
  | .kdFireCompletion => Sys2Proof.Machine.execKdFireCompletion s
  | .kdImageReport src => Sys2Proof.Machine.execKdImageReport src s
  | .routerBadFrame => Sys2Proof.Machine.execRouterBadFrame s
  | .routerGapExpiry => Sys2Proof.Machine.execRouterGapExpiry s
  | .routerFrameSent => Sys2Proof.Machine.execRouterFrameSent s
  | .xdone dest src => Sys2Proof.Machine.execXdone dest src s
  | .xfail dest reason => Sys2Proof.Machine.execXfail dest reason s
  | .xstate dest src => Sys2Proof.Machine.execXstate dest src s
  | .xmoved dest src => Sys2Proof.Machine.execXmoved dest src s
  | .takeReplyTimerExpiry dest => Sys2Proof.Machine.execTakeReplyTimerExpiry dest s
  | .queryReplyTimerExpiry dest => Sys2Proof.Machine.execQueryReplyTimerExpiry dest s
  | .routerProbeTimer => Sys2Proof.Machine.execRouterProbeTimer s
  | .mixerBadFrame mixer => Sys2Proof.Machine.execMixerBadFrame mixer s
  | .mixerGapExpiry mixer => Sys2Proof.Machine.execMixerGapExpiry mixer s
  | .busRecord mixer bus input => Sys2Proof.Machine.execBusRecord mixer bus input s
  | .transRecord mixer value => Sys2Proof.Machine.execTransRecord mixer value s
  | .keyerRecord mixer keyer onAir fill => Sys2Proof.Machine.execKeyerRecord mixer keyer onAir fill s
  | .aliveRecord mixer => Sys2Proof.Machine.execAliveRecord mixer s
  | .staleExpiry mixer => Sys2Proof.Machine.execStaleExpiry mixer s
  | .withdrawExpiry mixer => Sys2Proof.Machine.execWithdrawExpiry mixer s
  | .trRecomputation src => Sys2Proof.Machine.execTrRecomputation src s
  | .hostCallExpiry position => Sys2Proof.Machine.execHostCallExpiry position s
  | .ldRelight => Sys2Proof.Machine.execLdRelight s
  | .ldCallStart position => Sys2Proof.Machine.execLdCallStart position s
  | .ldCallEnd position => Sys2Proof.Machine.execLdCallEnd position s
  | .lampTick => Sys2Proof.Machine.execLampTick s
  | .phaseExpiry position => Sys2Proof.Machine.execPhaseExpiry position s
  | .teLiveSetReport => Sys2Proof.Machine.execTeLiveSetReport s
  | .teGuardReport => Sys2Proof.Machine.execTeGuardReport s
  | .teRemovalReport => Sys2Proof.Machine.execTeRemovalReport s
  | .gainTick => Sys2Proof.Machine.execGainTick s
  | .matrixBadFrame => Sys2Proof.Machine.execMatrixBadFrame s
  | .matrixGapExpiry => Sys2Proof.Machine.execMatrixGapExpiry s
  | .matrixFrameSent => Sys2Proof.Machine.execMatrixFrameSent s
  | .gainOk listener talker => Sys2Proof.Machine.execGainOk listener talker s
  | .gainReplyExpiry listener talker => Sys2Proof.Machine.execGainReplyExpiry listener talker s
  | .pingTimer => Sys2Proof.Machine.execPingTimer s
  | .pong => Sys2Proof.Machine.execPong s
  | .muteAllOk => Sys2Proof.Machine.execMuteAllOk s
  | .muteAllExpiry => Sys2Proof.Machine.execMuteAllExpiry s
  | .profileTransferDone => Sys2Proof.Machine.execProfileTransferDone s
  | .profileAddressRetry => Sys2Proof.Machine.execProfileAddressRetry s
  | .profileEntryApply => Sys2Proof.Machine.execProfileEntryApply s
  | .millisecondCountTick => Sys2Proof.Machine.execMillisecondCountTick s
  | .syncFoundWhileHunting => Sys2Proof.Machine.execSyncFoundWhileHunting s
  | .writeByteNotAcknowledged taken => Sys2Proof.Machine.execWriteByteNotAcknowledged taken s

end Sys2Proof.Machine
end

