-- ==== Sys2Proof/Machine/Step.lean ====
section
/-! DEFINITION. One step of the part: the command at the front of the queue, or, when none waits, the transmitter's next reply. -/

namespace Sys2Proof.Machine

/-- What an idle part does: the front REPLY of the transmitter begins (R180, log 11). A waiting NOTICE begins at its own
command, and with nothing to begin the part is left as it is (log 1). -/
def idle (s : State) : State :=
  match s.cp.tx with
  | .reply tag body :: rest => { s with cp := { s.cp with tx := rest, begun := s.cp.begun ++ [.reply tag body] } }
  | _ => s

/-- Take the command at the front of the queue; on an empty queue, idle. -/
def step (s : State) : Host.Outcome State Fault Refusal :=
  match s.pending with
  | [] => .next (idle s)
  | c :: rest => exec c { s with pending := rest }

/-- The command a word spells is put at the front of the queue. -/
def State.withFetchWord (s : State) (nbits w : Nat) : State :=
  match decodeTableWord nbits w with
  | some c => { s with pending := c :: s.pending }
  | none => s

end Sys2Proof.Machine
end

