-- ==== Sys2Proof/Safety.lean ====
section
/-! DEFINITION. The terms in which statements about the part are made: which parts of the state an event leaves alone, what it
does to the Control Port, when a request is admitted, and the invariants of a run. -/

namespace Sys2Proof.Machine

/-! ### Frames -/

/-- The components of State. -/
inductive Part where
  | straps | now | cp | pbc | kd | rc | mm | tr | ld | te | ml | pm | reports | pending
  deriving DecidableEq, Repr

/-- Two states agree in a component. -/
def sameAt (s t : State) : Part → Prop
  | .straps => t.straps = s.straps
  | .now => t.now = s.now
  | .cp => t.cp = s.cp
  | .pbc => t.pbc = s.pbc
  | .kd => t.kd = s.kd
  | .rc => t.rc = s.rc
  | .mm => t.mm = s.mm
  | .tr => t.tr = s.tr
  | .ld => t.ld = s.ld
  | .te => t.te = s.te
  | .ml => t.ml = s.ml
  | .pm => t.pm = s.pm
  | .reports => t.reports = s.reports
  | .pending => t.pending = s.pending

/-- Every component but those listed is unchanged, the profile memory (in `pm`) among them. -/
def OnlyChanges (ps : List Part) (s t : State) : Prop := ∀ p, p ∉ ps → sameAt s t p

/-! ### The Control Port at an event -/

/-- The REPLY frames that wait for the transmitter, oldest first. -/
def replies (cp : Cp) : List CtlFrame := cp.tx.filter (!·.isNotice)

/-- What an event that is no request of CP's own does to CP: `new` replies are made, `raised` flags are set and announced by R185,
and the mask, the frames begun, the mode and a RESET in progress stand. -/
structure CpAfter (s t : State) (new : List CtlFrame) (raised : FlagSet) : Prop where
  replies : replies t.cp = replies s.cp ++ new
  flags : t.cp.flags = s.cp.flags ||| raised
  announced : t.cp.announced = s.cp.announced ||| (t.cp.flags &&& s.cp.mask)
  mask : t.cp.mask = s.cp.mask
  begun : t.cp.begun = s.cp.begun
  mode : t.cp.mode = s.cp.mode
  resetting : t.cp.resetting = s.cp.resetting
  linkErrors : t.cp.linkErrors = s.cp.linkErrors

/-- An event makes no reply and sets the flags given, no more. -/
structure Silent (s t : State) (raised : FlagSet) : Prop where
  cp : CpAfter s t [] raised
  outstanding : t.cp.outstanding = s.cp.outstanding
  inFrame : t.cp.inFrame = s.cp.inFrame

/-- A request is answered at once: one REPLY with its tag, kind, code and content, and no place taken in the list. -/
structure Answered (s t : State) (tag kind : Byte) (code : Code) (content : List Byte) (raised : FlagSet) : Prop where
  cp : CpAfter s t [.reply tag (kind :: code.byte :: content)] raised
  outstanding : t.cp.outstanding = s.cp.outstanding
  inFrame : t.cp.inFrame = false

/-- A request is taken and will be answered later: it holds the last place of the list. -/
structure Deferred (s t : State) (tag kind : Byte) : Prop where
  cp : CpAfter s t [] 0
  outstanding : t.cp.outstanding = s.cp.outstanding ++ [⟨tag, kind⟩]
  inFrame : t.cp.inFrame = false

/-- A deferred request is answered by an event: its tag leaves the list (R182). -/
structure Settled (s t : State) (tag kind : Byte) (code : Code) (content : List Byte) (raised : FlagSet) : Prop where
  cp : CpAfter s t [.reply tag (kind :: code.byte :: content)] raised
  outstanding : t.cp.outstanding = s.cp.outstanding.filter (·.tag != tag)
  inFrame : t.cp.inFrame = s.cp.inFrame

/-- The state as a request's block sees it: the receiver HUNTING, the request last in the outstanding-request list (R180, R181). -/
def taken (tag kind : Byte) (s : State) : State :=
  { s with cp := { s.cp with inFrame := false, outstanding := s.cp.outstanding ++ [⟨tag, kind⟩] } }

/-- A command goes on to the state `u`, with the flags due there announced (R185). -/
def EndsIn (i : Instr) (s u : State) : Prop := exec i s = .next (announce u)

/-- A request is answered at once, its effect being `u` on `taken tag kind s`: it leaves the list, its REPLY is made behind the
frames that wait, then the flags due are announced (R182, R185). -/
def RepliesIn (i : Instr) (s : State) (tag : Byte) (kind : ReqKind) (code : Code) (content : List Byte) (u : State) : Prop :=
  exec i s = .next (announce (makeReply tag kind.byte code content (endRequest tag u)))

/-- A request is refused: it is answered with the code and nothing else changes (R182). -/
def Refuses (i : Instr) (s : State) (tag kind : Byte) (code : Code) : Prop :=
  ∃ t, exec i s = .next t ∧ OnlyChanges [.cp] s t ∧ Answered s t tag kind code [] 0

/-- The checks of R181 admit a request of a class: a tag of its own, room in the list, a mode that admits it. -/
abbrev Admitted (c : Class) (tag : Byte) (body : List Byte) (s : State) : Prop :=
  body.length ≤ Config.bodyMax ∧ tag ≠ 0 ∧ (∀ o ∈ s.cp.outstanding, o.tag ≠ tag)
    ∧ s.cp.outstanding.length < Config.requestsMax ∧ admits s c = true

/-- The class of a request in the catalogue of 10.6; the two that read back without a field by R183. -/
def requestClass : Instr → Class
  | .readRoster _ _ | .readPanel _ _ | .readDest _ _ | .readQueue _ _ | .readMixer _ _ | .readTally _ _
  | .readPaths _ _ | .readMatrix _ _ => .read
  | .sweepNow _ _ | .forget _ _ | .setDest _ _ | .protect _ _ | .take _ _ | .takeCancel _ _ | .fireSalvo _ _
  | .setMixer _ _ | .call _ _ | .setHouse _ _ | .setMask _ _ | .clearFlags _ _ => .live
  | .setNode _ _ | .busEnable _ _ | .busTiming _ _ | .setPanel _ _ | .setKey _ _ | .keyTiming _ _ | .setSource _ _
  | .defineSalvo _ _ | .routerTiming _ _ | .setBinding _ _ | .setPosition _ _ | .setPort _ _ | .setGroup _ _
  | .addStanding _ _ | .dropStanding _ _ => .config
  | .profileSave _ _ | .profileLoad _ _ => .profile
  | .reset _ _ => .reset
  | .lampTiming _ body => if carriesField 0 body then .config else .read
  | .gainTiming _ body => if carriesField 0 body then .config else .read
  | .setLamp _ body => if carriesField 1 body then .config else .read
  | _ => .always

/-! ### Invariants -/

/-- R181: at most eight requests are outstanding. R184: no flag but the ten is set. R185: at most one NOTICE waits, and between
events no flag is due. -/
structure CpInv (s : State) : Prop where
  known : s.cp.flags &&& ~~~allFlags = 0
  outstanding : s.cp.outstanding.length ≤ Config.requestsMax
  notices : s.cp.tx.countP (·.isNotice) ≤ 1
  due : s.cp.due = 0

/-- Every setting of a mixer lies in its range (R102). -/
def MixerRec.inRange (m : MixerRec) : Bool := 100 ≤ m.stale && m.stale ≤ 5000 && 1 ≤ m.withdraw && m.withdraw ≤ 60

/-- A port record lies in its ranges, and has no field its kind does not have (R143). -/
def PortRec.inRange (r : PortRec) : Bool :=
  -80 ≤ r.receive && r.receive ≤ 24 && -24 ≤ r.inTrim && r.inTrim ≤ 24 && -24 ≤ r.outTrim && r.outTrim ≤ 24 && r.dim ≤ 60
    && (match r.duck with
      | .steps n => n ≤ 80
      | .full => true)
    && r.program.all (· ≤ 95) && r.guardPos.all (· ≤ 23)
    && (r.kind == .ifb || (r.duck == .steps 0 && r.program.isNone)) && (r.kind == .speaker || r.guardPos.isNone)

/-- A key entry lies in its ranges, its level and its latch limit among them (R33). -/
def KeyEntry.inRange (e : KeyEntry) : Bool :=
  keyInRange e &&
    match e with
    | .talk _ _ _ level limit => -80 ≤ level && level ≤ 24 && limit ≤ 600
    | .listen _ level => -80 ≤ level && level ≤ 24
    | _ => true

/-- Every setting, and every index a record of the configuration holds, lies in its range. -/
structure SettingsInRange (s : State) : Prop where
  /-- R7. -/
  node : s.pbc.id ≤ 63
  /-- R28. -/
  reply : 50 ≤ s.pbc.timing.replyWindow ∧ s.pbc.timing.replyWindow ≤ 1000
  silence : 1 ≤ s.pbc.timing.silence ∧ s.pbc.timing.silence ≤ 50
  budget : 1 ≤ s.pbc.timing.turnBudget ∧ s.pbc.timing.turnBudget ≤ 8
  census : 100 ≤ s.pbc.timing.census ∧ s.pbc.timing.census ≤ 5000
  stall : 1 ≤ s.pbc.timing.stallLimit ∧ s.pbc.timing.stallLimit ≤ 255
  release : s.pbc.timing.release ≤ 255
  /-- R56, R96. -/
  tap : 100 ≤ s.kd.tapWindow ∧ s.kd.tapWindow ≤ 1000
  router : 10 ≤ s.rc.replyTimer ∧ s.rc.replyTimer ≤ 1000
  /-- R102. -/
  mixers : s.mm.a.inRange = true ∧ s.mm.b.inRange = true
  /-- R130. -/
  lamp : s.ld.house ≤ 255 ∧ s.ld.floor ≤ 255 ∧ (1 ≤ s.ld.step ∧ s.ld.step ≤ 255) ∧ (10 ≤ s.ld.tick ∧ s.ld.tick ≤ 250)
  lamps : ∀ kv ∈ s.ld.lamps, kv.2.trim ≤ 255 ∧ ∀ m ∈ kv.2.manual, m ≤ 255
  /-- R167, R170. -/
  gain : (5 ≤ s.te.gainTick ∧ s.te.gainTick ≤ 100) ∧ (1 ≤ s.te.rampStep ∧ s.te.rampStep ≤ 40)
  matrix : 2 ≤ s.ml.replyTimeout ∧ s.ml.replyTimeout ≤ 100
  /-- R143, R145, R147. -/
  ports : ∀ kv ∈ s.te.ports, kv.2.inRange = true
  groups : ∀ kv ∈ s.te.groups, kv.2.length ≤ 32 ∧ ∀ p ∈ kv.2, p ≤ 95
  standing : ∀ kv ∈ s.te.standing,
    kv.2.talker ≤ 95 ∧ kv.2.listener ≤ 95 ∧ kv.2.talker ≠ kv.2.listener ∧ -80 ≤ kv.2.level ∧ kv.2.level ≤ 24
  /-- R32, R33. -/
  panels : ∀ r ∈ s.kd.records, (∀ p ∈ r.2.port, p ≤ 95) ∧ ∀ k ∈ r.2.keys, k.2.inRange = true
  /-- R60, R122, R125. -/
  sources : ∀ kv ∈ s.rc.sources, (∀ p ∈ kv.2.position, p ≤ 23) ∧ ∀ d ∈ kv.2.tie, d ≤ 255
  positions : ∀ kv ∈ s.tr.positions, ∀ p ∈ kv.2.port, p ≤ 95
  bindings : ∀ kv ∈ s.tr.bindingsA ++ s.tr.bindingsB, bindingInRange kv.2 = true

/-- A node ID of a panel. -/
abbrev isNode (n : Nat) : Prop := 1 ≤ n ∧ n ≤ 63

/-- The roster lists node IDs 1 to 63 in ascending order (R3), and so do the results of a sweep; what the hub probes, and the census
pointer's successor, lie there too (R12, R18). The destination records are listed in ascending order (R62). -/
structure TableInv (s : State) : Prop where
  sorted : tsorted s.pbc.roster = true
  ids : ∀ kv ∈ s.pbc.roster, isNode kv.1
  results : ∀ kv ∈ s.pbc.results, isNode kv.1
  probe : ∀ c n h, s.pbc.work = .probe c n h → isNode n
  pointer : s.pbc.censusPtr ≤ 63
  dests : tsorted s.rc.dests = true

/-- The part of the Panel Bus a MEMBER entry carries. R5: the dirty set is ascending, without duplicates, below the key count, and a
key of the panel's context whose sent image is not its desired image stands in it, but while a notice of the panel still waits for
KD, which has then still to make or to delete that context. R20: the keys of a cargo in flight are dirty, each carried once. -/
structure LinkInv (s : State) (n : Nat) (e : RosterEntry) (link : Link) : Prop where
  keys : ∃ i, e.info = some i ∧ link.sent.length = i.keys
  ascending : link.dirty.Pairwise (· < ·)
  below : ∀ k ∈ link.dirty, k < link.sent.length
  carried : ∀ c, s.pbc.work = .cargo n c → (c.map (·.1)).Nodup ∧ ∀ x ∈ c, x.1 ∈ link.dirty
  dirty : (∀ x ∈ s.reports.kdPanels, x.node ≠ n) → ∀ k x, s.kd.key n k = some x → k < link.sent.length →
    link.sent[k]? ≠ some (some x.image) → k ∈ link.dirty

/-- R3: the roster never holds the hub's own ID; a node that is off the bus, CHECKING or in CONFLICT sweeps and probes nothing. R23,
R25: stored cargos and the reservation take no more than the four slots. Each MEMBER entry meets `LinkInv`. -/
structure PanelBusInv (s : State) : Prop where
  tables : TableInv s
  own : s.pbc.entry s.pbc.id = none
  ownResult : ∀ kv ∈ s.pbc.results, kv.1 ≠ s.pbc.id
  ownProbe : ∀ c n h, s.pbc.work = .probe c n h → n ≠ s.pbc.id
  quiet : s.pbc.node ∈ [.asleep, .listening, .checking, .conflict] → s.pbc.results = [] ∧ s.pbc.work = .idle
  slots : s.pbc.inbound.length + (if s.pbc.reserved.isSome then 1 else 0) ≤ Config.inboundMax
  links : ∀ n e link stall ask, s.pbc.entry n = some e → e.presence = .member link stall ask → LinkInv s n e link

/-- R79: at most 32 entries, at most one WAITING and one SENT of a destination, whose pending source is the SENT entry's. R81: at most two places of the window in use, and
between events the choice for a free place finds nothing to send. Serial numbers (log 19) are those of earlier fires, each fire's its
own. -/
structure RouterQueueInv (s : State) : Prop where
  length : s.rc.queue.length ≤ Config.queueMax
  waiting : ((s.rc.queue.filter (·.isWaiting)).map (·.dest)).Nodup
  sent : ((s.rc.queue.filter (·.isSent)).map (·.dest)).Nodup
  pending : ∀ e ∈ s.rc.queue, e.isSent = true → (s.rc.dest e.dest).pending = some e.source
  window : s.rc.windowUsed ≤ Config.windowPlaces
  filled : fillPlace s = none
  serials : ∀ f ∈ s.rc.fires, f.serial < s.rc.nextSerial
  distinct : (s.rc.fires.map (·.serial)).Nodup
  requesters : ∀ e ∈ s.rc.queue, ∀ n, e.requester = .fire n → n < s.rc.nextSerial
  /-- R87: the query set is held in ascending order, so its first destination is its lowest. -/
  ascending : s.rc.querySet.Pairwise (· < ·)

/-- R150, R155: the path table lists its entries by pair, within the pools of 2,048 causes and 768 entries, each OPEN exactly while it
has a cause. R147: the 128 slots, the cause of each defined slot in the pool. R170: at most four GAINs are outstanding. R175: a
MUTE-ALL is outstanding exactly while the line is CLEARING. R169: while the line is UP, every DIRTY entry stands in the queue its
current gain calls for and not in the other; while it is not, the queues are empty. R170, R174, R179: a SENT entry has a GAIN of its
pair outstanding, and none is while the line is not UP. -/
structure PathTableInv (s : State) : Prop where
  sorted : tsorted s.te.paths = true
  pairs : ∀ kv ∈ s.te.paths, kv.1 = pairKey kv.2.talker kv.2.listener
  causes : s.te.causesUsed ≤ Config.causesMax
  entries : s.te.paths.length ≤ Config.entriesMax
  opened : ∀ kv ∈ s.te.paths, kv.2.opened = !kv.2.causes.isEmpty
  standing : tsorted s.te.standing = true ∧ ∀ kv ∈ s.te.standing, kv.1 < Config.slots
  slots : ∀ kv ∈ s.te.standing, ∃ e ∈ s.te.paths, ∃ c ∈ e.2.causes, c.origin = .standing kv.1
  outstanding : s.ml.outstanding.length ≤ Config.gainsMax
  muteAll : s.ml.muteAll.isSome = true ↔ s.ml.line = .clearing
  queued : s.ml.line = .up → ∀ k e, tfind s.te.paths k = some e → e.sync = .dirty →
    if e.current = .mute then k ∈ s.ml.muteQueue ∧ k ∉ s.ml.levelQueue else k ∈ s.ml.levelQueue ∧ k ∉ s.ml.muteQueue
  idle : s.ml.line ≠ .up → s.ml.muteQueue = [] ∧ s.ml.levelQueue = [] ∧ s.ml.outstanding = []
  sent : ∀ kv ∈ s.te.paths, kv.2.sync = .sent → ∃ o ∈ s.ml.outstanding, pairKey o.talker o.listener = kv.1
  /-- R173, R174: a CLOSING entry that an UP line holds CLEAN at MUTE, and every one on a DOWN line, has its removal report waiting. -/
  removals : ∀ kv ∈ s.te.paths, kv.2.opened = false →
    s.ml.line = .down ∨ (s.ml.line = .up ∧ kv.2.sync = .clean ∧ kv.2.sentValue = .mute) → ⟨kv.1, false⟩ ∈ s.reports.teFromMl

/-- R162: between events every path entry has the target gain R163 gives it, the guard states being those TR has reported to TE
(log 6). The ports of the entries and of a waiting LIVE port set are ports (R150). -/
structure TargetInv (s : State) : Prop where
  ports : ∀ kv ∈ s.te.paths, kv.2.talker ≤ 95 ∧ kv.2.listener ≤ 95
  live : ∀ r ∈ s.reports.teFromTr, ∀ ports ∈ r.live, ∀ p ∈ ports, p ≤ 95
  targets : ∀ kv ∈ s.te.paths, kv.2.target = targetGain s.te kv.2

/-- R150: one origin has at most one cause in an entry, and so of a pair. What that rests on: the key contexts and their keys are listed
in ascending order, and no port stands twice in a group (R145) or in a waiting LIVE port set (R123). -/
structure CauseInv (s : State) : Prop where
  contexts : tsorted s.kd.contexts = true ∧ ∀ kv ∈ s.kd.contexts, tsorted kv.2.keys = true
  groups : ∀ kv ∈ s.te.groups, kv.2.Nodup
  live : ∀ r ∈ s.reports.teFromTr, ∀ ports ∈ r.live, ports.Nodup
  origins : ∀ kv ∈ s.te.paths, (kv.2.causes.map (·.origin)).Nodup

/-- The most bytes the body of section kind 1 to 12 takes in a save (R198, R206). -/
def sectionMost : Nat → Nat
  | 1 => 26 | 2 => 960 | 3 => 1088 | 4 => 512 | 5 => 252 | 6 => 20160 | 7 => 1536 | 8 => 768 | 9 => 640 | 10 => 48
  | 11 => 2176 | 12 => 150 | _ => 0

/-- The most a save has written with its section `index` of the twelve, the image header included. -/
def sectionEnd (index : Nat) : Nat := 9 + ((List.range (index + 1)).map fun j => 7 + sectionMost (j + 1)).sum

/-- The records a save writes lie in their tables, so that no section is longer than `sectionMost`, whatever live request is taken
during the save (R198); a save writes within that bound, and a transfer in progress lies within the 32 KiB memory. -/
structure ImageInv (s : State) : Prop where
  /-- R32, R33. -/
  records : tsorted s.kd.records = true ∧ ∀ r ∈ s.kd.records, isNode r.1 ∧ tsorted r.2.keys = true ∧ ∀ k ∈ r.2.keys, k.1 ≤ 31
  /-- R70. -/
  salvos : tsorted s.rc.salvos = true ∧ (∀ kv ∈ s.rc.salvos, kv.1 ≤ 63) ∧ s.rc.poolUsed ≤ Config.poolPairs
  /-- R62, R67: a protect of the host's is one of a destination 0 to 255. -/
  dests : tsorted s.rc.dests = true ∧ ∀ kv ∈ s.rc.dests, ∀ p, kv.2.protect = some p → p.owner = none → kv.1 ≤ 255
  /-- R145, R147. -/
  groups : ∀ kv ∈ s.te.groups, kv.2.length ≤ Config.groupMax
  standing : tsorted s.te.standing = true ∧ ∀ kv ∈ s.te.standing, kv.1 < Config.slots
  save : ∀ sv index rest next, s.pm.op = .saving sv → sv.phase = .sect index rest next →
    index < 12 ∧ next + rest.length ≤ sectionEnd index
  transfer : ∀ t, s.pm.transfer = some t → t.outside = false

/-- A run of the part is safe when no step stops it: every command it takes has its effect. -/
def Runs (s : State) : Prop := ∃ t, step s = .next t

end Sys2Proof.Machine
end

