-- ==== Sys2Proof/Certificates/Slice0/Obligations.lean ====
section
/-! DEFINITION. The statements about the part, for the provers. A docstring names the rules of spec/ a statement rests on, or the log
entry where it rests on the model's own choice. -/

open Sys2Proof Sys2Proof.Machine

/-! ### The queue, power-on, the invariants -/

/-- The queue: the command at its front is what the part does next, with the rest waiting on (the model's choice, log 1). With no
command waiting, a REPLY at the front of the transmitter begins, and with none there nothing changes (the model's choice, logs 1
and 11). -/
def Obligations.StepRunsTheQueue : Prop :=
  (∀ (c : Instr) (rest : List Instr) (s : State), step { s with pending := c :: rest } = exec c { s with pending := rest })
  ∧ (∀ s : State, s.pending = [] →
    (∀ tag body rest, s.cp.tx = .reply tag body :: rest →
      step s = .next { s with cp := { s.cp with tx := rest, begun := s.cp.begun ++ [.reply tag body] } })
    ∧ ((∀ tag body rest, s.cp.tx ≠ .reply tag body :: rest) → step s = .next s))

/-- POWER_ON: the values each chapter gives for power-on. The contents of the profile memory and the commands that wait are no
values of a block and stand (logs 1, 3). That the one RESEND of power-on has been given to the line and counted is log 32's, that
the walk is underway from the first step log 29's, the turn's budget log 17's. -/
def Obligations.PowerOnValues : Prop :=
  ∀ (rate skip : Bool) (unit : BitVec 32) (s : State), ∃ t, exec (.powerOn rate skip unit) s = .next t
    ∧ t.straps = { rateHigh := rate, profileSkip := skip, unit := unit } ∧ t.now = 0
    ∧ t.pm.memory = s.pm.memory ∧ t.pending = s.pending ∧ t.reports = Reports.empty
    ∧ (t.cp.flags = 0 ∧ t.cp.announced = 0 ∧ t.cp.mask = 0 ∧ t.cp.linkErrors = 0 ∧ t.cp.outstanding = [] ∧ t.cp.inFrame = false
      ∧ t.cp.tx = [] ∧ t.cp.begun = [] ∧ t.cp.mode = (if skip then .run else .loading) ∧ t.cp.resetting = none)
    ∧ (t.pbc.node = .asleep ∧ t.pbc.id = 0 ∧ t.pbc.busAuto = false ∧ t.pbc.roster = [] ∧ t.pbc.censusPtr = 0
      ∧ t.pbc.rotationPtr = 0 ∧ t.pbc.lastCensus = 0 ∧ t.pbc.badFrames = 0 ∧ t.pbc.discarded = 0 ∧ t.pbc.inbound = [] ∧ t.pbc.reserved = none
      ∧ t.pbc.activitySeen = false ∧ t.pbc.lastTurn = none ∧ t.pbc.sweepPending = false
      ∧ t.pbc.checkingExpiry = none ∧ t.pbc.silentSince = none ∧ t.pbc.turn.holds = false ∧ t.pbc.work = .idle
      ∧ t.pbc.windowOpen = false ∧ t.pbc.results = [] ∧ t.pbc.tx = []
      ∧ t.pbc.timing = { replyWindow := 200, silence := 4, turnBudget := 4, census := 500, stallLimit := 32, release := 30 })
    ∧ (t.kd.records = [] ∧ t.kd.contexts = [] ∧ t.kd.tapWindow = 300 ∧ t.kd.unassigned = 0 ∧ t.kd.duplicate = 0)
    ∧ (t.rc.sources = [] ∧ t.rc.dests = [] ∧ t.rc.salvos = [] ∧ t.rc.queue = [] ∧ t.rc.fires = [] ∧ t.rc.down = false
      ∧ t.rc.consecutive = 0 ∧ t.rc.badFrames = 0 ∧ t.rc.strays = 0 ∧ t.rc.violations = 0 ∧ t.rc.replyTimer = 50
      ∧ t.rc.nextProbe = none ∧ (∀ d ≤ 255, d ∈ t.rc.querySet ∨ ∃ q ∈ t.rc.queries, q.dest = d) ∧ t.rc.tx = [.xask 0 false, .xask 1 false])
    ∧ (∀ x, t.mm.mixer x =
        { line := .silent
          state := ⟨⟨0, 0, 0, 0, 0, 0⟩, false, ⟨⟨false, 0⟩, ⟨false, 0⟩, ⟨false, 0⟩, ⟨false, 0⟩⟩⟩
          mode := .onAir, stale := 500, withdraw := 5, lastRecord := none, staleExpiry := none, withdrawExpiry := none
          badFrames := 0, outOfRange := 0, records := 0, resends := 1, sent := [.resend] })
    ∧ (t.tr.bindingsA = [] ∧ t.tr.bindingsB = [] ∧ t.tr.positions = [] ∧ t.tr.contributions = [] ∧ t.tr.stops = []
      ∧ t.tr.unbound = 0 ∧ t.tr.resolutions = 0)
    ∧ (t.ld.channels = [] ∧ t.ld.lamps = [] ∧ t.ld.house = 128 ∧ t.ld.floor = 16 ∧ t.ld.step = 8 ∧ t.ld.tick = 40
      ∧ t.ld.nextTick = t.now + 40)
    ∧ (t.te.ports = [] ∧ t.te.groups = [] ∧ t.te.standing = [] ∧ t.te.paths = [] ∧ t.te.refusals = 0 ∧ t.te.liveSkips = 0
      ∧ t.te.guards = [] ∧ t.te.gainTick = 20 ∧ t.te.rampStep = 6 ∧ t.te.nextTick = t.now + 20)
    ∧ t.ml =
        { line := .clearing, muteQueue := [], levelQueue := [], outstanding := [], muteAll := some none, nextPing := none
          replyTimeout := 10, consecutive := 0, timeouts := 0, badFrames := 0, strays := 0, tx := [.muteAll] }
    ∧ t.pm.unacked = 0
    ∧ (if skip then t.pm.op = .idle ∧ t.pm.transfer = none
        else t.pm.transfer = some (.read 0 9)
          ∧ t.pm.op = .walking { request := none, phase := .header, reached := 0, applied := 0, skipped := 0, notLoaded := 0 })

/-- The state right after power-on meets the invariants below: the Control Port's, the settings' ranges, the form of the profile
memory and of the tables, the Panel Bus's, the take queue's, the path table's, that of the target gains and that of the causes,
and that of the image and its transfers. -/
def Obligations.ResetMeetsTheInvariants : Prop :=
  CpInv State.reset ∧ SettingsInRange State.reset ∧ Memory.wf State.reset.pm.memory = true ∧ TableInv State.reset
    ∧ PanelBusInv State.reset ∧ RouterQueueInv State.reset ∧ PathTableInv State.reset ∧ TargetInv State.reset
    ∧ CauseInv State.reset ∧ ImageInv State.reset

/-- R181, R184, R185: from every state that meets it, a step keeps the Control Port's invariant. -/
def Obligations.ControlPortInvariantKept : Prop :=
  ∀ s t : State, CpInv s → step s = .next t → CpInv t

/-- Whatever is taken, these stay in their ranges: the node ID (R7), the six bus timing settings (R28), the tap window and the
router reply timer (R56, R96), each mixer's intervals (R102), the lamps' levels, trims, manual levels, step and tick (R130), the
gain tick and the ramp step (R167), the matrix reply timeout (R170), the eight fields of each port, each with no field its kind
does not have (R143), the members of the groups (R145), the ports and levels of the standing slots (R147), each panel's port and
each key's entry with its level and its latch limit (R32, R33), and the indexes in the source, binding and position records (R60,
R122, R125). -/
def Obligations.SettingsStayInRange : Prop :=
  ∀ s t : State, SettingsInRange s → step s = .next t → SettingsInRange t

/-- The profile memory keeps its canonical form (the model's, logs 3 and 27), no cell past its 32 KiB. R195, R197, R198: a
transfer in progress lies within the memory, whatever walk or save made it and whatever is requested during a save; what that
rests on, the tables whose records a save writes standing within their bounds (R32, R33, R62, R67, R70, R145, R147), is kept with
it. So the one fault, that of a transfer past the memory, is out of reach: a state that meets the invariant takes its step. -/
def Obligations.ProfileMemoryFormKept : Prop :=
  (∀ s t : State, Memory.wf s.pm.memory = true → step s = .next t → Memory.wf t.pm.memory = true)
  ∧ (∀ s t : State, ImageInv s → step s = .next t → ImageInv t)
  ∧ ∀ s : State, ImageInv s → Runs s

/-- R3, R62: the roster lists node IDs 1 to 63 in ascending order, each once, the destination records stand in ascending order,
and a step keeps them so. -/
def Obligations.TableFormsKept : Prop :=
  ∀ s t : State, TableInv s → step s = .next t → TableInv t

/-- R3, R5, R20, R23, R25: a step keeps the roster free of the hub's own ID, the inbound buffer within its four slots, the dirty
set of every MEMBER in form, and every key whose sent image is not its desired one in that set, while no notice of the panel waits
for KD (the notices wait by the model's choice, log 6). What R3 and R23 ask of probes, sweeps and reservations stands among the
clauses. -/
def Obligations.PanelBusInvariantKept : Prop :=
  ∀ s t : State, PanelBusInv s → step s = .next t → PanelBusInv t

/-- R79, R81: a step keeps the take queue within 32 entries, one WAITING and one SENT at most of each destination, the window
within two places, and no place of it free while there is something to send. R87: the query set stands in ascending order. The
serial numbers of fires are the model's (log 19). -/
def Obligations.RouterQueueInvariantKept : Prop :=
  ∀ s t : State, RouterQueueInv s → step s = .next t → RouterQueueInv t

/-- R147, R150, R155, R169, R170, R175: a step keeps the path table within its pools and each entry OPEN exactly while it has a
cause, each defined slot's cause in the pool, at most four GAINs outstanding, every SENT entry with its GAIN outstanding, and, on
an UP line, every DIRTY entry in its queue. R173, R174: a CLOSING entry that an UP line holds CLEAN at MUTE, and every one on a
DOWN line, has its removal report waiting. That TE's soft reset takes an UP line to CLEARING first is the model's choice (log 23).
-/
def Obligations.PathTableInvariantKept : Prop :=
  ∀ s t : State, PathTableInv s → step s = .next t → PathTableInv t

/-- R162: between events every path entry has the target gain that R163 to R165 give it, whatever event changed its causes, its
ports, the guards or the entries it reads: a step keeps it so, where the settings lie in their ranges and the path table meets its
invariant. The guard states are those TR has reported to TE (the model's reading, log 6). -/
def Obligations.TargetsFollowTheirInputs : Prop :=
  ∀ s t : State, SettingsInRange s → PathTableInv s → TargetInv s → step s = .next t → TargetInv t

/-- R150: one origin gives at most one cause for a pair, whatever is pressed, set, reported or reset in whatever order: a step
keeps it so, where the settings, the path table and the ports of the entries meet their invariants. A cause that a RESET left
standing gives way to its key's new one (log 47). -/
def Obligations.OneCauseOfAnOrigin : Prop :=
  ∀ s t : State, SettingsInRange s → PathTableInv s → TargetInv s → CauseInv s → step s = .next t → CauseInv t

/-! ### The lines' frames -/

/-- R180, R203 to R205: the bytes of every well-formed command that is a received frame are heard as that command, on the Control
Line after the SYNC_FOUND_WHILE_HUNTING of its SYNC. There what a HUNTING receiver gets before a SYNC is dropped; a frame with a
wrong check or a LEN above 240 is heard as its SYNC and a discard, and the receiver hunts on after it (log 9). Frames spelled byte
by byte by the layouts and checks of chapter 12 (R203 to R205), and two with a wrong check. -/
def Obligations.LineFramesAreHeard : Prop :=
  ((∀ (i : Instr) (l : Line) (bytes : List Byte), i.wellFormed = true → lineFrame i = some (l, bytes) →
    hear l bytes = if l = .control then [.syncFoundWhileHunting, i] else [i])
  ∧ ∀ dropped : List Byte, (∀ b ∈ dropped, b ≠ 0x7E) →
      hear .control dropped = []
      ∧ (∀ (i : Instr) (bytes more : List Byte), i.wellFormed = true → lineFrame i = some (.control, bytes) →
          hear .control (dropped ++ bytes ++ more) = [.syncFoundWhileHunting, i] ++ hear .control more)
      ∧ (∀ (len kind tag : Byte) (body check more : List Byte), body.length = len.toNat → len.toNat ≤ 240 → check.length = 2 →
          check ≠ crcBytes ([len, kind, tag] ++ body) →
          hear .control (dropped ++ [0x7E, len, kind, tag] ++ body ++ check ++ more) =
            [.syncFoundWhileHunting, .controlFrameDiscard] ++ hear .control more)
      ∧ ∀ (len : Byte) (more : List Byte), 240 < len.toNat →
          hear .control (dropped ++ [0x7E, len] ++ more) = [.syncFoundWhileHunting, .controlFrameDiscard] ++ hear .control more)
  ∧ (crc16 [0x31, 0x32, 0x33, 0x34, 0x35, 0x36, 0x37, 0x38, 0x39] = 0x29B1
    ∧ hear .router [0x02, 0x20, 0x05, 0x09, 0xD2] = [.xdone 5 9]
    ∧ hear .router [0x02, 0x20, 0x05, 0x09, 0xD3] = [.routerBadFrame]
    ∧ hear (.mixer .b) [0x16, 0x34, 0xCC] = [.aliveRecord .b]
    ∧ hear (.mixer .a) [0x16, 0x31, 0x00, 0x07, 0xC8] = [.busRecord .a 0 7]
    ∧ hear .matrix [0x5A, 0x61, 0x03, 0x04, 0x98] = [.gainOk 3 4]
    ∧ hear .matrix [0x5A, 0x63, 0x9D] = [.pong]
    ∧ hear .control [0x7E, 0x00, 0x26, 0x11, 0x62, 0xCC] = [.syncFoundWhileHunting, .identify 0x11 []]
    ∧ hear .control [0x7E, 0x00, 0x26, 0x11, 0x62, 0xCD] = [.syncFoundWhileHunting, .controlFrameDiscard]
    ∧ hear .panelBus [0xC5, 0x01, 0x01, 0x14, 0x9A, 0x28] = [.passReceived 20])

/-! ### Requests -/

/-- R181, R183: the checks of a clean request in their order, the first that fails deciding the answer; a refusal carries the code
alone and changes nothing. A kind the part does not know is answered UNKNOWN. R182: what an answer made at once leaves of CP: one
REPLY with the request's tag and kind, its code and its content, and the outstanding-request list as it was. R183: which class each
kind of request has, by the catalogue of 10.6, and what each mode of the part admits. The class of SET-LAMP, LAMP-TIMING and
GAIN-TIMING is given for every body of theirs: that a malformed body with a presence byte other than 0 is a configuration request,
and one without its presence byte a read request, is the model's choice (DESIGN CHOICE, log 50). -/
def Obligations.RequestChecksInOrder : Prop :=
  ((∀ (i : Instr) (kind tag : Byte) (body : List Byte) (s : State),
    requestParts i = some (kind, tag, body) → i.wellFormed = true →
      ((tag = 0 ∨ ∃ o ∈ s.cp.outstanding, o.tag = tag) → Refuses i s tag kind .malformed)
      ∧ (tag ≠ 0 → (∀ o ∈ s.cp.outstanding, o.tag ≠ tag) →
          (8 ≤ s.cp.outstanding.length → Refuses i s tag kind .full)
          ∧ (s.cp.outstanding.length < 8 → knownKind kind = false → Refuses i s tag kind .unknown)
          ∧ (s.cp.outstanding.length < 8 → knownKind kind = true → admits s (requestClass i) = false →
              Refuses i s tag kind .state)))
  ∧ ∀ (kind tag : Byte) (body : List Byte) (s : State), knownKind kind = false → Admitted .always tag body s →
      Refuses (.unknownKind kind tag body) s tag kind .unknown)
  ∧ (∀ (tag kind : Byte) (code : Code) (content : List Byte) (s u : State),
    (∀ o ∈ s.cp.outstanding, o.tag ≠ tag) → u.cp = (taken tag kind s).cp →
      Answered s (announce (makeReply tag kind code content (endRequest tag u))) tag kind code content 0)
  ∧ ((∀ (i : Instr) (kind tag : Byte) (body : List Byte), requestParts i = some (kind, tag, body) → i.wellFormed = true →
    (kind ∈ [0x25, 0x26] → requestClass i = .always)
    ∧ (kind ∈ [0x06, 0x0A, 0x0F, 0x14, 0x16, 0x1A, 0x22, 0x24] → requestClass i = .read)
    ∧ (kind ∈ [0x04, 0x05, 0x0C, 0x0D, 0x10, 0x11, 0x12, 0x15, 0x19, 0x1B, 0x27, 0x28] → requestClass i = .live)
    ∧ (kind ∈ [0x01, 0x02, 0x03, 0x07, 0x08, 0x09, 0x0B, 0x0E, 0x13, 0x17, 0x18, 0x1E, 0x1F, 0x20, 0x21] →
        requestClass i = .config)
    ∧ (kind ∈ [0x2A, 0x2B] → requestClass i = .profile) ∧ (kind = 0x29 → requestClass i = .reset)
    ∧ (kind ∈ [0x1D, 0x23] → requestClass i = if body.getD 0 0 = 0 then .read else .config)
    ∧ (kind = 0x1C → requestClass i = if body.getD 1 0 = 0 then .read else .config))
  ∧ ∀ s : State,
      let operating := (∃ w, s.pm.op = .walking w ∧ w.request ≠ none) ∨ ∃ sv, s.pm.op = .saving sv
      admits s .always = true
      ∧ (s.cp.mode = .loading ∨ s.cp.resetting ≠ none → ∀ c, c ≠ .always → admits s c = false)
      ∧ (s.cp.mode = .run → s.cp.resetting = none →
          admits s .read = true ∧ admits s .live = true ∧ admits s .reset = true
          ∧ (operating → admits s .config = false ∧ admits s .profile = false)
          ∧ (¬ operating → admits s .config = true ∧ admits s .profile = true)))

/-- R186: ATTN is asserted while at least one of the ten flags is both set and enabled. The premise rules out states with a flag
that is none of the ten; `ControlPortInvariantKept` says that no step sets one. It depends on the flags and the mask alone, not on
announced marks or NOTICEs; it is released at power-on, at CP's own soft reset, and at the event of a CLEAR-FLAGS that clears
every enabled flag. -/
def Obligations.AttnFollowsFlagsAndMask : Prop :=
  (∀ cp : Cp, cp.flags &&& ~~~allFlags = 0 →
    (cp.attn = true ↔ ∃ f : Flag, cp.flags &&& f.bit ≠ 0 ∧ cp.mask &&& f.bit ≠ 0))
  ∧ (∀ cp cp' : Cp, cp.flags = cp'.flags → cp.mask = cp'.mask → cp.attn = cp'.attn)
  ∧ (∀ (rate skip : Bool) (unit : BitVec 32) (s : State), ∃ t, exec (.powerOn rate skip unit) s = .next t ∧ t.cp.attn = false)
  ∧ (∀ s : State, (softReset .cp s).cp.attn = false)
  ∧ ∀ (tag hi lo : Byte) (s : State), Admitted .live tag [hi, lo] s → (hi ++ lo : FlagSet) &&& ~~~allFlags = 0 →
      s.cp.flags &&& s.cp.mask &&& ~~~(hi ++ lo) = 0 → ∃ t, exec (.clearFlags tag [hi, lo]) s = .next t ∧ t.cp.attn = false

/-- R187, R188: SET-MASK and CLEAR-FLAGS with a set of known flags: the mask or the flags, the announced marks, the reply, and
everything else unchanged. R189, R190: STATUS and IDENTIFY are answered in every mode and change nothing. The layout of STATUS's
reply is log 14's; that STATUS itself is counted and listed among the outstanding requests is the model's choice (log 25). -/
def Obligations.ControlPortRequestsTakeEffect : Prop :=
  (∀ (tag hi lo : Byte) (s : State), Admitted .live tag [hi, lo] s → (hi ++ lo : FlagSet) &&& ~~~allFlags = 0 →
    (∃ t, exec (.setMask tag [hi, lo]) s = .next t ∧ OnlyChanges [.cp] s t
      ∧ t.cp.mask = hi ++ lo ∧ t.cp.flags = s.cp.flags ∧ t.cp.announced = s.cp.announced ||| (s.cp.flags &&& (hi ++ lo))
      ∧ replies t.cp = replies s.cp ++ [.reply tag (0x27 :: 0 :: hi :: lo :: flagSetBytes s.cp.flags)]
      ∧ t.cp.outstanding = s.cp.outstanding ∧ t.cp.linkErrors = s.cp.linkErrors ∧ t.cp.begun = s.cp.begun
      ∧ t.cp.mode = s.cp.mode ∧ t.cp.resetting = s.cp.resetting ∧ t.cp.inFrame = false)
    ∧ (∃ t, exec (.clearFlags tag [hi, lo]) s = .next t ∧ OnlyChanges [.cp] s t
      ∧ t.cp.flags = s.cp.flags &&& ~~~(hi ++ lo) ∧ t.cp.mask = s.cp.mask
      ∧ t.cp.announced = (s.cp.announced &&& ~~~(hi ++ lo)) ||| (t.cp.flags &&& s.cp.mask)
      ∧ replies t.cp = replies s.cp ++ [.reply tag (0x28 :: 0 :: flagSetBytes t.cp.flags)]
      ∧ t.cp.outstanding = s.cp.outstanding ∧ t.cp.linkErrors = s.cp.linkErrors ∧ t.cp.begun = s.cp.begun
      ∧ t.cp.mode = s.cp.mode ∧ t.cp.resetting = s.cp.resetting ∧ t.cp.inFrame = false))
  ∧ (∀ (tag : Byte) (s : State), Admitted .always tag [] s →
    (∃ t, exec (.identify tag []) s = .next t ∧ OnlyChanges [.cp] s t
      ∧ Answered s t tag 0x26 .ok ([0x1C, 0x4B, 0x36, 0x20, 0x01] ++ e4 s.straps.unit) 0)
    ∧ (∃ t, exec (.status tag []) s = .next t ∧ OnlyChanges [.cp] s t
      ∧ Answered s t tag 0x25 .ok
          (eBool (s.cp.mode == .run) ++ e1 s.pm.operation ++ eBool s.cp.resetting.isSome ++ e1 s.pbc.node.code ++ e1 s.pbc.id
            ++ eBool s.rc.down ++ e1 s.ml.line.code ++ e1 s.mm.a.line.code ++ e1 s.mm.b.line.code
            ++ flagSetBytes s.cp.flags ++ flagSetBytes s.cp.announced ++ flagSetBytes s.cp.mask ++ eBool s.cp.attn
            ++ e2 s.cp.linkErrors ++ e2 (s.cp.outstanding.length + 1)
            ++ (s.cp.outstanding ++ [(⟨tag, 0x25⟩ : Outstanding)]).flatMap (fun (o : Outstanding) => [o.tag, o.kind])
            ++ eBool (s.cp.tx.any (·.isNotice))) 0))

/-- A request without fields refuses a body, and an index past its range is refused, with nothing changed, by the owning block's
checks behind those of R181 (R7, R27, R57, R64, R67, R92, R94, R122, R126, R139, R149, R202, R203). That the form of a body and then
its ranges come before the state, so that SWEEP-NOW in every node state (R16), TAKE-CANCEL with nothing waiting (R93) and
PROFILE-LOAD on the bus (R200) answer a body MALFORMED and not STATE, and SET-NODE and FIRE-SALVO an index out of range RANGE in
every state, is the model's reading where the request's own rule gives no order (DEDUCED, log 13). -/
def Obligations.WrongBodiesAreRefused : Prop :=
  ∀ (tag b c d : Byte) (body : List Byte) (s : State),
    (body ≠ [] → Admitted .live tag body s →
      Refuses (.sweepNow tag body) s tag 0x04 .malformed ∧ Refuses (.takeCancel tag body) s tag 0x11 .malformed)
    ∧ (body ≠ [] → Admitted .read tag body s → Refuses (.readMatrix tag body) s tag 0x24 .malformed)
    ∧ (body ≠ [] → Admitted .always tag body s →
        Refuses (.status tag body) s tag 0x25 .malformed ∧ Refuses (.identify tag body) s tag 0x26 .malformed)
    ∧ (body ≠ [] → Admitted .reset tag body s → Refuses (.reset tag body) s tag 0x29 .malformed)
    ∧ (body ≠ [] → Admitted .profile tag body s →
        Refuses (.profileSave tag body) s tag 0x2A .malformed ∧ Refuses (.profileLoad tag body) s tag 0x2B .malformed)
    ∧ (63 < b.toNat → Admitted .config tag [b] s → Refuses (.setNode tag [b]) s tag 0x01 .range)
    ∧ (b = 0 ∨ 63 < b.toNat → Admitted .live tag [b] s → Refuses (.forget tag [b]) s tag 0x05 .range)
    ∧ (63 < b.toNat → Admitted .live tag [b] s → Refuses (.fireSalvo tag [b]) s tag 0x12 .range)
    ∧ (23 < b.toNat → Admitted .live tag [b, c] s → Refuses (.call tag [b, c]) s tag 0x19 .range)
    ∧ (23 < b.toNat → Admitted .config tag [b, c] s → Refuses (.setPosition tag [b, c]) s tag 0x18 .range)
    ∧ (127 < b.toNat → Admitted .config tag [b] s → Refuses (.dropStanding tag [b]) s tag 0x21 .range)
    ∧ (23 < b.toNat → ∀ fs, presence [1, 2, 1] body = some fs → okIf (· ≤ 1) (fieldAt fs 2) = true →
        Admitted (readbackClass 1 (b :: body)) tag (b :: body) s → Refuses (.setLamp tag (b :: body)) s tag 0x1C .range)
    ∧ (b = 0 ∨ 63 < b.toNat → ∀ skip, skipOf body = some skip → Admitted .read tag (b :: body) s →
        Refuses (.readPanel tag (b :: body)) s tag 0x0A .range)
    ∧ (b ≠ 0 → Admitted .live tag [b, c, 0] s →
        Refuses (.setDest tag [b, c, 0]) s tag 0x0C .range ∧ Refuses (.protect tag [b, c, 0]) s tag 0x0D .range)
    ∧ (b ≠ 0 → Admitted .live tag [b, c, 0, d] s → Refuses (.take tag [b, c, 0, d]) s tag 0x10 .range)

/-! ### The Control Line, RESET and time -/

/-- R180: IN-FRAME, a frame discarded, by CONTROL_FRAME_DISCARD or by CONTROL_GAP_EXPIRY, is counted, sets LINK and leaves the
receiver HUNTING; what comes while HUNTING is counted nowhere (logs 4, 9). SYNC puts it IN-FRAME. R185, in the terms of every
command's end: the flags set, enabled and not announced take their announced marks and are carried by one NOTICE, the waiting one
if there is one; with none due nothing changes. Afterwards none is due. R185: a waiting NOTICE, no flag being due, begins behind
the frames made before it and reports the whole flag set as it stands then. With no NOTICE waiting the event changes nothing (log
4); the frames made before it have begun by then (log 11). -/
def Obligations.ControlLineEvents : Prop :=
  (∀ s : State,
    (∀ i, i = .controlFrameDiscard ∨ i = .controlGapExpiry →
      (s.cp.inFrame = true → EndsIn i s
        { s with
          cp := { s.cp with
            flags := s.cp.flags ||| 512
            inFrame := false
            linkErrors := if s.cp.linkErrors < 65535 then s.cp.linkErrors + 1 else s.cp.linkErrors } })
      ∧ (s.cp.inFrame = false → EndsIn i s s))
    ∧ EndsIn .syncFoundWhileHunting s { s with cp := { s.cp with inFrame := true } })
  ∧ (∀ s : State,
    (announce s).cp.due = 0 ∧ OnlyChanges [.cp] s (announce s)
    ∧ (s.cp.due = 0 → announce s = s)
    ∧ (s.cp.due ≠ 0 →
        (announce s).cp.announced = s.cp.announced ||| (s.cp.flags &&& s.cp.mask) ∧ (announce s).cp.flags = s.cp.flags
        ∧ (announce s).cp.mask = s.cp.mask ∧ (announce s).cp.outstanding = s.cp.outstanding
        ∧ ((∀ f ∈ s.cp.tx, f.isNotice = false) → (announce s).cp.tx = s.cp.tx ++ [.notice s.cp.due none])
        ∧ (∀ front c r rest, s.cp.tx = front ++ .notice c r :: rest → (∀ f ∈ front, f.isNotice = false) →
            (announce s).cp.tx = front ++ .notice (c ||| s.cp.due) r :: rest)))
  ∧ (∀ s : State, s.cp.due = 0 →
    (∀ front carried r rest, s.cp.tx = front ++ .notice carried r :: rest → (∀ f ∈ front, f.isNotice = false) →
      exec .noticeTransmitStart s = .next
        { s with cp := { s.cp with tx := rest, begun := s.cp.begun ++ front ++ [.notice carried (some s.cp.flags)] } })
    ∧ ((∀ f ∈ s.cp.tx, f.isNotice = false) → exec .noticeTransmitStart s = .next s))

/-- R191: RESET discards the other outstanding requests and the frames that wait; each block takes its soft reset once, and with
the last of them RESET is answered OK. A frame begun is no longer among those that wait (log 11), and a block not awaited changes
nothing (log 4). -/
def Obligations.ResetRunsThroughTheBlocks : Prop :=
  (∀ (tag : Byte) (s : State), Admitted .reset tag [] s → s.cp.due = 0 →
    exec (.reset tag []) s = .next
      { s with
        cp := { s.cp with
          inFrame := false
          outstanding := [⟨tag, 0x29⟩]
          tx := []
          resetting := some { tag := tag, left := [.cp, .pbc, .kd, .rc, .mm, .tr, .ld, .te, .ml, .tb, .pm] } } })
  ∧ (∀ (b : Block) (r : Resetting) (s : State), s.cp.resetting = some r → b ∈ r.left → r.left.filter (· != b) ≠ [] →
      EndsIn (.blockSoftReset b) s
        { softReset b s with
          cp := { (softReset b s).cp with resetting := some { tag := r.tag, left := r.left.filter (· != b) } } })
  ∧ (∀ (b : Block) (r : Resetting) (s : State), s.cp.resetting = some r → b ∈ r.left → r.left.filter (· != b) = [] →
      s.cp.outstanding = [⟨r.tag, 0x29⟩] →
      EndsIn (.blockSoftReset b) s
        (makeReply r.tag 0x29 .ok []
          { softReset b s with cp := { (softReset b s).cp with resetting := none, outstanding := [] } }))
  ∧ (∀ (b : Block) (s : State), (∀ r, s.cp.resetting = some r → b ∉ r.left) → EndsIn (.blockSoftReset b) s s)

/-- What the soft reset of each block leaves and what it keeps, the reports that wait among it. TE records the causes of the
standing slots again, each entry at the highest of their levels. PBC's sets ROSTER where it removes an entry (R6, R191). The
model's choices: what waits for a block, and what TR, LD and TE leave whatever the order of their resets (logs 20, 22, 23 and 35),
what a join, a key press or a report between two blocks' resets leaves (log 47), RC's reset setting no ROUTER flag and leaving CP
as it was, from a DOWN line too (log 44), while the frames chosen for the router stand (R78) and the probe stops, the frames the
Matrix Line drops (log 21), the RESEND sent behind those given before (log 32), the turn's start and budget (log 17), and the
hub's frames dropped (log 18). -/
def Obligations.SoftResetOfEachBlock : Prop :=
  ∀ s : State,
    let awaited (b : Block) : Prop := ∃ r, s.cp.resetting = some r ∧ b ∈ r.left
    let rebuilt (colours : Nat → Colours) (new : Ld) : Prop :=
      new = { s.ld with channels := new.channels, lamps := new.lamps }
      ∧ (∀ p, new.lamp p = { s.ld.lamp p with phase := none })
      ∧ ∀ p < 24, ∀ n c, (n, c) ∈ [(0, Colour.red), (1, .green), (2, .amber)] →
          let lit := if (s.ld.lamp p).exclusive then (colours p).highest == some c else (colours p).has c
          let level := if lit then s.ld.litTarget p else 0
          new.channel (3 * p + n) =
            { lit := lit, target := level, level := level, output := level, pin := (s.ld.channel (3 * p + n)).pin }
    softReset .cp s = { s with cp := { s.cp with flags := 0, announced := 0, linkErrors := 0 } }
    ∧ (OnlyChanges [.cp, .pbc] s (softReset .pbc s)
      ∧ (softReset .pbc s).cp = { s.cp with flags := if s.pbc.roster = [] then s.cp.flags else s.cp.flags ||| 1 }
      ∧ (softReset .pbc s).pbc.id = s.pbc.id ∧ (softReset .pbc s).pbc.busAuto = s.pbc.busAuto
      ∧ (softReset .pbc s).pbc.timing = s.pbc.timing ∧ (softReset .pbc s).pbc.lastCensus = s.now
      ∧ (softReset .pbc s).pbc.roster = [] ∧ (softReset .pbc s).pbc.inbound = [] ∧ (softReset .pbc s).pbc.reserved = none
      ∧ (softReset .pbc s).pbc.badFrames = 0 ∧ (softReset .pbc s).pbc.discarded = 0
      ∧ (softReset .pbc s).pbc.censusPtr = 0 ∧ (softReset .pbc s).pbc.rotationPtr = 0
      ∧ (softReset .pbc s).pbc.activitySeen = false ∧ (softReset .pbc s).pbc.lastTurn = none
      ∧ (softReset .pbc s).pbc.sweepPending = false ∧ (softReset .pbc s).pbc.silentSince = none
      ∧ (softReset .pbc s).pbc.results = [] ∧ (softReset .pbc s).pbc.windowOpen = false ∧ (softReset .pbc s).pbc.tx = []
      ∧ (softReset .pbc s).pbc.turn.holds = false ∧ (softReset .pbc s).pbc.work = .idle
      ∧ (softReset .pbc s).pbc.node = (if s.pbc.id = 0 then .asleep else if s.pbc.busAuto then .checking else .listening)
      ∧ (s.pbc.id ≠ 0 → s.pbc.busAuto = true → (softReset .pbc s).pbc.checkingExpiry = some (s.now + 400)))
    ∧ (OnlyChanges [.kd, .reports] s (softReset .kd s)
      ∧ (softReset .kd s).kd = { s.kd with contexts := [], unassigned := 0, duplicate := 0 }
      ∧ (softReset .kd s).reports = { s.reports with
          kdPanels := [], kdFromTr := [], kdFromTe := [], kdFromRc := [], kdOutcomes := [], kdFires := [] })
    ∧ (OnlyChanges [.cp, .rc, .reports] s (softReset .rc s)
      ∧ (softReset .rc s).cp = s.cp ∧ (softReset .rc s).rc.queue = [] ∧ (softReset .rc s).rc.fires = []
      ∧ (softReset .rc s).rc.down = false ∧ (softReset .rc s).rc.consecutive = 0 ∧ (softReset .rc s).rc.strays = 0
      ∧ (softReset .rc s).rc.badFrames = 0 ∧ (softReset .rc s).rc.violations = 0
      ∧ (softReset .rc s).rc.sources = s.rc.sources ∧ (softReset .rc s).rc.salvos = s.rc.salvos
      ∧ (softReset .rc s).rc.replyTimer = s.rc.replyTimer ∧ (softReset .rc s).rc.nextProbe = none
      ∧ (softReset .rc s).rc.tx = s.rc.tx ++ [.xask 0 false, .xask 1 false]
      ∧ (∀ d, (softReset .rc s).rc.dest d = ⟨(s.rc.dest d).confirmed, none, none⟩)
      ∧ (∀ d ≤ 255, d ∈ (softReset .rc s).rc.querySet ∨ ∃ q ∈ (softReset .rc s).rc.queries, q.dest = d)
      ∧ (softReset .rc s).reports = { s.reports with rcReleases := [] })
    ∧ (OnlyChanges [.mm] s (softReset .mm s)
      ∧ ∀ x, (softReset .mm s).mm.mixer x =
          { line := .silent
            state := ⟨⟨0, 0, 0, 0, 0, 0⟩, false, ⟨⟨false, 0⟩, ⟨false, 0⟩, ⟨false, 0⟩, ⟨false, 0⟩⟩⟩
            mode := (s.mm.mixer x).mode, stale := (s.mm.mixer x).stale, withdraw := (s.mm.mixer x).withdraw
            lastRecord := none, staleExpiry := none, withdrawExpiry := none, badFrames := 0, outOfRange := 0, records := 0
            resends := 1, sent := (s.mm.mixer x).sent ++ [.resend] })
    ∧ (let t := softReset .tr s
      OnlyChanges [.tr, .ld, .te, .ml, .reports] s t
      ∧ t.tr.bindingsA = s.tr.bindingsA ∧ t.tr.bindingsB = s.tr.bindingsB ∧ t.tr.resolutions = 1
      ∧ (awaited .mm → t.tr.contributions = []) ∧ (¬ awaited .mm → t.tr.contributions = contributionsOf s.mm)
      ∧ (t.tr.contributions = [] → t.tr.unbound = 0 ∧ t.tr.stops = [])
      ∧ (∀ p < 24, (t.tr.position p).port = (s.tr.position p).port ∧ (t.tr.position p).hostCall = none
        ∧ (t.tr.position p).keyCalls = []
        ∧ ∀ c, (t.tr.position p).colours.has c = true ↔
            ∃ k ∈ t.tr.contributions, k.colour = c ∧ p ∈ (walk s.rc (s.tr.binding k.mixer k.input)).visited)
      ∧ t.reports =
          { s.reports with trFromMm := [], trFromRc := 0, ldRelights := [], ldCalls := [], teFromTr := [] }
      ∧ (awaited .ld → t.ld = s.ld) ∧ (¬ awaited .ld → rebuilt (fun p => (t.tr.position p).colours) t.ld)
      ∧ (awaited .te → t.te = s.te ∧ t.ml = s.ml)
      ∧ (¬ awaited .te → t.te = { s.te with paths := t.te.paths, guards := t.te.guards }
          ∧ (∀ p < 24, p ∈ t.te.guards ↔ (t.tr.position p).colours.red = true)
          ∧ ∀ key e p, tfind t.te.paths key = some e → p < 24 → (s.te.port e.listener).guardPos = some p →
              e.target = targetGain t.te e))
    ∧ (let t := softReset .ld s
      OnlyChanges [.ld, .reports] s t
      ∧ (awaited .tr → rebuilt (fun _ => ⟨false, false, false⟩) t.ld
          ∧ t.reports = { s.reports with ldRelights := [], ldCalls := [] })
      ∧ (¬ awaited .tr → rebuilt (fun p => (s.tr.position p).colours) t.ld
          ∧ t.reports = { s.reports with ldRelights := [] }))
    ∧ (let t := softReset .te s
      OnlyChanges [.te, .ml, .reports] s t
      ∧ t.te = { s.te with refusals := 0, liveSkips := 0, paths := t.te.paths, guards := t.te.guards }
      ∧ (awaited .tr → t.te.guards = [])
      ∧ (¬ awaited .tr → ∀ p, p ∈ t.te.guards ↔ p < 24 ∧ (s.tr.position p).colours.red = true)
      ∧ (∀ kv ∈ t.te.paths, kv.2.opened = true ∧ kv.2.target = targetGain t.te kv.2 ∧ kv.2.current = kv.2.target
        ∧ kv.2.sentValue = .mute ∧ kv.2.sync = (if kv.2.current = .mute then .clean else .dirty)
        ∧ kv.1 = pairKey kv.2.talker kv.2.listener
        ∧ (∃ c ∈ kv.2.causes, c.level = kv.2.level) ∧ (∀ c ∈ kv.2.causes, c.level ≤ kv.2.level)
        ∧ ∀ c ∈ kv.2.causes, ∃ x ∈ s.te.standing,
            kv.1 = pairKey x.2.talker x.2.listener ∧ c = { origin := .standing x.1, level := x.2.level })
      ∧ (∀ x ∈ s.te.standing, ∃ e, t.te.entry x.2.talker x.2.listener = some e ∧ e.opened = true
          ∧ { origin := .standing x.1, level := x.2.level } ∈ e.causes)
      ∧ t.reports = { s.reports with teFromTr := [], teFromMl := [] }
      ∧ t.ml =
          if s.ml.line = .up then
            { s.ml with
              line := .clearing, muteQueue := [], levelQueue := [], outstanding := [], muteAll := some none, nextPing := none
              consecutive := 0, tx := s.ml.tx.take 1 ++ [.muteAll] }
          else { s.ml with muteQueue := [], levelQueue := [] })
    ∧ (OnlyChanges [.te, .ml] s (softReset .ml s)
      ∧ (softReset .ml s).te = { s.te with paths := (softReset .ml s).te.paths }
      ∧ (softReset .ml s).te.paths =
          s.te.paths.map (fun kv => (kv.1, { kv.2 with sync := if kv.2.sync = .sent then .dirty else kv.2.sync }))
      ∧ (softReset .ml s).ml =
          { s.ml with
            line := .clearing, muteQueue := [], levelQueue := [], outstanding := [], muteAll := some none, nextPing := none
            consecutive := 0, timeouts := 0, badFrames := 0, strays := 0, tx := s.ml.tx.take 1 ++ [.muteAll] })
    ∧ softReset .tb s = s
    ∧ softReset .pm s = { s with pm := { s.pm with op := .idle, transfer := none, unacked := 0 } }

/-! ### Reading back -/

/-- R203: a long list is given as its whole length, the number of items given, and those items, from the skip count on, as many as
fit: what follows would not. What its rule names before and after the list stands there. R29, R57, R74, R97, R111, R127, R159, R177:
the eight read requests are answered at once with what they read, and change nothing. READ-DEST refuses a first index above 255, and
a count outside 1 to 32, RANGE. R202: what each of the eight gives, byte by byte from the fields its rule names: the entries of each
long list, what stands before it and after it, and the replies without one. The layout of their contents, and where a rule's order
puts the long list, are log 14's; that an ID of 0 is not in the ring is log 49's. -/
def Obligations.ReadRequestsAnswer : Prop :=
  (∀ (front tail : List Byte) (items : List (List Byte)) (skip : Nat), front.length + tail.length + 6 ≤ 240 →
    ∃ given rest, items.drop skip = given ++ rest
      ∧ longList front items skip tail = front ++ e2 items.length ++ e2 given.length ++ given.flatten ++ tail
      ∧ (longList front items skip tail).length + 2 ≤ 240
      ∧ ∀ x xs, rest = x :: xs → 240 < (longList front items skip tail).length + 2 + x.length)
  ∧ (∀ (tag : Byte) (s : State),
    let answers (i : Instr) (kind : Byte) (content : List Byte) : Prop :=
      ∃ t, exec i s = .next t ∧ OnlyChanges [.cp] s t ∧ Answered s t tag kind .ok content 0
    (∀ body skip, Admitted .read tag body s → skipOf body = some skip →
      answers (.readRoster tag body) 0x06 (longList (rosterFront s.pbc) (s.pbc.roster.map rosterBytes) skip [])
      ∧ answers (.readQueue tag body) 0x14 (longList (queueFront s.rc) (s.rc.queue.map (queueBytes s)) skip (queueTail s)))
    ∧ (∀ n body skip, Admitted .read tag (n :: body) s → skipOf body = some skip → 1 ≤ n.toNat → n.toNat ≤ 63 →
        answers (.readPanel tag (n :: body)) 0x0A (longList (panelFront s n.toNat) (keyItems s n.toNat) skip []))
    ∧ (∀ d c body skip, Admitted .read tag (0 :: 0 :: d :: c :: body) s → skipOf body = some skip → 1 ≤ c.toNat → c.toNat ≤ 32 →
        answers (.readDest tag (0 :: 0 :: d :: c :: body)) 0x0F
          (longList [] (((List.range' d.toNat c.toNat).filter (· ≤ 255)).map (recordBytes s.rc)) skip (destTail s.rc)))
    ∧ (∀ hi d c body skip, Admitted .read tag (0 :: hi :: d :: c :: body) s → skipOf body = some skip →
        hi ≠ 0 ∨ c = 0 ∨ 32 < c.toNat → Refuses (.readDest tag (0 :: hi :: d :: c :: body)) s tag 0x0F .range)
    ∧ (∀ n body skip, Admitted .read tag (1 :: n :: body) s → skipOf body = some skip → n.toNat ≤ 63 →
        answers (.readDest tag (1 :: n :: body)) 0x0F
          (longList (eBool (!(s.rc.salvo n.toNat).isEmpty)) ((s.rc.salvo n.toNat).map fun p => e2 p.1 ++ e2 p.2) skip
            (e2 (s.rc.firesOf n.toNat) ++ destTail s.rc)))
    ∧ (Admitted .read tag [0] s →
        answers (.readMixer tag [0]) 0x16 (mixerBytes s.now s.mm.a) ∧ answers (.readPaths tag [0]) 0x22 (summaryBytes s))
    ∧ (Admitted .read tag [1] s → answers (.readMixer tag [1]) 0x16 (mixerBytes s.now s.mm.b))
    ∧ (Admitted .read tag [2] s →
        answers (.readMixer tag [2]) 0x16 (mixerBytes s.now s.mm.a ++ mixerBytes s.now s.mm.b))
    ∧ (∀ body skip, Admitted .read tag (0 :: body) s → skipOf body = some skip →
        answers (.readTally tag (0 :: body)) 0x1A (longList [] ((List.range 24).map (positionBytes s)) skip (tallyTail s.tr)))
    ∧ (∀ x, Admitted .read tag [1, BitVec.ofNat 8 (mixerCode x)] s →
        answers (.readTally tag [1, BitVec.ofNat 8 (mixerCode x)]) 0x1A (bindingsContent s.tr x))
    ∧ (∀ p body skip, Admitted .read tag (1 :: p :: body) s → skipOf body = some skip → p.toNat ≤ 95 →
        answers (.readPaths tag (1 :: p :: body)) 0x22
          (longList (portFront s.te p.toNat)
            ((s.te.paths.filter (·.2.listener == p.toNat)).map fun kv => entryBytes kv.2) skip []))
    ∧ (∀ a l body skip, Admitted .read tag (2 :: a :: l :: body) s → skipOf body = some skip → a.toNat ≤ 95 → l.toNat ≤ 95 →
        a ≠ l →
        answers (.readPaths tag (2 :: a :: l :: body)) 0x22
          (longList (pairFront (s.te.entry a.toNat l.toNat))
            ((((s.te.entry a.toNat l.toNat).map (·.causes)).getD []).map causeBytes) skip []))
    ∧ (∀ g, Admitted .read tag [3, g] s → g.toNat ≤ 31 →
        answers (.readPaths tag [3, g]) 0x22 (e2 (s.te.group g.toNat).length ++ (s.te.group g.toNat).flatMap e1))
    ∧ (∀ k c, Admitted .read tag [4, k, c] s → k.toNat ≤ 127 → 1 ≤ c.toNat → c.toNat ≤ 32 →
        answers (.readPaths tag [4, k, c]) 0x22
          (((List.range' k.toNat c.toNat).filter (· ≤ 127)).flatMap (slotBytes s.te)))
    ∧ (Admitted .read tag [] s → answers (.readMatrix tag []) 0x24 (matrixContent s)))
  ∧ (∀ s : State,
    let b (n : Nat) : Byte := BitVec.ofNat 8 n
    let w (n : Nat) : List Byte := [BitVec.ofNat 8 (n / 256), BitVec.ofNat 8 n]
    let signed (n : Int) : Byte := BitVec.ofInt 8 n
    let flag (x : Bool) : Byte := if x then 1 else 0
    let index (o : Option Nat) : Byte := BitVec.ofNat 8 (o.getD 255)
    let wide (o : Option Nat) : List Byte := w (o.getD 65535)
    let four (n : BitVec 32) : List Byte :=
      [n.extractLsb' 24 8, n.extractLsb' 16 8, n.extractLsb' 8 8, n.extractLsb' 0 8]
    let time (o : Option Millis) : List Byte := four (o.getD 0xFFFFFFFF)
    let left (o : Option Millis) : List Byte := time (o.map fun e => e - s.now)
    let gain (g : Gain) : Byte :=
      match g with
      | .mute => 0x80
      | .steps n => BitVec.ofInt 8 n
    let image (i : Image) : List Byte :=
      [match i.colour with
        | .off => 0
        | .red => 1
        | .green => 2
        | .amber => 3
        | .white => 4,
        match i.pattern with
        | .steady => 0
        | .slow => 1
        | .fast => 2
        | .wink => 3]
    let party (q : Party) : List Byte :=
      match q with
      | .host tag => [0, tag, 0]
      | .panel n k => [1, b n, b k]
    let colour (c : Colour) : Byte :=
      match c with
      | .red => 1
      | .amber => 2
      | .green => 4
    let code (m : Mixer) : Byte :=
      match m with
      | .a => 0
      | .b => 1
    ((∀ n, e1 n = [b n] ∧ e2 n = w n) ∧ ∀ x, eBool x = [flag x])
    -- READ-ROSTER: an entry, and what stands before the entries
    ∧ (∀ (n : Nat) (e : RosterEntry),
      let panel : List Byte :=
        match e.info with
        | none => [0xFF]
        | some i =>
          [match i.kind with
            | .intercom => 1
            | .router => 2
            | .combined => 3] ++ four i.unit ++ [b i.keys]
      (∀ link stall ask, e.presence = .member link stall ask → rosterBytes (n, e) =
        [b n, 0] ++ panel ++ [b stall, flag ask.isSome] ++ time ask ++ time none ++ w link.dirty.length ++ [b link.outSeq]
          ++ wide link.lastIn)
      ∧ (∀ since, e.presence = .absent since → rosterBytes (n, e) = [b n, 1] ++ panel ++ time none ++ time (some since))
      ∧ (e.presence = .contested → rosterBytes (n, e) = [b n, 2] ++ panel ++ time none ++ time none))
    ∧ (let p := s.pbc
      let times := p.timing
      rosterFront p =
        [match p.node with
          | .asleep => 0
          | .listening => 1
          | .checking => 2
          | .conflict => 3
          | .sweeping => 4
          | .member => 5,
          b p.id, flag p.busAuto, flag p.turn.holds, flag p.sweepPending, flag p.activitySeen, index p.lastTurn]
          ++ w times.replyWindow ++ w times.silence ++ [b times.turnBudget] ++ w times.census
          ++ [b times.stallLimit, b times.release] ++ w p.ring.length ++ p.ring.map b ++ [b p.censusPtr, b p.rotationPtr]
          ++ w p.badFrames ++ w p.discarded ++ w p.inbound.length ++ p.inbound.map (fun c => b c.sender)
          ++ [index (p.reserved.map (·.1))]
      ∧ (∀ n, n ∈ p.ring ↔ (n = p.id ∧ n ≠ 0) ∨ ∃ e, (n, e) ∈ p.roster ∧ e.isMember = true)
      ∧ (tsorted p.roster = true → p.ring.Pairwise (· < ·)))
    -- READ-PANEL: the keys, and what stands before them
    ∧ (∀ n : Nat,
      let shown : Option Context :=
        match s.pbc.presence n with
        | some (.member _ _ _) => tfind s.kd.contexts n
        | _ => none
      let target (x : KeyTarget) : List Byte :=
        match x with
        | .port p => [0, b p]
        | .group g => [1, b g]
        | .live => [2, 0xFF]
      let entry (e : KeyEntry) : List Byte :=
        match e with
        | .none => [0]
        | .talk x mode lw level limit =>
          [1] ++ target x ++
            [match mode with
              | .momentary => 0
              | .latch => 1
              | .auto => 2,
              flag lw, signed level] ++ w limit
        | .listen x level => [2] ++ target x ++ [signed level]
        | .source i => [3] ++ w i
        | .dest d => [4] ++ w d
        | .take => [5]
        | .protect => [6]
        | .salvo i => [7, b i]
        | .call p => [8, b p]
      let link : Link :=
        match s.pbc.presence n with
        | some (.member l _ _) => l
        | _ => { sent := [], dirty := [], outSeq := 0, lastIn := none }
      let live (k : Nat) : List Byte :=
        match shown.bind fun c => tfind c.keys k with
        | none => [0]
        | some x =>
          [match x.state with
            | .idle => 0
            | .timing => 1
            | .held => 2
            | .latched => 3
            | .unlatching => 4
            | .active => 5,
            flag x.pressed] ++ left x.tapExpiry ++ left x.latchExpiry ++ left x.refusalExpiry ++ image x.image
            ++ (match link.sent[k]? with
              | some (some i) => image i
              | _ => [5, 0])
            ++ [flag (link.dirty.contains k)]
      (∀ r, tfind s.kd.records n = some r →
        keyItems s n = (List.range 32).map (fun k => entry (tget .none r.keys k) ++ live k))
      ∧ (tfind s.kd.records n = none → keyItems s n = (List.range ((shown.map (·.keys.length)).getD 0)).map live)
      ∧ panelFront s n =
          w s.kd.tapWindow ++ w s.kd.unassigned ++ w s.kd.duplicate
            ++ (match tfind s.kd.records n with
              | none => [0]
              | some r => [1, index r.port, if r.mode = .direct then 0 else 1])
            ++ (match shown with
              | none => [0]
              | some c => [1] ++ wide c.dest ++ wide c.preset))
    -- READ-DEST: a record, what follows the records, and the count of fires of a salvo
    ∧ (∀ i : Nat,
      let d := s.rc.dest i
      recordBytes s.rc i =
        [index (s.rc.source i).position] ++ wide (s.rc.source i).tie ++ wide d.confirmed ++ wide d.pending
          ++ (match d.protect with
            | none => [0xFF, 0xFF]
            | some p => [b (p.owner.getD 0), if p.kind = .protect then 0 else 1])
          ++ [flag (s.rc.querySet.contains i)]
      ∧ s.rc.firesOf i = (s.rc.fires.filter (·.salvo == i)).length)
    ∧ destTail s.rc =
        w (s.rc.salvos.map (·.2.length)).sum ++ w (s.rc.dests.filter fun kv => kv.2.protect.isSome).length
    -- READ-QUEUE: an entry, what stands before the entries and what follows them
    ∧ (∀ e : TakeEntry,
      let head := w e.dest ++ w e.source
      let state :=
        match e.state with
        | .waiting => [0] ++ time none
        | .sent x => [1] ++ left x
      (∀ tag, e.requester = .party (.host tag) → queueBytes s e = head ++ [0, 0xFF] ++ party (.host tag) ++ state)
      ∧ (∀ n k, e.requester = .party (.panel n k) → queueBytes s e = head ++ [1, 0xFF] ++ party (.panel n k) ++ state)
      ∧ (∀ serial f, e.requester = .fire serial → s.rc.fires.find? (·.serial == serial) = some f →
          queueBytes s e = head ++ [2, b f.salvo] ++ party f.party ++ state))
    ∧ queueFront s.rc = [flag s.rc.down] ++ w s.rc.consecutive ++ w s.rc.replyTimer
    ∧ (∃ given rest,
      s.rc.fires.map (fun f => [b f.salvo] ++ party f.party ++ w f.done ++ w f.other ++ w f.skipped) = given ++ rest
      ∧ queueTail s =
          w s.rc.queries.length ++ s.rc.queries.flatMap (fun q => w q.dest ++ left q.expiry) ++ w s.rc.querySet.length
            ++ w s.rc.fires.length ++ w given.length ++ given.flatten ++ w s.rc.badFrames ++ w s.rc.strays ++ w s.rc.violations
      ∧ (s.rc.queries.length ≤ 2 → (queueFront s.rc).length + (queueTail s).length + 6 ≤ 240)
      ∧ ∀ x xs, rest = x :: xs → 240 < (queueFront s.rc).length + (queueTail s).length + 6 + x.length)
    -- READ-MIXER
    ∧ (∀ m : MixerRec,
      let t := m.state.buses
      let k := m.state.keyers
      mixerBytes s.now m =
        [match m.line with
          | .silent => 0
          | .current => 1
          | .stale => 2
          | .withdrawn => 3,
          if m.mode = .onAir then 0 else 1] ++ w m.stale ++ [b m.withdraw]
          ++ time (m.lastRecord.map fun x => s.now - x) ++ left m.staleExpiry ++ left m.withdrawExpiry
          ++ [b t.pgm, b t.pvw, b t.iso1, b t.iso2, b t.iso3, b t.iso4, flag m.state.transition, flag k.k0.onAir, b k.k0.fill,
            flag k.k1.onAir, b k.k1.fill, flag k.k2.onAir, b k.k2.fill, flag k.k3.onAir, b k.k3.fill]
          ++ w m.badFrames ++ w m.outOfRange ++ w m.records ++ w m.resends)
    -- READ-TALLY: a position, what follows the positions, and a mixer's bindings and contributions
    ∧ (∀ p : Nat,
      let x := s.tr.position p
      positionBytes s p =
        [index x.port, (if x.colours.red then 1 else 0) + (if x.colours.amber then 2 else 0) + (if x.colours.green then 4 else 0),
          flag x.colours.red, flag (x.hostCall.isSome || !x.keyCalls.isEmpty)]
          ++ left x.hostCall ++ w x.keyCalls.length ++ x.keyCalls.flatMap (fun k => [b k.1, b k.2]))
    ∧ tallyTail s.tr =
        w s.tr.live.length ++ s.tr.live.map b ++ w s.tr.stops.length
          ++ s.tr.stops.flatMap (fun x =>
            [code x.mixer, b x.input, colour x.colour, if x.kind = .loop then 0 else 1] ++ w x.dest)
          ++ w s.tr.unbound ++ w s.tr.resolutions
    ∧ (∀ m : Mixer,
      let mine := s.tr.contributions.filter (·.mixer == m)
      bindingsContent s.tr m =
        ((List.range' 1 64).flatMap fun i =>
          match s.tr.binding m i with
          | .none => [0, 0, 0]
          | .dest d => [1] ++ w d
          | .source n => [2] ++ w n
          | .internal => [3, 0, 0])
        ++ w mine.length ++ mine.flatMap (fun c =>
          [match c.selection with
            | .bus n => b n
            | .keyer n => b (6 + n),
            b c.input, colour c.colour]))
    -- READ-PATHS: the summary, an entry toward a port, a cause, a slot, and what stands before the lists
    ∧ (let all := s.te.paths.map (·.2)
      summaryBytes s =
        w (all.filter (·.opened)).length ++ w (all.filter (!·.opened)).length ++ w (all.map (·.causes.length)).sum
          ++ w s.te.standing.length ++ w (liveKeys s.kd).length
          ++ w (all.map fun e => (e.causes.filter isLive).length).sum
          ++ w s.te.refusals ++ w s.te.liveSkips ++ (List.range 32).flatMap (fun g => w (s.te.group g).length))
    ∧ (∀ (e : PathEntry) (c : Cause) (p k : Nat) (x : Standing),
      let state : List Byte := [if e.opened then 0 else 1, signed e.level]
      let gains : List Byte := [gain e.target, gain e.current, gain e.sentValue,
        match e.sync with
        | .clean => 0
        | .dirty => 1
        | .sent => 2]
      let r := s.te.port p
      let groups := (List.range 32).filter fun g => (s.te.group g).contains p
      (isLive c = true ↔ ∃ n key, c.origin = .live n key)
      ∧ entryBytes e = [b e.talker] ++ state ++ w e.causes.length ++ gains
      ∧ portFront s.te p =
          [match r.kind with
            | .panel => 0
            | .headset => 1
            | .fourwire => 2
            | .ifb => 3
            | .speaker => 4,
            signed r.receive, signed r.inTrim, signed r.outTrim, b r.dim,
            match r.duck with
            | .steps n => b n
            | .full => 0xFF,
            index r.program, index r.guardPos] ++ w groups.length ++ groups.map b
      ∧ pairFront none = [0] ∧ pairFront (some e) = [1] ++ state ++ gains
      ∧ (∀ n key, c.origin = .key n key → causeBytes c = [0, b n, b key, signed c.level])
      ∧ (∀ n key, c.origin = .live n key → causeBytes c = [1, b n, b key, signed c.level])
      ∧ (∀ slot, c.origin = .standing slot → causeBytes c = [2, b slot, 0, signed c.level])
      ∧ (tfind s.te.standing k = none → slotBytes s.te k = [0])
      ∧ (tfind s.te.standing k = some x → slotBytes s.te k = [1, b x.talker, b x.listener, signed x.level]))
    -- READ-MATRIX
    ∧ (let dirty := s.te.paths.filter fun kv => kv.2.sync == .dirty
      let first (q : List Nat) : List Byte := (q.take 16).flatMap fun key => [b (key / 96), b (key % 96)]
      matrixContent s =
        [match s.ml.line with
          | .up => 0
          | .down => 1
          | .clearing => 2,
          b s.te.gainTick, b s.te.rampStep, b s.ml.replyTimeout]
          ++ w s.ml.consecutive ++ w s.ml.timeouts ++ w s.ml.badFrames ++ w s.ml.strays ++ w s.ml.outstanding.length
          ++ s.ml.outstanding.flatMap (fun o => [b o.listener, b o.talker, gain o.gain] ++ left o.expiry)
          ++ [flag s.ml.muteAll.isSome] ++ left s.ml.muteAll.join
          ++ w s.ml.muteQueue.length ++ w s.ml.levelQueue.length ++ first s.ml.muteQueue ++ first s.ml.levelQueue
          ++ w dirty.length
          ++ w (dirty.filter fun kv => !s.ml.muteQueue.contains kv.1 && !s.ml.levelQueue.contains kv.1).length))

/-! ### The Panel Bus -/

/-- R7: SET-NODE by the state of the node; an entry of the ID taken leaves the roster and its protects are released (R6). R8, R10:
BUS-ENABLE by the state of the node. A BUS-AUTO value carried is stored in every state (`u`), and off leaves the bus: every MEMBER
becomes ABSENT and departs, ROSTER being set if there was one, and what was in progress is gone, the frames chosen among it (log
18). The premise that the roster is in its form is `TableFormsKept`'s. -/
def Obligations.NodeAndEnableByState : Prop :=
  (∀ (tag n : Byte) (s : State), Admitted .config tag [n] s → n.toNat ≤ 63 →
    let q := taken tag 0x01 s
    let ok := RepliesIn (.setNode tag [n]) s tag .setNode .ok []
    (n = 0 → s.pbc.node = .asleep → ok q)
    ∧ (n = 0 → s.pbc.node = .listening → ok { q with pbc := { s.pbc with id := 0, node := .asleep } })
    ∧ (n ≠ 0 → ∀ p,
        (s.pbc.node = .asleep ∧ p = { s.pbc with id := n.toNat, node := .listening, activitySeen := false, lastTurn := none })
        ∨ (s.pbc.node = .listening ∧ p = { s.pbc with id := n.toNat })
        ∨ (s.pbc.node = .conflict ∧ p = { s.pbc with id := n.toNat, node := .checking, checkingExpiry := some (s.now + 400) }) →
        (s.pbc.entry n.toNat = none → ok { q with pbc := p })
        ∧ ((s.pbc.entry n.toNat).isSome = true → ok
            { q with
              cp := { q.cp with flags := q.cp.flags ||| 1 }
              pbc := { p with roster := tdel p.roster n.toNat }
              reports := { s.reports with rcReleases := s.reports.rcReleases ++ [n.toNat] } }))
    ∧ ((s.pbc.node = .checking ∨ s.pbc.node = .sweeping ∨ s.pbc.node = .member ∨ (s.pbc.node = .conflict ∧ n = 0)) →
        Refuses (.setNode tag [n]) s tag 0x01 .state))
  ∧ (∀ (tag e : Byte) (body : List Byte) (on : Bool) (s u : State),
    Admitted .config tag body s → flagOf e.toNat = some on →
    (body = [e, 0] ∧ u = taken tag 0x02 s)
      ∨ (∃ a auto, body = [e, 1, a] ∧ flagOf a.toNat = some auto
          ∧ u = { taken tag 0x02 s with pbc := { s.pbc with busAuto := auto } }) →
    let answer := RepliesIn (.busEnable tag body) s tag .busEnable
    (s.pbc.node = .asleep → answer (if on then .state else .ok) [] u)
    ∧ (s.pbc.node = .listening → answer .ok []
        (if on then { u with pbc := { u.pbc with node := .checking, checkingExpiry := some (s.now + 400) } } else u))
    ∧ (s.pbc.node ≠ .asleep → s.pbc.node ≠ .listening → on = true → answer .ok [] u)
    ∧ (s.pbc.node ≠ .asleep → s.pbc.node ≠ .listening → on = false → TableInv s →
        ∃ t, answer .ok [] t ∧ OnlyChanges [.cp, .pbc, .reports] u t
          ∧ (∀ n, t.pbc.entry n =
              (s.pbc.entry n).map fun x => if x.isMember then { x with presence := .absent s.now } else x)
          ∧ t.reports = { s.reports with kdPanels := s.reports.kdPanels ++ s.pbc.memberIds.map .departure }
          ∧ t.cp = { u.cp with flags := if s.pbc.memberIds = [] then s.cp.flags else s.cp.flags ||| 1 }
          ∧ t.pbc = { u.pbc with
              roster := t.pbc.roster, node := .listening, activitySeen := false, lastTurn := none, checkingExpiry := none
              sweepPending := false, results := [], work := .idle, windowOpen := false, tx := [], silentSince := none
              reserved := none, inbound := [], turn := { s.pbc.turn with holds := false, chosen := [] } }))

/-- R28: BUS-TIMING stores each field present, clamped into its range. A stall limit, a release interval and a silence interval
carried act at once on what has already reached them (R15, R21, R26): BUS is set where a panel becomes STALLED, and each entry
removed sets ROSTER and is released. R16, R27: SWEEP-NOW and FORGET. -/
def Obligations.BusTimingSweepNowAndForget : Prop :=
  (∀ (tag : Byte) (body : List Byte) (fs : List (Option Nat)) (s : State),
    Admitted .config tag body s → presence [2, 2, 1, 2, 1, 1] body = some fs →
    let clamped (i lo hi old : Nat) : Nat := ((fieldAt fs i).map fun v => max lo (min hi v)).getD old
    let old := s.pbc.timing
    ∃ u, RepliesIn (.busTiming tag body) s tag .busTiming .ok [] u ∧ OnlyChanges [.cp, .pbc, .reports] s u
      ∧ u.pbc.timing =
          { replyWindow := clamped 0 50 1000 old.replyWindow, silence := clamped 1 1 50 old.silence
            turnBudget := clamped 2 1 8 old.turnBudget, census := clamped 3 100 5000 old.census
            stallLimit := clamped 4 1 255 old.stallLimit, release := clamped 5 0 255 old.release }
      ∧ (fieldAt fs 1 = none → fieldAt fs 4 = none → fieldAt fs 5 = none →
          u = { taken tag 0x03 s with pbc := { s.pbc with timing := u.pbc.timing } })
      ∧ (TableInv s →
          let stalls := (fieldAt fs 4).isSome = true ∧ ∃ n link stall,
            s.pbc.presence n = some (.member link stall none) ∧ u.pbc.timing.stallLimit ≤ stall
          let expired := if (fieldAt fs 5).isNone then [] else (s.pbc.roster.filter fun kv =>
            match kv.2.presence with
            | .absent since => u.pbc.timing.release * 1000 ≤ (s.now - since).toNat
            | _ => false).map (·.1)
          u.reports = { s.reports with rcReleases := s.reports.rcReleases ++ expired }
          ∧ u.cp = { (taken tag 0x03 s).cp with flags := u.cp.flags }
          ∧ (stalls → expired = [] → u.cp.flags = s.cp.flags ||| 2) ∧ (¬ stalls → expired = [] → u.cp.flags = s.cp.flags)
          ∧ (stalls → expired ≠ [] → u.cp.flags = s.cp.flags ||| 2 ||| 1)
          ∧ (¬ stalls → expired ≠ [] → u.cp.flags = s.cp.flags ||| 1))
      ∧ (∀ n link stall, s.pbc.presence n = some (.member link stall none) →
          u.pbc.presence n = some (.member link stall
            (if (fieldAt fs 4).isSome ∧ u.pbc.timing.stallLimit ≤ stall then some s.now else none)))
      ∧ (∀ n link stall ask, s.pbc.presence n = some (.member link stall (some ask)) →
          u.pbc.presence n = some (.member link stall (some ask)))
      ∧ (∀ n since, s.pbc.presence n = some (.absent since) → (fieldAt fs 5).isSome = true →
          u.pbc.timing.release * 1000 ≤ (s.now - since).toNat → u.pbc.entry n = none)
      ∧ (∀ t, s.pbc.node = .member → s.pbc.turn.holds = false → s.pbc.silentSince = some t → (fieldAt fs 1).isSome = true →
          u.pbc.timing.silence ≤ (s.now - t).toNat → u.pbc.node = .sweeping))
  ∧ (∀ (tag n : Byte) (s : State),
    (Admitted .live tag [] s →
      let u := { taken tag 0x04 s with pbc := { s.pbc with sweepPending := true } }
      (s.pbc.node ≠ .member → Refuses (.sweepNow tag []) s tag 0x04 .state)
      ∧ (s.pbc.node = .member → RepliesIn (.sweepNow tag []) s tag .sweepNow .ok []
          (if s.pbc.turn.holds then startSweep u else u)))
    ∧ (Admitted .live tag [n] s → 1 ≤ n.toNat → n.toNat ≤ 63 →
      (s.pbc.entry n.toNat = none → Refuses (.forget tag [n]) s tag 0x05 .state)
      ∧ (∀ e, s.pbc.entry n.toNat = some e → e.isMember = true → Refuses (.forget tag [n]) s tag 0x05 .state)
      ∧ (∀ e, s.pbc.entry n.toNat = some e → e.isMember = false → ∃ u,
          RepliesIn (.forget tag [n]) s tag .forget .ok [] u ∧ OnlyChanges [.cp, .pbc, .reports] s u
          ∧ u.pbc = { s.pbc with roster := u.pbc.roster } ∧ u.cp.flags = s.cp.flags ||| 1
          ∧ (∀ m, u.pbc.entry m = if m = n.toNat then none else s.pbc.entry m)
          ∧ u.reports = { s.reports with rcReleases := s.reports.rcReleases ++ [n.toNat] })))

/-- R2, R13, R15, R22: what a character of activity does in each state of the node, and a frame that is not clean (R1), a gap's at
its expiry (log 42). The bad frame count stops at 65,535 (log 12). CHECKING and the clean frames with the IDs of their source and
destination fields (R9): one with the hub's own ID ends it in CONFLICT, and does nothing else there (logs 33, 36). -/
def Obligations.ActivityAndCheckingByState : Prop :=
  (∀ s : State,
    let reserved := s.pbc.reserved.map fun (r : Nat × RoomStage) => if r.2 = .window then (r.1, .heard) else r
    let heard (p : Pbc) := EndsIn (.activity none) s { s with pbc := { p with reserved := reserved } }
    let probing := ∃ c n h, s.pbc.work = .probe c n h
    let passing := ∃ n a, s.pbc.work = .pass n a
    (s.pbc.node = .asleep → EndsIn (.activity none) s s)
    ∧ (s.pbc.node = .listening ∨ s.pbc.node = .conflict → heard { s.pbc with activitySeen := true })
    ∧ (s.pbc.node = .checking → heard s.pbc)
    ∧ (s.pbc.node = .member ∨ s.pbc.node = .sweeping →
        (s.pbc.windowOpen = true → passing →
          heard { s.pbc with
            work := .idle, windowOpen := false, turn := { s.pbc.turn with holds := false }, silentSince := some s.now })
        ∧ (∀ c n h, s.pbc.windowOpen = true → s.pbc.work = .probe c n h → heard { s.pbc with work := .probe c n true })
        ∧ ((s.pbc.windowOpen = true → ¬ probing ∧ ¬ passing) →
            heard (if s.pbc.node = .member ∧ s.pbc.turn.holds = false then { s.pbc with silentSince := some s.now } else s.pbc)))
    ∧ (∀ i, i = .pbBadFrame ∨ i = .pbGapExpiry →
        (s.pbc.node = .asleep → EndsIn i s s)
        ∧ (s.pbc.node ≠ .asleep → EndsIn i s
            { noteActivity s with
              pbc := { (noteActivity s).pbc with
                reserved := none
                badFrames := if s.pbc.badFrames < 65535 then s.pbc.badFrames + 1 else s.pbc.badFrames } })))
  ∧ (∀ (i : Instr) (ids : List Byte) (s : State), i.wellFormed = true → s.pbc.node = .checking → s.pbc.windowOpen = false →
    (∃ a b q p k unit n l,
      (i = .passReceived a ∧ ids = [a]) ∨ (i = .activity (some (.probe a)) ∧ ids = [a])
      ∨ (i = .hereReceived a k unit n ∧ ids = [a]) ∨ (i = .askReceived a b ∧ ids = [a, b])
      ∨ (i = .roomReceived a b ∧ ids = [a, b]) ∨ (i = .noroomReceived a b ∧ ids = [a, b])
      ∨ (i = .gotReceived a b ∧ ids = [a, b]) ∨ (i = .cargoReceived a b q p ∧ ids = [a, b])
      ∨ (i = .activity (some .sweep) ∧ ids = []) ∨ (i = .activity (some (.ring l)) ∧ ids = [])) →
    ((∃ x ∈ ids, x.toNat = s.pbc.id) → EndsIn i s
      { s with
        cp := { s.cp with flags := s.cp.flags ||| 2 }
        pbc := { s.pbc with node := .conflict, checkingExpiry := none, reserved := none } })
    ∧ ((∀ x ∈ ids, x.toNat ≠ s.pbc.id) → EndsIn i s { s with pbc := { s.pbc with reserved := none } }))

/-- R1: PB-TXEN is asserted exactly while a hub frame is on the wire, the one at the front of those chosen (log 37). R11, R23: the
end of a hub frame takes it off the line. A ROOM's opens the window of its reservation, and the frame the work in progress waits
to see answered opens the reply window, a second such frame standing behind it aside (log 34). With no frame on the line nothing
changes (log 4). R20, R22, R23: the closes of the other windows. A second silent PASS loses the turn to the successor: it is
ABSENT from then on, RING goes out, and the turn goes to the next. R9, R12, R15, R17, R26: the timers of the bus. Each acts where
its time has come, and elsewhere changes nothing (log 4). -/
def Obligations.WindowsAndTimersOfTheBus : Prop :=
  (∀ p : Pbc, p.txEnable = true ↔ ∃ f rest, p.tx = f :: rest)
  ∧ (∀ (f : PbFrame) (rest : List PbFrame) (s : State),
    (s.pbc.tx = [] → EndsIn .pbFrameSent s s)
    ∧ (s.pbc.tx = f :: rest →
        (∀ h n, f = .room h n → EndsIn .pbFrameSent s
          { s with
            pbc := { s.pbc with
              tx := rest
              reserved := if s.pbc.reserved = some (n, .sending) then some (n, .window) else s.pbc.reserved } })
        ∧ ((∀ h n, f ≠ .room h n) → EndsIn .pbFrameSent s
          { s with
            pbc := { s.pbc with
              tx := rest
              windowOpen := if s.pbc.work.awaits f = true ∧ (∀ g ∈ rest, s.pbc.work.awaits g = false) then true
                else s.pbc.windowOpen } })))
  ∧ (∀ (n : Nat) (s : State),
    (s.pbc.windowOpen = true →
      (s.pbc.work = .ask n → EndsIn .askWindowClose s (nextExchange s))
      ∧ (∀ l, s.pbc.work = .cargo n l → EndsIn .cargoWindowClose s (nextExchange s))
      ∧ (s.pbc.work = .pass n false → EndsIn .passWindowClose s
          { s with pbc := { s.pbc with tx := s.pbc.tx ++ [.pass n], work := .pass n true, windowOpen := false } })
      ∧ (∀ e, s.pbc.work = .pass n true → s.pbc.entry n = some e → e.isMember = true → ∃ u,
          EndsIn .passWindowClose s
            (if u.pbc.successor = s.pbc.id then { u with pbc := { u.pbc with work := .idle, windowOpen := false } }
              else
                { u with
                  pbc := { u.pbc with
                    tx := u.pbc.tx ++ [.pass u.pbc.successor], work := .pass u.pbc.successor false, windowOpen := false } })
          ∧ OnlyChanges [.cp, .pbc, .reports] s u ∧ u.cp = { s.cp with flags := s.cp.flags ||| 1 }
          ∧ u.reports = { s.reports with kdPanels := s.reports.kdPanels ++ [.departure n] }
          ∧ (∀ m, u.pbc.entry m = if m = n then some { e with presence := .absent s.now } else s.pbc.entry m)
          ∧ u.pbc = { s.pbc with
              roster := u.pbc.roster, inbound := s.pbc.inbound.filter (·.sender != n)
              reserved := s.pbc.reserved.filter (·.1 != n), tx := s.pbc.tx ++ [.ring u.pbc.ring] }))
    ∧ (s.pbc.windowOpen = false →
        EndsIn .askWindowClose s s ∧ EndsIn .cargoWindowClose s s ∧ EndsIn .passWindowClose s s)
    ∧ EndsIn .reservationLapse s
        { s with pbc := { s.pbc with reserved := s.pbc.reserved.filter fun (r : Nat × RoomStage) => r.2 != .window } })
  ∧ (∀ (n : Nat) (s : State),
    (∀ e, s.pbc.node = .checking → s.pbc.checkingExpiry = some e → (s.now - e).toNat < 2 ^ 31 →
      EndsIn .checkingExpiry s (startSweep s))
    ∧ (s.pbc.node = .checking → (∀ e, s.pbc.checkingExpiry = some e → 2 ^ 31 ≤ (s.now - e).toNat) → EndsIn .checkingExpiry s s)
    ∧ (s.pbc.node ≠ .checking → EndsIn .checkingExpiry s s)
    ∧ (∀ t, s.pbc.node = .member → s.pbc.turn.holds = false → s.pbc.silentSince = some t →
        EndsIn .silenceExpiry s (if s.pbc.timing.silence ≤ (s.now - t).toNat then startSweep s else s))
    ∧ (s.pbc.node ≠ .member ∨ s.pbc.turn.holds = true ∨ s.pbc.silentSince = none → EndsIn .silenceExpiry s s)
    ∧ (s.pbc.node = .member → s.pbc.turn.holds = true → s.pbc.work = .idle → s.pbc.successor = s.pbc.id →
        EndsIn .censusIntervalExpiry s
          (if s.pbc.timing.census ≤ (s.now - s.pbc.turn.started).toNat then beginTurn s else s))
    ∧ (s.pbc.node ≠ .member ∨ s.pbc.turn.holds = false ∨ s.pbc.work ≠ .idle ∨ s.pbc.successor ≠ s.pbc.id →
        EndsIn .censusIntervalExpiry s s)
    ∧ (∀ since, s.pbc.presence n = some (.absent since) →
        EndsIn (.absenceExpiry n) s
          (if s.pbc.timing.release * 1000 ≤ (s.now - since).toNat then
            { s with
              cp := { s.cp with flags := s.cp.flags ||| 1 }
              pbc := { s.pbc with roster := tdel s.pbc.roster n }
              reports := { s.reports with rcReleases := s.reports.rcReleases ++ [n] } }
          else s))
    ∧ ((∀ since, s.pbc.presence n ≠ some (.absent since)) → EndsIn (.absenceExpiry n) s s))

/-- R12: where a sweep starts, the node is SWEEPING with the turn, no sweep is pending, and of the frames chosen before only the
one on the wire goes ahead of SWEEP and the first PROBE (log 18). R17 to R19: what the hub does where it takes the turn, and where
it goes on with it; which panels are eligible. A census PROBE moves the pointer and the time of the check where it is chosen (log
41). -/
def Obligations.TurnSequenceInOrder : Prop :=
  (∀ s : State,
    startSweep s =
      { s with
        pbc := { s.pbc with
          node := .sweeping, checkingExpiry := none, sweepPending := false, results := [], silentSince := none
          turn := { s.pbc.turn with holds := true }
          tx := s.pbc.tx.take 1 ++ [.sweep, .probe (if s.pbc.id = 1 then 2 else 1)]
          work := .probe false (if s.pbc.id = 1 then 2 else 1) false
          windowOpen := false } })
  ∧ (∀ s : State,
    let u := { s with
      pbc := { s.pbc with
        silentSince := none
        turn := { holds := true, made := 0, chosen := [], budget := s.pbc.timing.turnBudget, started := s.now } } }
    (s.pbc.sweepPending = true → beginTurn s = startSweep u)
    ∧ (s.pbc.sweepPending = false → (s.now - s.pbc.lastCensus).toNat < s.pbc.timing.census → beginTurn s = nextExchange u)
    ∧ (s.pbc.sweepPending = false → s.pbc.timing.census ≤ (s.now - s.pbc.lastCensus).toNat →
        (∀ n, (idsAfter s.pbc.censusPtr).find? (fun n => n != s.pbc.id && !(s.pbc.entry n).any (·.isMember)) = some n →
          beginTurn s =
            { u with
              pbc := { u.pbc with
                lastCensus := s.now, censusPtr := n, tx := s.pbc.tx ++ [.probe n], work := .probe true n false
                windowOpen := false } })
        ∧ ((idsAfter s.pbc.censusPtr).find? (fun n => n != s.pbc.id && !(s.pbc.entry n).any (·.isMember)) = none →
          beginTurn s = nextExchange { u with pbc := { u.pbc with lastCensus := s.now } }))
    ∧ (∀ p, eligible s p = true ↔ p ∉ s.pbc.turn.chosen ∧ ∃ link stall ask,
        s.pbc.presence p = some (.member link stall ask) ∧ link.dirty ≠ []
        ∧ ∀ t, ask = some t → s.pbc.timing.census ≤ (s.now - t).toNat)
    ∧ (∀ p, s.pbc.turn.made < s.pbc.turn.budget → (idsAfter s.pbc.rotationPtr).find? (eligible s) = some p →
        OnlyChanges [.pbc] s (nextExchange s)
        ∧ (nextExchange s).pbc = { s.pbc with
            roster := (nextExchange s).pbc.roster, rotationPtr := p
            turn := { s.pbc.turn with made := s.pbc.turn.made + 1, chosen := s.pbc.turn.chosen ++ [p] }
            tx := s.pbc.tx ++ [.ask s.pbc.id p], work := .ask p, windowOpen := false }
        ∧ (∀ n, n ≠ p → (nextExchange s).pbc.entry n = s.pbc.entry n)
        ∧ (∀ link stall ask, s.pbc.presence p = some (.member link stall ask) →
            (nextExchange s).pbc.presence p = some (.member link stall (ask.map fun _ => s.now))))
    ∧ (s.pbc.turn.budget ≤ s.pbc.turn.made ∨ (idsAfter s.pbc.rotationPtr).find? (eligible s) = none →
        nextExchange s =
          if s.pbc.successor = s.pbc.id then { s with pbc := { s.pbc with work := .idle, windowOpen := false } }
          else
            { s with
              pbc := { s.pbc with
                tx := s.pbc.tx ++ [.pass s.pbc.successor], work := .pass s.pbc.successor false, windowOpen := false } }))

/-- R2, R17: a clean PASS. The node that follows the bus notes the target; a MEMBER without the turn takes it from a PASS to
itself; to any other it is activity. A PASS whose ID is out of range is a frame that is not clean. In CONFLICT one with the hub's
own ID is noted too (log 39). R23: a clean ASK. A MEMBER that does not hold the turn, or loses it to this frame in its own PASS
window, answers ROOM with a reservation, or NOROOM; elsewhere there is no answer. A reservation held before it has lapsed at the
end of the frame, and counts no slot (log 31). One with an ID out of range is a frame that is not clean. -/
def Obligations.PassAndAskAreTaken : Prop :=
  (∀ (t : Byte) (s : State),
    let heard := lapseReservation (noteActivity s)
    (nodeByte t = true → s.pbc.node = .listening ∨ s.pbc.node = .conflict → s.pbc.windowOpen = false →
      EndsIn (.passReceived t) s
        { s with pbc := { s.pbc with activitySeen := true, lastTurn := some t.toNat, reserved := none } })
    ∧ (nodeByte t = true → s.pbc.node = .member → t.toNat = s.pbc.id →
        s.pbc.turn.holds = false ∨ (s.pbc.windowOpen = true ∧ ∃ n a, s.pbc.work = .pass n a) →
        EndsIn (.passReceived t) s (beginTurn heard))
    ∧ (nodeByte t = true → s.pbc.node = .sweeping ∨ (s.pbc.node = .member ∧ (t.toNat ≠ s.pbc.id
          ∨ (s.pbc.turn.holds = true ∧ ¬ (s.pbc.windowOpen = true ∧ ∃ n a, s.pbc.work = .pass n a)))) → probeOpen s.pbc = false →
        EndsIn (.passReceived t) s heard)
    ∧ (nodeByte t = true → s.pbc.node = .asleep → probeOpen s.pbc = false →
        EndsIn (.passReceived t) s { s with pbc := { s.pbc with reserved := none } })
    ∧ (nodeByte t = false → exec (.passReceived t) s = exec .pbBadFrame s))
  ∧ (∀ (f t : Byte) (s : State),
    let heard := noteActivity s
    let withoutTurn := s.pbc.turn.holds = false ∨ (s.pbc.windowOpen = true ∧ ∃ n a, s.pbc.work = .pass n a)
    (nodeByte f = true → nodeByte t = true → probeOpen s.pbc = false →
      (s.pbc.node = .member → t.toNat = s.pbc.id → withoutTurn →
        ((∃ e, s.pbc.entry f.toNat = some e ∧ e.isMember = true) → s.pbc.inbound.length < 4 →
          EndsIn (.askReceived f t) s
            { heard with
              pbc := { heard.pbc with
                reserved := some (f.toNat, .sending), tx := heard.pbc.tx ++ [.room s.pbc.id f.toNat] } })
        ∧ ((∀ e, s.pbc.entry f.toNat = some e → e.isMember = false) ∨ 4 ≤ s.pbc.inbound.length →
          EndsIn (.askReceived f t) s
            { heard with
              pbc := { heard.pbc with reserved := none, tx := heard.pbc.tx ++ [.noroom s.pbc.id f.toNat] } }))
      ∧ (s.pbc.node = .listening ∨ s.pbc.node = .conflict ∨ s.pbc.node = .sweeping
          ∨ (s.pbc.node = .member ∧ (t.toNat ≠ s.pbc.id ∨ ¬ withoutTurn)) →
        EndsIn (.askReceived f t) s (lapseReservation heard))
      ∧ (s.pbc.node = .asleep → EndsIn (.askReceived f t) s { s with pbc := { s.pbc with reserved := none } }))
    ∧ (nodeByte f = false ∨ nodeByte t = false → exec (.askReceived f t) s = exec .pbBadFrame s)
    ∧ (s.pbc.node = .member →
        (s.pbc.windowOpen = false → s.pbc.turn.holds = false →
          heard.pbc = { s.pbc with
            silentSince := some s.now
            reserved := s.pbc.reserved.map fun (r : Nat × RoomStage) => if r.2 = .window then (r.1, .heard) else r })
        ∧ (∀ n a, s.pbc.windowOpen = true → s.pbc.work = .pass n a →
          heard.pbc = { s.pbc with
            silentSince := some s.now, work := .idle, windowOpen := false, turn := { s.pbc.turn with holds := false }
            reserved := s.pbc.reserved.map fun (r : Nat × RoomStage) => if r.2 = .window then (r.1, .heard) else r })))

/-- R24, R25: a clean CARGO addressed to a MEMBER hub, row by row, after the activity of its characters; the reservation lapses at
the frame's end, after the slots are counted (log 31). The counts stop at 65,535 (log 12). R2, R24: a CARGO to another node, or
taken in a state other than MEMBER, is activity alone; one that is not clean is a bad frame (R1). CHECKING's case is R9's. -/
def Obligations.CargoByItsTable : Prop :=
  (∀ (f t seq : Byte) (payload : List Byte) (s : State),
    cargoClean f t payload = true → s.pbc.node = .member → t.toNat = s.pbc.id → probeOpen s.pbc = false →
    let p := (noteActivity s).pbc
    let ends (p : Pbc) := EndsIn (.cargoReceived f t seq payload) s { s with pbc := { p with reserved := none } }
    let discarded := if s.pbc.discarded < 65535 then s.pbc.discarded + 1 else s.pbc.discarded
    let accepted := tmodify s.pbc.roster f.toNat fun e =>
      match e.presence with
      | .member link stall ask => { e with presence := .member { link with lastIn := some seq.toNat } stall ask }
      | _ => e
    ((∀ e, s.pbc.entry f.toNat = some e → e.isMember = false) → ends { p with discarded := discarded })
    ∧ (∀ link stall ask, s.pbc.presence f.toNat = some (.member link stall ask) →
        (link.lastIn = some seq.toNat → ends { p with tx := p.tx ++ [.got s.pbc.id f.toNat] })
        ∧ (link.lastIn ≠ some seq.toNat → keysPayload payload = none →
            ends { p with discarded := discarded, roster := accepted, tx := p.tx ++ [.got s.pbc.id f.toNat] })
        ∧ (∀ l, link.lastIn ≠ some seq.toNat → keysPayload payload = some l →
            ((∃ st, s.pbc.reserved = some (f.toNat, st))
                ∨ (s.pbc.reserved = none ∧ s.pbc.inbound.length < 4) ∨ s.pbc.inbound.length < 3 →
              ends { p with
                inbound := s.pbc.inbound ++ [{ sender := f.toNat, transitions := l }], roster := accepted
                tx := p.tx ++ [.got s.pbc.id f.toNat] })
            ∧ ((∀ st, s.pbc.reserved ≠ some (f.toNat, st)) →
                4 ≤ s.pbc.inbound.length + (if s.pbc.reserved.isSome then 1 else 0) → ends { p with discarded := discarded }))))
  ∧ (∀ (f t seq : Byte) (payload : List Byte) (s : State),
    (cargoClean f t payload = false → exec (.cargoReceived f t seq payload) s = exec .pbBadFrame s)
    ∧ (cargoClean f t payload = true → probeOpen s.pbc = false →
        (s.pbc.node = .asleep → EndsIn (.cargoReceived f t seq payload) s { s with pbc := { s.pbc with reserved := none } })
        ∧ (s.pbc.node = .listening ∨ s.pbc.node = .conflict ∨ s.pbc.node = .sweeping
            ∨ (s.pbc.node = .member ∧ t.toNat ≠ s.pbc.id) →
          EndsIn (.cargoReceived f t seq payload) s (lapseReservation (noteActivity s)))))

/-- R20, R21: the answers of the panel an outbound exchange waits for. ROOM: its LAMPS cargo, of at most 16 dirty keys with their
desired images (log 40), is sent and the stall fields are cleared. NOROOM: the stall count rises. GOT: the carried images are sent
images. R20, R21: what a NOROOM adds to the stall count, and what a GOT confirms of a cargo that carries a key once. R2, R11, R15,
R22, R23: one that is late or that no exchange awaits: it is activity alone, by the state of the node, and a reservation lapses with
it. One with an ID out of range is a frame that is not clean (R1). -/
def Obligations.ExchangeAnswers : Prop :=
  (∀ (f t : Byte) (s : State),
    nodeByte f = true → nodeByte t = true → s.pbc.node = .member → s.pbc.turn.holds = true → s.pbc.windowOpen = true →
    t.toNat = s.pbc.id →
    let v := { s with pbc := { s.pbc with reserved := none } }
    (∀ link stall ask, s.pbc.work = .ask f.toNat → s.pbc.presence f.toNat = some (.member link stall ask) →
      let lamps := (link.dirty.take 16).map fun k => (k, ((s.kd.key f.toNat k).map (·.image)).getD ⟨.off, .steady⟩)
      ∃ u, EndsIn (.roomReceived f t) s u ∧ OnlyChanges [.pbc] s u
        ∧ u.pbc = { s.pbc with
            reserved := none, roster := u.pbc.roster, tx := s.pbc.tx ++ [.cargo s.pbc.id f.toNat link.outSeq lamps]
            work := .cargo f.toNat lamps, windowOpen := false }
        ∧ u.pbc.presence f.toNat = some (.member { link with outSeq := (link.outSeq + 1) % 256 } 0 none)
        ∧ ∀ n, n ≠ f.toNat → u.pbc.entry n = s.pbc.entry n)
    ∧ (s.pbc.work = .ask f.toNat → EndsIn (.noroomReceived f t) s (nextExchange (stallPanel f.toNat v)))
    ∧ (∀ lamps, s.pbc.work = .cargo f.toNat lamps →
        EndsIn (.gotReceived f t) s (nextExchange (confirmLamps f.toNat lamps v))))
  ∧ (∀ (p : Nat) (link : Link) (stall : Nat) (ask : Option Millis) (s : State),
    s.pbc.presence p = some (.member link stall ask) →
    (let n := if stall < 255 then stall + 1 else stall
      let stalls := ask = none ∧ s.pbc.timing.stallLimit ≤ n
      OnlyChanges [.cp, .pbc] s (stallPanel p s)
      ∧ (stallPanel p s).pbc.presence p = some (.member link n (if stalls then some s.now else ask))
      ∧ (stallPanel p s).cp = { s.cp with flags := if stalls then s.cp.flags ||| 2 else s.cp.flags }
      ∧ (stallPanel p s).pbc = { s.pbc with roster := (stallPanel p s).pbc.roster }
      ∧ ∀ m, m ≠ p → (stallPanel p s).pbc.entry m = s.pbc.entry m)
    ∧ (∀ lamps : List (Nat × Image), (lamps.map (·.1)).Nodup →
        OnlyChanges [.pbc] s (confirmLamps p lamps s)
        ∧ (confirmLamps p lamps s).pbc = { s.pbc with roster := (confirmLamps p lamps s).pbc.roster }
        ∧ (∀ m, m ≠ p → (confirmLamps p lamps s).pbc.entry m = s.pbc.entry m)
        ∧ ∃ after, (confirmLamps p lamps s).pbc.presence p = some (.member after stall ask)
          ∧ after.sent.length = link.sent.length ∧ after.outSeq = link.outSeq ∧ after.lastIn = link.lastIn
          ∧ (∀ k i, (k, i) ∈ lamps → k < link.sent.length → after.sent[k]? = some (some i))
          ∧ (∀ k, k ∉ lamps.map (·.1) → after.sent[k]? = link.sent[k]? ∧ (k ∈ after.dirty ↔ k ∈ link.dirty))
          ∧ (∀ k i, (k, i) ∈ lamps →
              (k ∈ after.dirty ↔ k ∈ link.dirty ∧ (s.kd.key p k).map (·.image) ≠ some i))))
  ∧ (∀ (f t : Byte) (s : State),
    let ends (i : Instr) (p : Pbc) := EndsIn i s { s with pbc := { p with reserved := none } }
    let passing := s.pbc.windowOpen = true ∧ ∃ n again, s.pbc.work = .pass n again
    let asked := s.pbc.windowOpen = true ∧ t.toNat = s.pbc.id ∧ s.pbc.work = .ask f.toNat
    let carried := s.pbc.windowOpen = true ∧ t.toNat = s.pbc.id ∧ ∃ lamps, s.pbc.work = .cargo f.toNat lamps
    let late (i : Instr) : Prop :=
      (¬ passing →
        ends i (if s.pbc.node = .member ∧ s.pbc.turn.holds = false then { s.pbc with silentSince := some s.now } else s.pbc))
      ∧ (passing → ends i
          { s.pbc with
            work := .idle, windowOpen := false, turn := { s.pbc.turn with holds := false }, silentSince := some s.now })
    (nodeByte f = true → nodeByte t = true → probeOpen s.pbc = false →
      (∀ i, i = .roomReceived f t ∨ i = .noroomReceived f t ∨ i = .gotReceived f t →
        (s.pbc.node = .asleep → ends i s.pbc)
        ∧ (s.pbc.node = .listening ∨ s.pbc.node = .conflict → ends i { s.pbc with activitySeen := true })
        ∧ (s.pbc.node = .sweeping → late i))
      ∧ (s.pbc.node = .member →
          (¬ asked → late (.roomReceived f t) ∧ late (.noroomReceived f t)) ∧ (¬ carried → late (.gotReceived f t))))
    ∧ (nodeByte f = false ∨ nodeByte t = false → ∀ i, i = .roomReceived f t ∨ i = .noroomReceived f t ∨ i = .gotReceived f t →
        exec i s = exec .pbBadFrame s))

/-- R11, R13: in an open probe window a HERE from the ID probed is Present, any other clean frame Contested (log 33), after what a
CARGO to a MEMBER hub does (R24); the window's close is Contested after activity and Absent without. With no probe window open a
HERE is activity, and a close changes nothing (log 4). R12, R14, R18: where a probe ends. In a sweep its result is kept and the
next ID is probed; the last one completes the sweep, and the hub is MEMBER with the turn, having sent RING. In a census the result
acts at once and the turn goes on. What counts as a change is that an entry changes. -/
def Obligations.ProbesAreClassifiedAndEnd : Prop :=
  (∀ (c heard : Bool) (n : Nat) (f k b : Byte) (unit : BitVec 32) (s : State),
    hereClean f k b = true → s.pbc.node = .sweeping ∨ s.pbc.node = .member →
    let v := lapseReservation (noteActivity s)
    (s.pbc.work = .probe c n heard → s.pbc.windowOpen = true →
      (f.toNat = n → EndsIn (.hereReceived f k unit b) s
        (endProbe (.present { kind := .ofCode k.toNat, unit := unit, keys := b.toNat }) v))
      ∧ (f.toNat ≠ n → EndsIn (.hereReceived f k unit b) s (endProbe .contested v))
      ∧ (∀ o : BusOther, o.clean = true → EndsIn (.activity (some o)) s (endProbe .contested v))
      ∧ (∀ x y, nodeByte x = true → nodeByte y = true →
          EndsIn (.roomReceived x y) s (endProbe .contested v) ∧ EndsIn (.noroomReceived x y) s (endProbe .contested v)
          ∧ EndsIn (.gotReceived x y) s (endProbe .contested v)
          ∧ (s.pbc.turn.holds = true →
              EndsIn (.passReceived y) s (endProbe .contested v) ∧ EndsIn (.askReceived x y) s (endProbe .contested v)))
      ∧ (∀ x y q payload, cargoClean x y payload = true →
          EndsIn (.cargoReceived x y q payload) s
            (endProbe .contested
              (if s.pbc.node = .member ∧ y.toNat = s.pbc.id then
                lapseReservation (takeCargo x.toNat q.toNat payload (noteActivity s))
              else v)))
      ∧ EndsIn .probeWindowClose s (endProbe (if heard then .contested else .absent) s))
    ∧ (probeOpen s.pbc = false →
        EndsIn (.hereReceived f k unit b) s v ∧ (∀ o : BusOther, o.clean = true → EndsIn (.activity (some o)) s v)
        ∧ EndsIn .probeWindowClose s s))
  ∧ (∀ (r : ProbeResult) (n m : Nat) (heard : Bool) (s : State),
    (probeChanges r (s.pbc.entry n) = true ↔ (applyProbe n r s).pbc.entry n ≠ s.pbc.entry n)
    ∧ (s.pbc.work = .probe false n heard → (List.range' (n + 1) (63 - n)).find? (· != s.pbc.id) = some m →
      endProbe r s =
        { s with
          pbc := { s.pbc with
            results := tput s.pbc.results n r, tx := s.pbc.tx ++ [.probe m], work := .probe false m false
            windowOpen := false } })
    ∧ (s.pbc.work = .probe false n heard → (List.range' (n + 1) (63 - n)).find? (· != s.pbc.id) = none →
        let results := tput s.pbc.results n r
        let u := results.foldl (fun t kv => applyProbe kv.1 kv.2 t)
          { s with pbc := { s.pbc with results := results, windowOpen := false } }
        let changed := results.any fun kv => probeChanges kv.2 (s.pbc.entry kv.1)
        endProbe r s = beginTurn
          { u with
            cp := { u.cp with flags := if changed then u.cp.flags ||| 1 else u.cp.flags }
            pbc := { u.pbc with node := .member, results := [], work := .idle, tx := u.pbc.tx ++ [.ring u.pbc.ring] } })
    ∧ (s.pbc.work = .probe true n heard →
        let u := applyProbe n r s
        let changed := probeChanges r (s.pbc.entry n)
        endProbe r s = nextExchange
          { u with
            cp := { u.cp with flags := if changed then u.cp.flags ||| 1 else u.cp.flags }
            pbc := { u.pbc with
              work := .idle, windowOpen := false
              tx := if (u.pbc.entry n).any (·.isMember) && changed then u.pbc.tx ++ [.ring u.pbc.ring] else u.pbc.tx } }))

/-- R6, R14: the result of a probe of one ID, row by row: the entry after it, and the notifications it gives in their order. -/
def Obligations.ProbeResultTable : Prop :=
  ∀ (n : Nat) (i : PanelInfo) (e : RosterEntry) (s : State),
    let member (i : PanelInfo) : RosterEntry :=
      { info := some i
        presence := .member { sent := List.replicate i.keys none, dirty := [], outSeq := 0, lastIn := none } 0 none }
    let becomes (r : ProbeResult) (x : Option RosterEntry) (kd : List PanelNotice) (rc : List Nat) : Prop :=
      OnlyChanges [.pbc, .reports] s (applyProbe n r s)
      ∧ (∀ m, (applyProbe n r s).pbc.entry m = if m = n then x else s.pbc.entry m)
      ∧ (applyProbe n r s).pbc = { s.pbc with
          roster := (applyProbe n r s).pbc.roster
          inbound := if kd.contains (.departure n) then s.pbc.inbound.filter (·.sender != n) else s.pbc.inbound
          reserved := if kd.contains (.departure n) then s.pbc.reserved.filter (·.1 != n) else s.pbc.reserved }
      ∧ (applyProbe n r s).reports =
          { s.reports with kdPanels := s.reports.kdPanels ++ kd, rcReleases := s.reports.rcReleases ++ rc }
    (s.pbc.entry n = none →
      becomes (.present i) (some (member i)) [.join n i.keys] [] ∧ becomes .contested (some ⟨none, .contested⟩) [] []
      ∧ becomes .absent none [] [])
    ∧ (s.pbc.entry n = some e → e.isMember = true →
        (e.info = some i → becomes (.present i) (some e) [] [])
        ∧ (e.info ≠ some i → (∃ j, e.info = some j ∧ j.unit = i.unit) →
            becomes (.present i) (some (member i)) [.departure n, .join n i.keys] [])
        ∧ ((∀ j, e.info = some j → j.unit ≠ i.unit) →
            becomes (.present i) (some (member i)) [.departure n, .join n i.keys] [n])
        ∧ becomes .contested (some { e with presence := .contested }) [.departure n] [n]
        ∧ becomes .absent (some { e with presence := .absent s.now }) [.departure n] [])
    ∧ (∀ since, s.pbc.entry n = some e → e.presence = .absent since →
        ((∃ j, e.info = some j ∧ j.unit = i.unit) → becomes (.present i) (some (member i)) [.join n i.keys] [])
        ∧ ((∀ j, e.info = some j → j.unit ≠ i.unit) → becomes (.present i) (some (member i)) [.join n i.keys] [n])
        ∧ becomes .contested (some { e with presence := .contested }) [] [n] ∧ becomes .absent (some e) [] [])
    ∧ (s.pbc.entry n = some e → e.presence = .contested →
        becomes (.present i) (some (member i)) [.join n i.keys] [] ∧ becomes .contested (some e) [] []
        ∧ becomes .absent none [] [n])

/-! ### Panels and keys -/

/-- R32: SET-PANEL creates a record, replaces its fields, or removes it with all that stands on it. R33: SET-KEY replaces one key
entry: the key is IDLE and without an indication afterwards, the causes an active one had are withdrawn, and every other entry
stands. R56, R96: the two timing requests of one field clamp their value into its range and store it. -/
def Obligations.PanelsKeysAndTimingsAreSet : Prop :=
  (∀ (tag n port mode : Byte) (s : State), 1 ≤ n.toNat → n.toNat ≤ 63 →
    let after (body : List Byte) (u : State) : Prop :=
      RepliesIn (.setPanel tag body) s tag .setPanel .ok [] u
      ∧ OnlyChanges [.cp, .pbc, .kd, .tr, .te, .ml, .reports] s u ∧ u.cp = (taken tag 0x07 s).cp
      ∧ (∀ m, m ≠ n.toNat → tfind u.kd.records m = tfind s.kd.records m ∧ tfind u.kd.contexts m = tfind s.kd.contexts m)
      ∧ u.kd = { s.kd with records := u.kd.records, contexts := u.kd.contexts }
      ∧ u.pbc = { s.pbc with roster := u.pbc.roster }
    (Admitted .config tag [n, 0, port, mode] s → port.toNat ≤ 95 ∨ port = 255 → mode.toNat ≤ 1 →
      let p := if port = 255 then none else some port.toNat
      ∃ u, after [n, 0, port, mode] u
        ∧ tfind u.kd.records n.toNat = some
            { port := p, mode := if mode = 0 then .direct else .preset
              keys := ((tfind s.kd.records n.toNat).map (·.keys)).getD [] }
        ∧ (∀ r k, tfind s.kd.records n.toNat = some r → r.port ≠ p → talkOrListen (tget .none r.keys k) = true →
            u.kd.keyState n.toNat k = .idle
            ∧ (s.kd.keyState n.toNat k ≠ .idle → ∀ kv ∈ u.te.paths, ∀ c ∈ kv.2.causes, ofKey n.toNat k c = false))
        ∧ ((tfind s.kd.records n.toNat = none ∨ ∃ r, tfind s.kd.records n.toNat = some r ∧ r.port = p) →
            u.te = s.te ∧ ∀ k, u.kd.keyState n.toNat k = s.kd.keyState n.toNat k))
    ∧ (Admitted .config tag [n, 1] s →
      (tfind s.kd.records n.toNat = none → Refuses (.setPanel tag [n, 1]) s tag 0x07 .state)
      ∧ (∀ r, tfind s.kd.records n.toNat = some r → ∃ u, after [n, 1] u
          ∧ tfind u.kd.records n.toNat = none
          ∧ (∀ k x, u.kd.key n.toNat k = some x → x = freshKey ⟨.off, .steady⟩)
          ∧ (∀ k, s.kd.keyState n.toNat k ≠ .idle →
              (∀ kv ∈ u.te.paths, ∀ c ∈ kv.2.causes, ofKey n.toNat k c = false)
              ∧ ∀ p, s.kd.entry n.toNat k = .call p → (n.toNat, k) ∉ (u.tr.position p).keyCalls)
          ∧ (∀ c, tfind u.kd.contexts n.toNat = some c → c.dest = none ∧ c.preset = none))))
  ∧ (∀ (tag n k : Byte) (form : List Byte) (e : KeyEntry) (s : State),
    Admitted .config tag (n :: k :: form) s → keyForm form = some e → keyInRange e = true →
    1 ≤ n.toNat → n.toNat ≤ 63 → k.toNat ≤ 31 →
    (tfind s.kd.records n.toNat = none → Refuses (.setKey tag (n :: k :: form)) s tag 0x08 .state)
    ∧ (∀ r, tfind s.kd.records n.toNat = some r → ∃ u,
        RepliesIn (.setKey tag (n :: k :: form)) s tag .setKey .ok [] u
        ∧ OnlyChanges [.cp, .pbc, .kd, .tr, .te, .ml, .reports] s u ∧ u.cp = (taken tag 0x08 s).cp
        ∧ u.kd.entry n.toNat k.toNat = e
        ∧ (∀ m j, m ≠ n.toNat ∨ j ≠ k.toNat → u.kd.entry m j = s.kd.entry m j)
        ∧ (∀ m j, m ≠ n.toNat ∨ j ≠ k.toNat → u.kd.key m j = s.kd.key m j)
        ∧ (∀ x, u.kd.key n.toNat k.toNat = some x → x.state = .idle ∧ x.refusalExpiry = none)
        ∧ (s.kd.keyState n.toNat k.toNat = .idle → u.te = s.te ∧ u.tr = s.tr)
        ∧ (s.kd.keyState n.toNat k.toNat ≠ .idle →
            (talkOrListen (s.kd.entry n.toNat k.toNat) = true →
              ∀ kv ∈ u.te.paths, ∀ c ∈ kv.2.causes, ofKey n.toNat k.toNat c = false)
            ∧ ∀ p, s.kd.entry n.toNat k.toNat = .call p → (n.toNat, k.toNat) ∉ (u.tr.position p).keyCalls)
        ∧ u.pbc = { s.pbc with roster := u.pbc.roster }
        ∧ u.kd.tapWindow = s.kd.tapWindow ∧ u.kd.unassigned = s.kd.unassigned ∧ u.kd.duplicate = s.kd.duplicate))
  ∧ (∀ (tag hi lo : Byte) (s : State), Admitted .config tag [hi, lo] s →
    RepliesIn (.keyTiming tag [hi, lo]) s tag .keyTiming .ok []
      { taken tag 0x09 s with kd := { s.kd with tapWindow := max 100 (min 1000 (hi.toNat * 256 + lo.toNat)) } }
    ∧ RepliesIn (.routerTiming tag [hi, lo]) s tag .routerTiming .ok []
      { taken tag 0x13 s with rc := { s.rc with replyTimer := max 10 (min 1000 (hi.toNat * 256 + lo.toNat)) } })

/-- R50, R51: KD takes the oldest notice of a node: a departure ends its active keys' causes and deletes its context, a join makes
a fresh one with every image composed and every key dirty. A notice of the other kind is left where it is (log 4). R25, R35: a
dispatch takes the oldest stored cargo, its transitions in their order, and frees its slot. With none stored nothing changes (log
4). R46, R48, R52: KD takes the oldest report of each queue; an outcome but DONE, and a fire with other outcomes or skipped pairs,
start an indication on a key whose panel has a record. R52, R60, R63, R121, R122, R146, R158: which keys each report has KD
recompute, on every panel context: of the colour sets, the LIVE port set, a position's port, a path, a group, a crosspoint, a
protect, a panel's takes, a panel's fire, a source's position. -/
def Obligations.NoticesAndReportsReachKd : Prop :=
  (∀ (n : Nat) (rest : List PanelNotice) (s : State),
    (takeFirst (fun (x : PanelNotice) => x.node == n) s.reports.kdPanels = some (.departure n, rest) →
      EndsIn (.kdJoin n) s s
      ∧ ∃ u, EndsIn (.kdDeparture n) s u ∧ OnlyChanges [.kd, .tr, .te, .ml, .reports] s u
        ∧ u.reports.kdPanels = rest ∧ u.kd = { s.kd with contexts := u.kd.contexts }
        ∧ (∀ m, tfind u.kd.contexts m = if m = n then none else tfind s.kd.contexts m)
        ∧ (∀ k kv, s.kd.keyState n k ≠ .idle → kv ∈ u.te.paths → ∀ c ∈ kv.2.causes, ofKey n k c = false)
        ∧ (∀ k p, s.kd.keyState n k ≠ .idle → s.kd.entry n k = .call p → (n, k) ∉ (u.tr.position p).keyCalls))
    ∧ (∀ keys, takeFirst (fun (x : PanelNotice) => x.node == n) s.reports.kdPanels = some (.join n keys, rest) →
      EndsIn (.kdDeparture n) s s
      ∧ ∃ u c, EndsIn (.kdJoin n) s u ∧ OnlyChanges [.pbc, .kd, .reports] s u
        ∧ u.reports = { s.reports with kdPanels := rest } ∧ u.kd = { s.kd with contexts := u.kd.contexts }
        ∧ (∀ m, tfind u.kd.contexts m = if m = n then some c else tfind s.kd.contexts m)
        ∧ c.dest = none ∧ c.preset = none ∧ c.keys.map (·.1) = List.range keys
        ∧ (∀ k < keys, tfind c.keys k = some (freshKey
            (composeImage s n k { keys := [], dest := none, preset := none } (freshKey ⟨.off, .steady⟩))))
        ∧ (∀ link stall ask, s.pbc.presence n = some (.member link stall ask) → ∃ dirty,
            u.pbc.presence n = some (.member { link with dirty := dirty } stall ask)
            ∧ ∀ k, k ∈ dirty ↔ k ∈ link.dirty ∨ (k < keys ∧ k < link.sent.length))
        ∧ (∀ m, m ≠ n → u.pbc.entry m = s.pbc.entry m) ∧ u.pbc = { s.pbc with roster := u.pbc.roster }))
  ∧ (∀ (c : Stored) (rest : List Stored) (s : State),
    (s.pbc.inbound = [] → EndsIn .dispatch s s)
    ∧ (s.pbc.inbound = c :: rest →
        let t := c.transitions.foldl (takeTransition c.sender) s
        OnlyChanges [.cp, .pbc, .kd, .rc, .tr, .te, .ml, .reports] s t
        ∧ t.pbc = { s.pbc with roster := t.pbc.roster }
        ∧ EndsIn .dispatch s { t with pbc := { t.pbc with inbound := rest } }))
  ∧ (∀ s : State,
    let shown (n k : Nat) (t : State) : State :=
      if (tfind t.kd.records n).isNone then t
      else refreshKey (setKeyCtx n k (fun y => { y with refusalExpiry := some (t.now + 1000) }) t) n k
    (∀ r rest, s.reports.kdOutcomes = r :: rest →
      let t := r.changes.foldl takeImageReport { s with reports := { s.reports with kdOutcomes := rest } }
      EndsIn .kdTakeOutcome s (if r.outcome = .done then t else shown r.node r.key t))
    ∧ (∀ r rest, s.reports.kdFires = r :: rest →
      let t := takeImageReport { s with reports := { s.reports with kdFires := rest } } (.fire r.salvo (some r.node))
      EndsIn .kdFireCompletion s (if r.other = 0 ∧ r.skipped = 0 then t else shown r.node r.key t))
    ∧ (∀ r rest, s.reports.kdFromTr = r :: rest →
      EndsIn (.kdImageReport .tr) s (takeImageReport { s with reports := { s.reports with kdFromTr := rest } } r))
    ∧ (∀ r rest, s.reports.kdFromTe = r :: rest →
      EndsIn (.kdImageReport .te) s (takeImageReport { s with reports := { s.reports with kdFromTe := rest } } r))
    ∧ (∀ r rest, s.reports.kdFromRc = r :: rest →
      EndsIn (.kdImageReport .rc) s (takeImageReport { s with reports := { s.reports with kdFromRc := rest } } r))
    ∧ (s.reports.kdOutcomes = [] → EndsIn .kdTakeOutcome s s) ∧ (s.reports.kdFires = [] → EndsIn .kdFireCompletion s s))
  ∧ (∀ (n : Nat) (c : Context) (e : KeyEntry) (s : State),
    let talksTo (target : KeyTarget) : Prop := ∃ mode lw level limit, e = .talk target mode lw level limit
    (∀ r, takeImageReport s r = s.kd.contexts.foldl (fun t kv => refreshPanel (affects t kv.1 kv.2 r) kv.1 t) s)
    ∧ (∀ p, tfind s.kd.contexts n = none → refreshPanel p n s = s)
    ∧ (∀ p, tfind s.kd.contexts n = some c → refreshPanel p n s =
        ((c.keys.map (·.1)).filter fun k => p (s.kd.entry n k)).foldl (fun t k => refreshKey t n k) s)
    ∧ (∀ changed, affects s n c (.colours changed) e = true ↔
        (∃ src p, e = .source src ∧ (s.rc.source src).position = some p ∧ p ∈ changed.map (·.1))
        ∨ ∃ x p, talksTo (.port x) ∧ p ∈ changed.map (·.1) ∧ (s.tr.position p).port = some x)
    ∧ (∀ ports, affects s n c (.live ports) e = true ↔ talksTo .live)
    ∧ (∀ old new, affects s n c (.positionPort old new) e = true ↔
        ∃ x, talksTo (.port x) ∧ (old = some x ∨ new = some x))
    ∧ (∀ t l, affects s n c (.path t l) e = true ↔
        (∃ target, talksTo target) ∧ ∃ r, tfind s.kd.records n = some r ∧ r.port = some l)
    ∧ (∀ g, affects s n c (.group g) e = true ↔ talksTo (.group g))
    ∧ (∀ d srcs, affects s n c (.crosspoint d srcs) e = true ↔ ∃ src, e = .source src ∧ src ∈ srcs ∧ c.dest = some d)
    ∧ (∀ d, affects s n c (.protect d) e = true ↔ e = .dest d ∨ (e = .protect ∧ c.dest = some d))
    ∧ (∀ d panels, affects s n c (.takes d panels) e = true ↔ e = .take ∧ n ∈ panels ∧ c.dest = some d)
    ∧ (∀ i m, affects s n c (.fire i m) e = true ↔ e = .salvo i ∧ m = some n)
    ∧ (∀ src, affects s n c (.sourcePosition src) e = true ↔ e = .source src))

/-- R36, R38, R39, R42 to R48: what one transition does, by the kind of the key's entry and its state; in a state its table does
not name, nothing. The two counts stop at 65,535 (log 12), and a transition that finds no context is counted as unassigned, while
a context whose departure still waits is acted on (log 16). R43 to R45, R72, R80: a take a key asks RC for, by the tests of R72 in
their order: refused with an indication, entered in the place of the WAITING entry of its destination, or appended. R43, R49: the
router-panel state a key gives its panel, the images of its SOURCE, DEST, TAKE and PROTECT keys following it, and the indication
of a refusal. -/
def Obligations.TransitionsByEntry : Prop :=
  (∀ (n k : Nat) (press : Bool) (r : PanelRec) (c : Context) (x : KeyCtx) (s : State),
    let ignored := { s with kd := { s.kd with unassigned := if s.kd.unassigned < 65535 then s.kd.unassigned + 1 else s.kd.unassigned } }
    (tfind s.kd.records n = none → takeTransition n s (k, press) = ignored)
    ∧ (rosterKeys s.pbc n ≤ k → takeTransition n s (k, press) = ignored)
    ∧ (s.kd.key n k = none → takeTransition n s (k, press) = ignored)
    ∧ (tfind s.kd.records n = some r → k < rosterKeys s.pbc n → tfind s.kd.contexts n = some c → tfind c.keys k = some x →
        (x.pressed = press → takeTransition n s (k, press) =
          { s with kd := { s.kd with duplicate := if s.kd.duplicate < 65535 then s.kd.duplicate + 1 else s.kd.duplicate } })
        ∧ (x.pressed ≠ press →
            let u := setKeyCtx n k (fun y => { y with pressed := press }) s
            let ends (t : State) : Prop := takeTransition n s (k, press) = refreshKey t n k
            let e := tget KeyEntry.none r.keys k
            (e = .none → ends
              { u with
                kd := { u.kd with
                  unassigned := if s.kd.unassigned < 65535 then s.kd.unassigned + 1 else s.kd.unassigned } })
            ∧ (∀ target mode lw level limit, e = .talk target mode lw level limit →
                (∀ dst, (mode, x.state, press, dst) ∈
                    [(.momentary, .idle, true, .held), (.latch, .idle, true, .latched), (.auto, .idle, true, .timing)] →
                  ends (activateKey n k dst limit e target u))
                ∧ (∀ dst, (mode, x.state, press, dst) ∈
                    [(.latch, .latched, true, .unlatching), (.auto, .timing, false, .latched), (.auto, .latched, true, .unlatching)] →
                  ends (setKeyCtx n k (enterState dst limit u) u))
                ∧ ((mode, x.state, press) ∈
                    [(TalkMode.momentary, KeyState.held, false), (.latch, .unlatching, false), (.auto, .held, false),
                      (.auto, .unlatching, false)] →
                  ends (deactivateKey n k u))
                ∧ ((mode, x.state, press) ∉
                    [(TalkMode.momentary, KeyState.idle, true), (.latch, .idle, true), (.auto, .idle, true), (.latch, .latched, true),
                      (.auto, .timing, false), (.auto, .latched, true), (.momentary, .held, false), (.latch, .unlatching, false),
                      (.auto, .held, false), (.auto, .unlatching, false)] →
                  ends u))
            ∧ (∀ target level, e = .listen target level →
                (press = true → x.state = .idle → ends (activateKey n k .active 0 e target u))
                ∧ (press = true → x.state ≠ .idle → ends (deactivateKey n k u)) ∧ (press = false → ends u))
            ∧ (∀ p, e = .call p →
                (press = true → x.state = .idle →
                  ends (addKeyCall p n k (setKeyCtx n k (fun y => { y with state := .held }) u)))
                ∧ (press = true → x.state ≠ .idle → ends u)
                ∧ (press = false → x.state = .held → ends (deactivateKey n k u)) ∧ (press = false → x.state ≠ .held → ends u))
            ∧ (press = false →
                e = .take ∨ e = .protect ∨ (∃ d, e = .dest d) ∨ (∃ d, e = .source d) ∨ (∃ i, e = .salvo i) → ends u)
            ∧ (press = true →
                (∀ d, e = .dest d → ends (setRouterPanel n (some d) none u))
                ∧ (∀ i, e = .source i → ends
                    (if r.mode = .direct then askTake n k c.dest (some i) (setRouterPanel n c.dest (some i) u)
                      else setRouterPanel n c.dest (some i) u))
                ∧ (e = .take → ends (askTake n k c.dest c.preset u))
                ∧ (e = .protect → ends
                    (match c.dest with
                      | none => refuseKey n k u
                      | some d =>
                        if (toggleProtect d n u).2 then refuseKey n k (toggleProtect d n u).1 else (toggleProtect d n u).1))
                ∧ (∀ i, e = .salvo i → ends
                    (if (fireTest u.rc i (some n)).isSome then refuseKey n k u else startFire i (.panel n k) u))))))
  ∧ (∀ (n k d x : Nat) (dest src : Option Nat) (s : State),
    (dest = none ∨ src = none → askTake n k dest src s = refuseKey n k s)
    ∧ (dest = some d → src = some x →
        let waits (e : TakeEntry) : Bool := e.dest == d && e.isWaiting
        let held := holdsAgainst (s.rc.dest d).protect (some n)
        (held ≠ none → askTake n k dest src s = refuseKey n k s)
        ∧ (s.rc.down = true → askTake n k dest src s = refuseKey n k s)
        ∧ ((∀ e ∈ s.rc.queue, waits e = false) → 32 ≤ s.rc.queue.length → askTake n k dest src s = refuseKey n k s)
        ∧ (held = none → s.rc.down = false → (∀ e ∈ s.rc.queue, waits e = false) → s.rc.queue.length < 32 →
            askTake n k dest src s = fillWindow
              { s with
                rc := { s.rc with
                  queue := s.rc.queue ++ [{ dest := d, source := x, requester := .party (.panel n k), state := .waiting }] }
                reports := { s.reports with kdFromRc := s.reports.kdFromRc ++ [.takes d [n]] } })
        ∧ (∀ front e rest, held = none → s.rc.down = false → s.rc.queue = front ++ e :: rest →
            (∀ y ∈ front, waits y = false) → waits e = true →
            askTake n k dest src s = fillWindow
              (deliver e.requester .superseded [] [.takes d (e.requester.panels ++ [n])]
                { s with
                  rc := { s.rc with
                    queue := front ++ { e with source := x, requester := .party (.panel n k) } :: rest } }))))
  ∧ (∀ (n : Nat) (dest preset : Option Nat) (s : State),
    let t := setRouterPanel n dest preset s
    OnlyChanges [.pbc, .kd] s t ∧ t.kd = { s.kd with contexts := t.kd.contexts }
    ∧ (∀ m, m ≠ n → tfind t.kd.contexts m = tfind s.kd.contexts m)
    ∧ (tfind s.kd.contexts n = none → t = s)
    ∧ (∀ c, tfind s.kd.contexts n = some c → ∃ c', tfind t.kd.contexts n = some c' ∧ c'.dest = dest ∧ c'.preset = preset
        ∧ ∀ k x, tfind c.keys k = some x → ∃ i, tfind c'.keys k = some { x with image := i }
            ∧ i = (if routerKey (s.kd.entry n k) then composeImage t n k c' x else x.image))
    ∧ ∀ k, refuseKey n k s = setKeyCtx n k (fun y => { y with refusalExpiry := some (s.now + 1000) }) s)

/-- R151: the causes of an active key of a panel with intercom port `p`, for each of its target ports but that one. R152: a set of
new causes has room when the causes in the pool, less those withdrawn at the event, with them are at most 2048, and the entries of
the path table with the pairs they add are at most 768. R37, R42, R49, R151 to R153: an activation without an intercom port, or
without room for its causes, is refused with an indication of 1 s, the refusal count stopping at 65,535 (log 12); a cause of the
key that a RESET left on one of its pairs gives way to the new one (R150, log 47). A deactivation leaves the key IDLE, its timers
stopped and no cause of it in the path table. -/
def Obligations.ActivationAndDeactivation : Prop :=
  (∀ (te : Te) (n k p : Nat) (ports : List Nat) (x : NewCause),
    let some' (f : Nat → NewCause) : Prop := ∃ q ∈ ports, q ≠ p ∧ x = f q
    (∀ target m lw ll lim, target ≠ .live →
      (x ∈ causesOfKey te n k p ports (.talk target m lw ll lim) ↔
        some' (fun q => ⟨p, q, .key n k, (te.port q).receive⟩) ∨ (lw = true ∧ some' (fun q => ⟨q, p, .key n k, ll⟩))))
    ∧ (∀ m ll lim, x ∈ causesOfKey te n k p ports (.talk .live m false ll lim) ↔
        some' (fun q => ⟨p, q, .live n k, (te.port q).receive⟩))
    ∧ (∀ target ll, x ∈ causesOfKey te n k p ports (.listen target ll) ↔ some' (fun q => ⟨q, p, .key n k, ll⟩))
    ∧ (∀ e, talkOrListen e = false → causesOfKey te n k p ports e = []))
  ∧ (∀ (te : Te) (freed : Nat) (news : List NewCause),
    hasRoom te freed news = true ↔
      (te.paths.map fun kv => kv.2.causes.length).sum - freed + news.length ≤ 2048
      ∧ te.paths.length + ((news.map (·.key)).dedup.filter fun k => (tfind te.paths k).isNone).length ≤ 768)
  ∧ (∀ (n k limit : Nat) (dst : KeyState) (e : KeyEntry) (target : KeyTarget) (x : KeyCtx) (s : State),
    s.kd.key n k = some x →
    let port := (tfind s.kd.records n).bind (·.port)
    let news (p : Nat) := causesOfKey s.te n k p (targetPorts s.te s.tr.live target) e
    let renewed (p key : Nat) (c : Cause) : Bool := (news p).any fun y => y.key == key && y.cause.origin == c.origin
    let freed (p : Nat) : Nat := (s.te.paths.map fun kv => kv.2.causes.countP (renewed p kv.1)).sum
    let indicated := some { x with refusalExpiry := some (s.now + 1000) }
    (port = none → OnlyChanges [.kd] s (activateKey n k dst limit e target s)
      ∧ (activateKey n k dst limit e target s).kd.key n k = indicated)
    ∧ (∀ p, port = some p → hasRoom s.te (freed p) (news p) = false →
        OnlyChanges [.cp, .kd, .te] s (activateKey n k dst limit e target s)
        ∧ (activateKey n k dst limit e target s).kd.key n k = indicated
        ∧ (activateKey n k dst limit e target s).cp = { s.cp with flags := s.cp.flags ||| 64 }
        ∧ (activateKey n k dst limit e target s).te =
            { s.te with refusals := if s.te.refusals < 65535 then s.te.refusals + 1 else s.te.refusals })
    ∧ (∀ p, port = some p → hasRoom s.te (freed p) (news p) = true →
        OnlyChanges [.kd, .te, .ml, .reports] s (activateKey n k dst limit e target s)
        ∧ (activateKey n k dst limit e target s).te = (applyCauses (renewed p) (news p) s).te
        ∧ (activateKey n k dst limit e target s).kd.key n k =
            some { x with
              state := dst
              tapExpiry := if dst = .timing then some (after s.now s.kd.tapWindow) else none
              latchExpiry := if dst = .latched ∧ limit ≠ 0 then some (after s.now (limit * 1000)) else none })
    ∧ (OnlyChanges [.kd, .tr, .te, .ml, .reports] s (deactivateKey n k s)
      ∧ (deactivateKey n k s).kd.key n k = some { x with state := .idle, tapExpiry := none, latchExpiry := none }
      ∧ (talkOrListen (s.kd.entry n k) = true →
          ∀ kv ∈ (deactivateKey n k s).te.paths, ∀ c ∈ kv.2.causes, ofKey n k c = false)
      ∧ (∀ p, s.kd.entry n k = .call p → (n, k) ∉ ((deactivateKey n k s).tr.position p).keyCalls)))

/-- R49, R52 to R55: the desired image of a key, from the first row of its kind that holds. A refusal indication overrides them,
and without a panel record every key is OFF. R5, R52: recomputing a key's desired image; a new one replaces it and puts the key in
its panel's dirty set. R39, R40, R49: the timers of a key. Each acts where it is due, and elsewhere changes nothing (log 4). -/
def Obligations.KeyTimersAndImages : Prop :=
  (∀ (n k : Nat) (c : Context) (x : KeyCtx) (r : PanelRec) (s : State),
    (tfind s.kd.records n = none → composeImage s n k c x = ⟨.off, .steady⟩)
    ∧ (tfind s.kd.records n = some r → x.refusalExpiry ≠ none → composeImage s n k c x = ⟨.red, .fast⟩)
    ∧ (tfind s.kd.records n = some r → x.refusalExpiry = none →
        let e := tget KeyEntry.none r.keys k
        let shows (i : Image) : Prop := composeImage s n k c x = i
        let redOn (p : Nat) : Prop := ∃ z < 24, (s.tr.position z).port = some p ∧ (s.tr.position z).colours.red = true
        (e = .none → shows ⟨.off, .steady⟩)
        ∧ (∀ target m lw ll lim, e = .talk target m lw ll lim →
            let targets : List Nat := match target with
              | .port q => [q]
              | .group g => s.te.group g
              | .live => s.tr.live
            let lit := ∃ p q, r.port = some p ∧ q ∈ targets ∧ s.te.isOpen q p = true
            (x.state ∈ [.timing, .held, .latched] → shows ⟨.green, .steady⟩)
            ∧ (x.state = .unlatching → shows ⟨.green, .slow⟩)
            ∧ (x.state = .idle → lit → shows ⟨.amber, .slow⟩)
            ∧ (∀ q, x.state = .idle → ¬ lit → target = .port q → redOn q → shows ⟨.red, .wink⟩)
            ∧ (x.state = .idle → ¬ lit → (∀ q, target = .port q → ¬ redOn q) → shows ⟨.off, .steady⟩))
        ∧ (∀ target l, e = .listen target l → shows (if x.state = .active then ⟨.amber, .steady⟩ else ⟨.off, .steady⟩))
        ∧ (∀ p, e = .call p → shows (if x.state = .held then ⟨.amber, .fast⟩ else ⟨.off, .steady⟩))
        ∧ (∀ i, e = .source i →
            let set : Colours := ((s.rc.source i).position.map fun z => (s.tr.position z).colours).getD ⟨false, false, false⟩
            let tally := set ≠ ⟨false, false, false⟩
            let colour : KeyColour :=
              if set.red then .red else if set.amber then .amber else if set.green then .green else .white
            let confirmed := ∃ d, c.dest = some d ∧ (s.rc.dest d).confirmed = some i
            let next := (∃ d, c.dest = some d ∧ (s.rc.dest d).pending = some i) ∨ c.preset = some i
            (confirmed → shows ⟨colour, .steady⟩) ∧ (¬ confirmed → next → shows ⟨colour, .slow⟩)
            ∧ (¬ confirmed → ¬ next → tally → shows ⟨colour, .wink⟩)
            ∧ (¬ confirmed → ¬ next → ¬ tally → shows ⟨.off, .steady⟩))
        ∧ (∀ d, e = .dest d →
            let p := (s.rc.dest d).protect
            let colour : KeyColour := if p = none then .white else if p = some ⟨some n, .protect⟩ then .amber else .red
            (c.dest = some d → shows ⟨colour, .steady⟩) ∧ (c.dest ≠ some d → p ≠ none → shows ⟨colour, .wink⟩)
            ∧ (c.dest ≠ some d → p = none → shows ⟨.off, .steady⟩))
        ∧ (e = .take →
            let asked := ∃ d, c.dest = some d ∧ ∃ q ∈ s.rc.queue, q.dest = d ∧ ∃ j, q.requester = .party (.panel n j)
            (asked → shows ⟨.green, .slow⟩) ∧ (¬ asked → shows ⟨.off, .steady⟩))
        ∧ (e = .protect →
            (c.dest = none → shows ⟨.off, .steady⟩)
            ∧ (∀ d, c.dest = some d →
                let p := (s.rc.dest d).protect
                (p = none → shows ⟨.off, .steady⟩) ∧ (p = some ⟨some n, .protect⟩ → shows ⟨.amber, .steady⟩)
                ∧ (p ≠ none → p ≠ some ⟨some n, .protect⟩ → shows ⟨.red, .steady⟩)))
        ∧ (∀ i, e = .salvo i →
            let fires := ∃ f ∈ s.rc.fires, f.salvo = i ∧ ∃ j, f.party = .panel n j
            (fires → shows ⟨.green, .slow⟩) ∧ (¬ fires → shows ⟨.off, .steady⟩))))
  ∧ (∀ (n k : Nat) (c : Context) (x : KeyCtx) (s : State), tfind s.kd.contexts n = some c → tfind c.keys k = some x →
    (composeImage s n k c x = x.image → refreshKey s n k = s)
    ∧ (composeImage s n k c x ≠ x.image →
        OnlyChanges [.pbc, .kd] s (refreshKey s n k)
        ∧ (refreshKey s n k).kd.key n k = some { x with image := composeImage s n k c x }
        ∧ (∀ m j, m ≠ n ∨ j ≠ k → (refreshKey s n k).kd.key m j = s.kd.key m j)
        ∧ (∀ link stall ask, s.pbc.presence n = some (.member link stall ask) → k < link.sent.length →
            (refreshKey s n k).pbc.presence n = some (.member { link with dirty := insertAsc link.dirty k } stall ask))))
  ∧ (∀ (n k : Nat) (x : KeyCtx) (s : State), s.kd.key n k = some x →
    let isDue (e : Option Millis) : Prop := ∃ t, e = some t ∧ (s.now - t).toNat < 2 ^ 31
    (x.state = .timing → isDue x.tapExpiry → EndsIn (.tapWindowExpiry n k) s
      (refreshKey (setKeyCtx n k (fun y => { y with state := .held, tapExpiry := none, latchExpiry := none }) s) n k))
    ∧ (x.state ≠ .timing ∨ ¬ isDue x.tapExpiry → EndsIn (.tapWindowExpiry n k) s s)
    ∧ (x.state = .latched → isDue x.latchExpiry → EndsIn (.latchLimitExpiry n k) s (refreshKey (deactivateKey n k s) n k))
    ∧ (x.state ≠ .latched ∨ ¬ isDue x.latchExpiry → EndsIn (.latchLimitExpiry n k) s s)
    ∧ (isDue x.refusalExpiry → EndsIn (.refusalIndicationExpiry n k) s
      (refreshKey (setKeyCtx n k (fun y => { y with refusalExpiry := none }) s) n k))
    ∧ (¬ isDue x.refusalExpiry → EndsIn (.refusalIndicationExpiry n k) s s))

/-! ### Routing -/

/-- R60, R61, R63 to R65, R67, R81: SET-SOURCE, SET-DEST and PROTECT on one record, and what each reports, a report for each field
changed. SET-DEST fills a free window place at its own event (log 24). R65, R66: whether a protect holds against a requester
(none: FROM-HOST), and the toggle a panel's PROTECT key asks for. R69, R70: DEFINE-SALVO's checks in their order, and its effect.
R68: a release notification for a node ID sets every protect it owns to NONE, each change reported to KD in order of destination
(the model's choice, log 10), and changes nothing else. With none for the node waiting nothing changes (log 4). -/
def Obligations.RoutingTablesAreSet : Prop :=
  (∀ (tag i : Byte) (s : State),
    (∀ form fs, Admitted .config tag (0 :: i :: form) s → presence [1, 2] form = some fs →
      okIf (fun p => p ≤ 23 || p == 255) (fieldAt fs 0) = true → okIf (fun t => t ≤ 255 || t == 65535) (fieldAt fs 1) = true →
      let old := s.rc.source i.toNat
      let new : SourceRec :=
        { position := ((fieldAt fs 0).map fun p => if p = 255 then none else some p).getD old.position
          tie := ((fieldAt fs 1).map fun t => if t = 65535 then none else some t).getD old.tie }
      ∃ u, RepliesIn (.setSource tag (0 :: i :: form)) s tag .setSource .ok [] u ∧ OnlyChanges [.cp, .rc, .reports] s u
        ∧ u.cp = (taken tag 0x0B s).cp ∧ u.rc = { s.rc with sources := u.rc.sources }
        ∧ (∀ j, u.rc.source j = if j = i.toNat then new else s.rc.source j)
        ∧ u.reports = { s.reports with
            trFromRc := s.reports.trFromRc + (if new.position = old.position then 0 else 1) + (if new.tie = old.tie then 0 else 1)
            kdFromRc := s.reports.kdFromRc ++ if new.position = old.position then [] else [.sourcePosition i.toNat] })
    ∧ (∀ a p, Admitted .live tag [0, i, a] s →
        (a = 0 ∧ p = some (⟨none, .protect⟩ : Protect)) ∨ (a = 1 ∧ p = some ⟨none, .lock⟩) ∨ (a = 2 ∧ p = none) →
        ∃ u, RepliesIn (.protect tag [0, i, a]) s tag .protect .ok [] u ∧ OnlyChanges [.cp, .rc, .reports] s u
          ∧ u.cp = (taken tag 0x0D s).cp ∧ u.rc = { s.rc with dests := u.rc.dests }
          ∧ (∀ d, u.rc.dest d = if d = i.toNat then { s.rc.dest d with protect := p } else s.rc.dest d)
          ∧ u.reports = { s.reports with
              kdFromRc := s.reports.kdFromRc ++ if (s.rc.dest i.toNat).protect = p then [] else [.protect i.toNat] })
    ∧ (∀ c clear, Admitted .live tag [0, i, c] s → flagOf c.toNat = some clear →
        ∃ v, RepliesIn (.setDest tag [0, i, c]) s tag .setDest .ok [] (fillWindow v) ∧ OnlyChanges [.cp, .rc, .reports] s v
          ∧ v.cp = (taken tag 0x0C s).cp
          ∧ v.rc = { s.rc with dests := v.rc.dests, querySet := insertAsc s.rc.querySet i.toNat }
          ∧ (∀ d, v.rc.dest d = if d = i.toNat ∧ clear = true then { s.rc.dest d with confirmed := none } else s.rc.dest d)
          ∧ v.reports =
              match (s.rc.dest i.toNat).confirmed, clear with
              | some x, true => { s.reports with
                  trFromRc := s.reports.trFromRc + 1
                  kdFromRc := s.reports.kdFromRc ++ [.crosspoint i.toNat [x]] }
              | _, _ => s.reports))
  ∧ (∀ (d n : Nat) (owner who : Option Nat) (s : State),
    (holdsAgainst none who = none
      ∧ holdsAgainst (some ⟨owner, .protect⟩) who = (if owner = who then none else some .protectHeld)
      ∧ holdsAgainst (some ⟨owner, .lock⟩) who = some .lockHeld)
    ∧ (let old := (s.rc.dest d).protect
      let becomes (p : Option Protect) : Prop :=
        (toggleProtect d n s).2 = false
        ∧ OnlyChanges [.rc, .reports] s (toggleProtect d n s).1
        ∧ (toggleProtect d n s).1.rc = { s.rc with dests := (toggleProtect d n s).1.rc.dests }
        ∧ (∀ j, (toggleProtect d n s).1.rc.dest j = if j = d then { s.rc.dest j with protect := p } else s.rc.dest j)
        ∧ (toggleProtect d n s).1.reports = { s.reports with kdFromRc := s.reports.kdFromRc ++ [.protect d] }
      (old = none → becomes (some ⟨some n, .protect⟩))
      ∧ (old = some ⟨some n, .protect⟩ → becomes none)
      ∧ (old ≠ none → old ≠ some ⟨some n, .protect⟩ → toggleProtect d n s = (s, true))))
  ∧ (∀ (tag n c : Byte) (rest : List Byte) (s : State),
    Admitted .config tag (n :: c :: rest) s → rest.length = 2 * c.toNat →
    let i := Instr.defineSalvo tag (n :: c :: rest)
    let pairs := bytePairs rest
    (63 < n.toNat → Refuses i s tag 0x0E .range)
    ∧ (n.toNat ≤ 63 →
      (64 < c.toNat ∨ ¬ (pairs.map (·.1)).Nodup → Refuses i s tag 0x0E .malformed)
      ∧ (c.toNat ≤ 64 → (pairs.map (·.1)).Nodup →
        ((∃ f ∈ s.rc.fires, f.salvo = n.toNat) → Refuses i s tag 0x0E .state)
        ∧ ((∀ f ∈ s.rc.fires, f.salvo ≠ n.toNat) →
          (1024 + (s.rc.salvo n.toNat).length < s.rc.poolUsed + pairs.length → Refuses i s tag 0x0E .full)
          ∧ (s.rc.poolUsed + pairs.length ≤ 1024 + (s.rc.salvo n.toNat).length → ∃ u,
              RepliesIn i s tag .defineSalvo .ok [] u ∧ OnlyChanges [.cp, .rc] s u ∧ u.cp = (taken tag 0x0E s).cp
              ∧ u.rc = { s.rc with salvos := u.rc.salvos }
              ∧ ∀ m, u.rc.salvo m = if m = n.toNat then pairs else s.rc.salvo m)))))
  ∧ (∀ (n : Nat) (s : State), TableInv s →
    (n ∉ s.reports.rcReleases → EndsIn (.rcRelease n) s s)
    ∧ (n ∈ s.reports.rcReleases → ∃ u, EndsIn (.rcRelease n) s u ∧ OnlyChanges [.rc, .reports] s u
        ∧ u.rc = { s.rc with dests := u.rc.dests }
        ∧ (∀ d, u.rc.dest d =
            if (s.rc.dest d).protect.any (·.owner == some n) then { s.rc.dest d with protect := none } else s.rc.dest d)
        ∧ u.reports = { s.reports with
            rcReleases := s.reports.rcReleases.erase n
            kdFromRc := s.reports.kdFromRc ++
              ((s.rc.dests.filter fun kv => kv.2.protect.any (·.owner == some n)).map fun kv => .protect kv.1) }))

/-- R72, R73, R80, R92, R93: TAKE's tests in their order and its place in the queue; TAKE-CANCEL on the oldest WAITING entry,
whose outcome is reported before the reply is made (log 24). -/
def Obligations.TakesAreQueuedAndCancelled : Prop :=
  ∀ (tag d x : Byte) (s : State),
    (Admitted .live tag [0, d, 0, x] s →
      let i := Instr.take tag [0, d, 0, x]
      let q := taken tag 0x10 s
      let holds := holdsAgainst (s.rc.dest d.toNat).protect none
      let waits (e : TakeEntry) : Bool := e.dest == d.toNat && e.isWaiting
      (∀ o, holds = some o → Refuses i s tag 0x10 o.code)
      ∧ (holds = none → s.rc.down = true → Refuses i s tag 0x10 .down)
      ∧ (holds = none → s.rc.down = false →
          (s.rc.queue.find? waits = none → 32 ≤ s.rc.queue.length → Refuses i s tag 0x10 .full)
          ∧ (s.rc.queue.find? waits = none → s.rc.queue.length < 32 → EndsIn i s
              (fillWindow
                { q with
                  rc := { s.rc with
                    queue := s.rc.queue ++
                      [{ dest := d.toNat, source := x.toNat, requester := .party (.host tag), state := .waiting }] }
                  reports := { s.reports with kdFromRc := s.reports.kdFromRc ++ [.takes d.toNat []] } }))
          ∧ (∀ front e rest, s.rc.queue = front ++ e :: rest → (∀ y ∈ front, waits y = false) → waits e = true → EndsIn i s
              (fillWindow
                (deliver e.requester .superseded [] [.takes d.toNat (e.requester.panels ++ [])]
                  { q with
                    rc := { s.rc with
                      queue := front ++ { e with source := x.toNat, requester := .party (.host tag) } :: rest } })))))
    ∧ (Admitted .live tag [] s →
      ((∀ e ∈ s.rc.queue, e.isWaiting = false) → Refuses (.takeCancel tag []) s tag 0x11 .state)
      ∧ (∀ front e rest, s.rc.queue = front ++ e :: rest → (∀ y ∈ front, y.isWaiting = false) → e.isWaiting = true →
          RepliesIn (.takeCancel tag []) s tag .takeCancel .ok (e2 e.dest ++ e2 e.source ++ e1 e.requester.code)
            (fillWindow
              (deliver e.requester .cancelled [] [.takes e.dest e.requester.panels]
                { taken tag 0x11 s with rc := { s.rc with queue := front ++ rest } }))))

/-- R71, R94, R95: FIRE-SALVO's tests in their order. A fire that starts queues a take for each pair no protect holds back; with
every pair skipped it completes at once. Its start and its completion are reported to KD. R48, R71, R94, R95: a fire any party
asks for, a panel's SALVO key among them: its tests with the requester identity, its start, which is reported to KD with that
identity, and its completion at once where every pair is skipped. R80: the take a fire queues, or any other, takes the place of
the WAITING entry of its destination, or the end of the queue. The serial number is the model's (log 19). -/
def Obligations.FiresStartOrAreRefused : Prop :=
  (∀ (tag n : Byte) (s : State), Admitted .live tag [n] s → n.toNat ≤ 63 →
    let i := Instr.fireSalvo tag [n]
    let all := s.rc.salvo n.toNat
    let pairs := all.filter fun p => (holdsAgainst (s.rc.dest p.1).protect none).isNone
    let fresh := (pairs.filter fun p => !(s.rc.queue.any fun e => e.dest == p.1 && e.isWaiting)).length
    (all = [] → Refuses i s tag 0x12 .state)
    ∧ (all ≠ [] → s.rc.down = true → Refuses i s tag 0x12 .down)
    ∧ (all ≠ [] → s.rc.down = false → 32 - s.rc.queue.length < fresh → Refuses i s tag 0x12 .full)
    ∧ (all ≠ [] → s.rc.down = false → fresh ≤ 32 - s.rc.queue.length →
        let f : Fire :=
          { serial := s.rc.nextSerial, salvo := n.toNat, party := .host tag, awaiting := pairs.length, done := 0, other := 0
            skipped := all.length - pairs.length }
        (pairs = [] → (∀ g ∈ s.rc.fires, g.serial ≠ s.rc.nextSerial) →
          RepliesIn i s tag .fireSalvo .ok ([0, 0, 0, 0] ++ e2 all.length)
            { taken tag 0x12 s with
              rc := { s.rc with nextSerial := s.rc.nextSerial + 1 }
              reports := { s.reports with kdFromRc := s.reports.kdFromRc ++ [.fire n.toNat none, .fire n.toNat none] } })
        ∧ (pairs ≠ [] → EndsIn i s
            (pairs.foldl (fun t q => enqueue q.1 q.2 (.fire f.serial) t)
              { taken tag 0x12 s with
                rc := { s.rc with fires := s.rc.fires ++ [f], nextSerial := s.rc.nextSerial + 1 }
                reports := { s.reports with kdFromRc := s.reports.kdFromRc ++ [.fire n.toNat none] } }))))
  ∧ (∀ (i n k d src : Nat) (tag : Byte) (who : Option Nat) (r : Requester) (f : Fire) (s : State),
    let all := s.rc.salvo i
    let pairs (w : Option Nat) := all.filter fun p => (holdsAgainst (s.rc.dest p.1).protect w).isNone
    let waits (x : Nat) (e : TakeEntry) : Bool := e.dest == x && e.isWaiting
    let fresh := ((pairs who).filter fun p => !s.rc.queue.any (waits p.1)).length
    (all = [] → fireTest s.rc i who = some .state)
    ∧ (all ≠ [] → s.rc.down = true → fireTest s.rc i who = some .down)
    ∧ (all ≠ [] → s.rc.down = false → 32 - s.rc.queue.length < fresh → fireTest s.rc i who = some .full)
    ∧ (all ≠ [] → s.rc.down = false → fresh ≤ 32 - s.rc.queue.length → fireTest s.rc i who = none)
    ∧ (let mine := pairs (some n)
      let new : Fire :=
        { serial := s.rc.nextSerial, salvo := i, party := .panel n k, awaiting := mine.length, done := 0, other := 0
          skipped := all.length - mine.length }
      (mine = [] → (∀ g ∈ s.rc.fires, g.serial ≠ s.rc.nextSerial) → startFire i (.panel n k) s =
        { s with
          rc := { s.rc with nextSerial := s.rc.nextSerial + 1 }
          reports := { s.reports with
            kdFromRc := s.reports.kdFromRc ++ [.fire i (some n)]
            kdFires := s.reports.kdFires ++ [{ node := n, key := k, salvo := i, done := 0, other := 0, skipped := all.length }] } })
      ∧ (mine ≠ [] → startFire i (.panel n k) s =
          mine.foldl (fun t q => enqueue q.1 q.2 (.fire s.rc.nextSerial) t)
            { s with
              rc := { s.rc with fires := s.rc.fires ++ [new], nextSerial := s.rc.nextSerial + 1 }
              reports := { s.reports with kdFromRc := s.reports.kdFromRc ++ [.fire i (some n)] } }))
    ∧ ((∀ e ∈ s.rc.queue, waits d e = false) → enqueue d src r s = fillWindow
        { s with
          rc := { s.rc with queue := s.rc.queue ++ [{ dest := d, source := src, requester := r, state := .waiting }] }
          reports := { s.reports with kdFromRc := s.reports.kdFromRc ++ [.takes d r.panels] } })
    ∧ (∀ front e rest, s.rc.queue = front ++ e :: rest → (∀ y ∈ front, waits d y = false) → waits d e = true →
        enqueue d src r s = fillWindow
          (deliver e.requester .superseded [] [.takes d (e.requester.panels ++ r.panels)]
            { s with rc := { s.rc with queue := front ++ { e with source := src, requester := r } :: rest } }))
    ∧ (Requester.party (.panel n k)).panels = [n] ∧ (Requester.party (.host tag)).panels = [] ∧ (Requester.fire i).panels = []
    ∧ s.rc.identity (.party (.panel n k)) = some n ∧ s.rc.identity (.party (.host tag)) = none
    ∧ (s.rc.fires.find? (·.serial == i) = some f →
        (f.party = .panel n k → s.rc.identity (.fire i) = some n) ∧ (f.party = .host tag → s.rc.identity (.fire i) = none)))

/-- R63, R81, R82, R87: the choice RC makes for a free place of the window: the oldest sendable entry, whose protect is tested
again, and whose source becomes the pending source, a change reported to KD, or else the first destination of the query set, which
is its lowest, the set being held in ascending order (`RouterQueueInvariantKept`). That an outstanding query of its destination
does not keep an entry from being sendable is log 51's. The choice is made again on the state it leaves, and where there is none
the window is filled. R91, R95: an outcome goes to its requester. The host's take is answered; a panel's is reported; a fire
counts it, and with its last pair completes. -/
def Obligations.WindowAndOutcomes : Prop :=
  (∀ s : State,
    (∀ e, s.rc.sendable e = true ↔ e.state = .waiting ∧ ∀ y ∈ s.rc.queue, y.dest = e.dest → y.state = .waiting)
    ∧ s.rc.windowUsed = (s.rc.queue.filter (·.state != .waiting)).length + s.rc.queries.length
    ∧ (s.rc.down = false → s.rc.windowUsed < 2 →
      (∀ front e rest, s.rc.queue = front ++ e :: rest → (∀ y ∈ front, s.rc.sendable y = false) → s.rc.sendable e = true →
        (∀ o, holdsAgainst (s.rc.dest e.dest).protect (s.rc.identity e.requester) = some o →
          fillPlace s = some (deliver e.requester o [] [.takes e.dest e.requester.panels]
            { s with rc := { s.rc with queue := front ++ rest } }))
        ∧ (holdsAgainst (s.rc.dest e.dest).protect (s.rc.identity e.requester) = none → ∃ t, fillPlace s = some t
            ∧ OnlyChanges [.rc, .reports] s t
            ∧ t.rc = { s.rc with
                dests := t.rc.dests, queue := front ++ { e with state := .sent none } :: rest
                tx := s.rc.tx ++ [.xset e.dest e.source] }
            ∧ (∀ d, t.rc.dest d = if d = e.dest then { s.rc.dest d with pending := some e.source } else s.rc.dest d)
            ∧ t.reports = { s.reports with
                kdFromRc := s.reports.kdFromRc ++
                  if (s.rc.dest e.dest).pending = some e.source then []
                  else [.crosspoint e.dest ((s.rc.dest e.dest).pending.toList ++ [e.source])] }))
      ∧ ((∀ y ∈ s.rc.queue, s.rc.sendable y = false) →
          fillPlace s = (s.rc.querySet.find? fun d => !s.rc.sentFor d && !s.rc.queries.any (·.dest == d)).map fun d =>
            { s with
              rc := { s.rc with
                querySet := s.rc.querySet.filter (· != d), queries := s.rc.queries ++ [⟨d, none⟩]
                tx := s.rc.tx ++ [.xask d false] } }))
    ∧ (s.rc.down = true ∨ 2 ≤ s.rc.windowUsed → fillWindow s = s)
    ∧ (∀ t, fillPlace s = some t → fillWindow s = fillWindow t) ∧ (fillPlace s = none → fillWindow s = s)
    ∧ fillPlace (fillWindow s) = none)
  ∧ (∀ (o : TakeOutcome) (content : List Byte) (changes : List ImageReport) (tag : Byte) (n k serial : Nat) (f : Fire) (s : State),
    let told := { s with reports := { s.reports with kdFromRc := s.reports.kdFromRc ++ changes } }
    (⟨tag, 0x10⟩ ∈ s.cp.outstanding →
      deliver (.party (.host tag)) o content changes s = makeReply tag 0x10 o.code content (endRequest tag told))
    ∧ (⟨tag, 0x10⟩ ∉ s.cp.outstanding → deliver (.party (.host tag)) o content changes s = told)
    ∧ deliver (.party (.panel n k)) o content changes s =
        { s with
          reports := { s.reports with
            kdOutcomes := s.reports.kdOutcomes ++ [{ node := n, key := k, outcome := o, changes := changes }] } }
    ∧ (s.rc.fires.find? (·.serial == serial) = some f →
        let d := f.done + if o = .done then 1 else 0
        let x := f.other + if o = .done then 0 else 1
        (f.awaiting ≠ 1 → f.awaiting ≠ 0 → deliver (.fire serial) o content changes s =
          { told with
            rc := { s.rc with
              fires := s.rc.fires.map fun g =>
                if g.serial = serial then { f with awaiting := f.awaiting - 1, done := d, other := x } else g } })
        ∧ (f.awaiting = 1 →
            let ended := { told with rc := { s.rc with fires := s.rc.fires.filter (·.serial != serial) } }
            (f.party = .panel n k → deliver (.fire serial) o content changes s =
              { ended with
                reports := { told.reports with
                  kdFires := s.reports.kdFires ++
                    [{ node := n, key := k, salvo := f.salvo, done := d, other := x, skipped := f.skipped }] } })
            ∧ (f.party = .host tag → ⟨tag, 0x12⟩ ∈ s.cp.outstanding → deliver (.fire serial) o content changes s =
                makeReply tag 0x12 .ok (e2 d ++ e2 x ++ e2 f.skipped)
                  (endRequest tag
                    { ended with reports := { told.reports with kdFromRc := told.reports.kdFromRc ++ [.fire f.salvo none] } })))))

/-- R83, R85, R86, R88, R90: the four frames of the router. The first clean frame while DOWN brings the line UP (`s'`); a reply
ends its entry or its query, one not awaited is a stray, and each source named becomes the confirmed source. The counts stop at
65,535 (log 12). -/
def Obligations.RouterFramesAreTaken : Prop :=
  ∀ (d x : Byte) (s s' : State),
    (s.rc.down = false ∧ s' = s)
      ∨ (s.rc.down = true ∧ s' =
          { s with
            cp := { s.cp with flags := s.cp.flags ||| 4 }
            rc := { s.rc with down := false, nextProbe := none, consecutive := 0, querySet := List.range 256 } }) →
    let told (old : Option Nat) : List ImageReport := if old = some x.toNat then [] else [.crosspoint d.toNat (old.toList ++ [x.toNat])]
    let stray := { s' with
      rc := { s'.rc with strays := if s.rc.strays < 65535 then s.rc.strays + 1 else s.rc.strays, consecutive := 0 } }
    let named (u t : State) : Prop :=
      OnlyChanges [.rc, .reports] u t ∧ t.rc = { u.rc with dests := t.rc.dests }
      ∧ (∀ m, t.rc.dest m = if m = d.toNat then { u.rc.dest m with confirmed := some x.toNat } else u.rc.dest m)
      ∧ t.reports = { u.reports with
          trFromRc := u.reports.trFromRc + (if (u.rc.dest d.toNat).confirmed = some x.toNat then 0 else 1)
          kdFromRc := u.reports.kdFromRc ++ told (u.rc.dest d.toNat).confirmed }
    let awaited (e : TakeEntry) : Bool := e.dest == d.toNat && e.isSent
    (∀ front e rest, s.rc.queue = front ++ e :: rest → (∀ y ∈ front, awaited y = false) → awaited e = true →
      let old := s'.rc.dest d.toNat
      let gone : List ImageReport := if old.pending = none then [] else [.crosspoint d.toNat old.pending.toList]
      (∃ u, EndsIn (.xdone d x) s
          (fillWindow (deliver e.requester .done (e2 x.toNat)
            (gone ++ told old.confirmed ++ [.takes d.toNat e.requester.panels]) u))
        ∧ OnlyChanges [.rc, .reports] s' u
        ∧ u.rc = { s'.rc with dests := u.rc.dests, queue := front ++ rest, consecutive := 0 }
        ∧ (∀ m, u.rc.dest m = if m = d.toNat then { old with confirmed := some x.toNat, pending := none } else s'.rc.dest m)
        ∧ u.reports = { s'.reports with trFromRc := s'.reports.trFromRc + (if old.confirmed = some x.toNat then 0 else 1) })
      ∧ (∃ u, EndsIn (.xfail d x) s
          (fillWindow (deliver e.requester .failed [x] (gone ++ [] ++ [.takes d.toNat e.requester.panels]) u))
        ∧ OnlyChanges [.rc] s' u
        ∧ u.rc = { s'.rc with dests := u.rc.dests, queue := front ++ rest, consecutive := 0 }
        ∧ (∀ m, u.rc.dest m = if m = d.toNat then { old with pending := none } else s'.rc.dest m)))
    ∧ ((∀ e ∈ s.rc.queue, awaited e = false) →
        (∃ u, EndsIn (.xdone d x) s (fillWindow u) ∧ named stray u) ∧ EndsIn (.xfail d x) s (fillWindow stray))
    ∧ ((∃ q ∈ s.rc.queries, q.dest = d.toNat) → ∃ u, EndsIn (.xstate d x) s (fillWindow u)
        ∧ named { s' with
            rc := { s'.rc with queries := s'.rc.queries.filter (·.dest != d.toNat), consecutive := 0 } } u)
    ∧ ((∀ q ∈ s.rc.queries, q.dest ≠ d.toNat) → ∃ u, EndsIn (.xstate d x) s (fillWindow u) ∧ named stray u)
    ∧ (∃ u, named s' u ∧ EndsIn (.xmoved d x) s
        (fillWindow
          { u with
            cp := { u.cp with flags := u.cp.flags ||| 8 }
            rc := { u.rc with
              violations :=
                if (s.rc.dest d.toNat).protect.isSome ∧ s.rc.violations < 65535 then s.rc.violations + 1
                else s.rc.violations } }))

/-- R78, R82, R87, R90: frames that are not clean are counted; the end of a frame sent starts the reply timer of its entry or
query; the probe of a DOWN line is sent each second. What nothing awaits changes nothing (log 4); the counts stop at 65,535 (log
12). R84, R88, R89: a reply timer that runs out ends its entry with TIMEOUT, or puts its query's destination back, and counts; the
third in a row takes the line DOWN: WAITING entries are dropped, queries end, the frames chosen before stand (R78), the probe is
set for 1 s on, and ROUTER is set. -/
def Obligations.RouterLineAndTimeouts : Prop :=
  (∀ (d x : Nat) (rest : List RouterFrame) (s : State),
    let expiry := some (after s.now s.rc.replyTimer)
    (∀ i, i = .routerBadFrame ∨ i = .routerGapExpiry → EndsIn i s
      { s with rc := { s.rc with badFrames := if s.rc.badFrames < 65535 then s.rc.badFrames + 1 else s.rc.badFrames } })
    ∧ (s.rc.tx = [] → EndsIn .routerFrameSent s s)
    ∧ (∀ front e after', s.rc.tx = .xset d x :: rest → (∀ y, .xset d y ∉ rest) → s.rc.queue = front ++ e :: after' →
        (∀ y ∈ front, y.dest = d → y.state ≠ .sent none) → e.dest = d → e.state = .sent none →
        EndsIn .routerFrameSent s
          { s with rc := { s.rc with tx := rest, queue := front ++ { e with state := .sent expiry } :: after' } })
    ∧ (∀ front after', s.rc.tx = .xask d false :: rest → .xask d false ∉ rest →
        s.rc.queries = front ++ ⟨d, none⟩ :: after' → (∀ y ∈ front, y ≠ ⟨d, none⟩) →
        EndsIn .routerFrameSent s { s with rc := { s.rc with tx := rest, queries := front ++ ⟨d, expiry⟩ :: after' } })
    ∧ (s.rc.tx = .xask d true :: rest → EndsIn .routerFrameSent s { s with rc := { s.rc with tx := rest } })
    ∧ (∀ e, s.rc.nextProbe = some e → s.rc.down = true → (s.now - e).toNat < 2 ^ 31 → EndsIn .routerProbeTimer s
        { s with rc := { s.rc with tx := s.rc.tx ++ [.xask 0 true], nextProbe := some (e + 1000) } })
    ∧ (s.rc.nextProbe = none ∨ s.rc.down = false → EndsIn .routerProbeTimer s s))
  ∧ (∀ (d : Nat) (s : State),
    (∀ front e rest t, s.rc.queue = front ++ e :: rest → (∀ y ∈ front, (y.dest == d && y.isSent) = false) → e.dest = d →
      e.state = .sent (some t) → (s.now - t).toNat < 2 ^ 31 → ∃ u,
        EndsIn (.takeReplyTimerExpiry d) s
          (fillWindow (routerTimeout (deliver e.requester .timeout []
            ((if (s.rc.dest d).pending = none then [] else [.crosspoint d (s.rc.dest d).pending.toList]) ++ []
              ++ [.takes d e.requester.panels]) u)))
        ∧ OnlyChanges [.rc] s u ∧ u.rc = { s.rc with dests := u.rc.dests, queue := front ++ rest }
        ∧ (∀ m, u.rc.dest m = if m = d then { s.rc.dest m with pending := none } else s.rc.dest m))
    ∧ ((∀ e ∈ s.rc.queue, e.dest = d → e.state = .waiting ∨ e.state = .sent none) → EndsIn (.takeReplyTimerExpiry d) s s)
    ∧ (∀ t, ⟨d, some t⟩ ∈ s.rc.queries → (s.now - t).toNat < 2 ^ 31 → EndsIn (.queryReplyTimerExpiry d) s
        (fillWindow (routerTimeout
          { s with
            rc := { s.rc with
              queries := s.rc.queries.filter (·.dest != d), querySet := insertAsc s.rc.querySet d } })))
    ∧ ((∀ q ∈ s.rc.queries, q.dest = d → q.expiry = none) → EndsIn (.queryReplyTimerExpiry d) s s)
    ∧ (s.rc.down = true ∨ s.rc.consecutive < 2 →
        routerTimeout s = { s with rc := { s.rc with consecutive := bump s.rc.consecutive } })
    ∧ (s.rc.down = false → 2 ≤ s.rc.consecutive →
        let waiting := s.rc.queue.filter (·.isWaiting)
        routerTimeout s = setFlag .router
          (waiting.foldl (fun t e => deliver e.requester .dropped [] [.takes e.dest e.requester.panels] t)
            { s with
              rc := { s.rc with
                consecutive := bump s.rc.consecutive, down := true, queue := s.rc.queue.filter (·.isSent)
                querySet := s.rc.queries.foldl (fun q y => insertAsc q y.dest) s.rc.querySet, queries := []
                nextProbe := some (s.now + 1000) } })))

/-! ### Mixers -/

/-- R100, R103 to R105, R108: a clean record is taken whole. It writes its content, an input above 64 as 0 and counted, refreshes
the line, and is reported to TR once where the mixer state or the line state changes; from SILENT and WITHDRAWN a RESEND is sent
and counted. A frame that is not clean is only counted: a bus above 5, a keyer above 3, a flag other than 0 and 1, or as its line
found it. The counts stop at 65,535 (log 12), and reports wait in order (log 6). -/
def Obligations.MixerRecordsAreTaken : Prop :=
  ∀ (x : Mixer) (b : Fin 6) (k : Fin 4) (on : Bool) (input : Byte) (s : State),
    let m := s.mm.mixer x
    let stored := if input.toNat ≤ 64 then input.toNat else 0
    let outOfRange := if input.toNat ≤ 64 ∨ 65535 ≤ m.outOfRange then m.outOfRange else m.outOfRange + 1
    let taken (i : Instr) (state : MixerState) (outOfRange : Nat) : Prop :=
      EndsIn i s
        (setFlagIf (m.line != .current) .mixer
          ((if state = m.state ∧ m.line = .current then id else reportMixer x)
            (onMixer x
              (fun _ => { m with
                line := .current, state := state, outOfRange := outOfRange, lastRecord := some s.now
                staleExpiry := some (after s.now m.stale), withdrawExpiry := some (after s.now (m.withdraw * 1000))
                records := if m.records < 65535 then m.records + 1 else m.records
                resends :=
                  if (m.line = .silent ∨ m.line = .withdrawn) ∧ m.resends < 65535 then m.resends + 1 else m.resends
                sent := if m.line = .silent ∨ m.line = .withdrawn then m.sent ++ [.resend] else m.sent }) s)))
    let bus (t : BusTable) : BusTable :=
      match b with
      | 0 => { t with pgm := stored }
      | 1 => { t with pvw := stored }
      | 2 => { t with iso1 := stored }
      | 3 => { t with iso2 := stored }
      | 4 => { t with iso3 := stored }
      | 5 => { t with iso4 := stored }
    let keyer (t : Keyers) : Keyers :=
      match k with
      | 0 => { t with k0 := ⟨on, stored⟩ }
      | 1 => { t with k1 := ⟨on, stored⟩ }
      | 2 => { t with k2 := ⟨on, stored⟩ }
      | 3 => { t with k3 := ⟨on, stored⟩ }
    let flag : Byte := if on then 1 else 0
    taken (.aliveRecord x) m.state m.outOfRange
    ∧ taken (.busRecord x (BitVec.ofNat 8 b) input) { m.state with buses := bus m.state.buses } outOfRange
    ∧ taken (.transRecord x flag) { m.state with transition := on } m.outOfRange
    ∧ taken (.keyerRecord x (BitVec.ofNat 8 k) flag input) { m.state with keyers := keyer m.state.keyers } outOfRange
    ∧ (∀ t, reportMixer x t = { t with reports := { t.reports with trFromMm := t.reports.trFromMm ++ [x] } })
    ∧ (∀ i v w, i = .mixerBadFrame x ∨ i = .mixerGapExpiry x ∨ (i = .busRecord x v input ∧ 5 < v.toNat)
          ∨ (i = .transRecord x v ∧ 1 < v.toNat) ∨ (i = .keyerRecord x v w input ∧ (3 < v.toNat ∨ 1 < w.toNat)) →
        EndsIn i s (onMixer x (fun _ => { m with badFrames := if m.badFrames < 65535 then m.badFrames + 1 else m.badFrames }) s))

/-- R106, R107, R109, R110: the expiries of a mixer's line, and SET-MIXER, whose new intervals run from the last record and take
what they bring due at the same step, withdrawal before staleness; a body with no interval leaves the expiries alone. An expiry
nothing awaits changes nothing (log 4). -/
def Obligations.MixerLinesGoStaleAndWithdraw : Prop :=
  ∀ (x : Mixer) (s : State),
    let isDue (e : Option Millis) : Prop := ∃ t, e = some t ∧ (s.now - t).toNat < 2 ^ 31
    let m := s.mm.mixer x
    let live := m.line = .current ∨ m.line = .stale
    let stale (t : State) := setFlag .mixer (reportMixer x (onMixer x (fun y => { y with line := .stale, staleExpiry := none }) t))
    let gone (t : State) := setFlag .mixer
      (reportMixer x (onMixer x (fun y => { y with line := .withdrawn, staleExpiry := none, withdrawExpiry := none }) t))
    (∀ t, reportMixer x t = { t with reports := { t.reports with trFromMm := t.reports.trFromMm ++ [x] } })
    ∧ (m.line = .current → isDue m.staleExpiry → ¬ isDue m.withdrawExpiry → EndsIn (.staleExpiry x) s (stale s))
    ∧ (m.line ≠ .current ∨ ¬ isDue m.staleExpiry ∨ isDue m.withdrawExpiry → EndsIn (.staleExpiry x) s s)
    ∧ (live → isDue m.withdrawExpiry → EndsIn (.withdrawExpiry x) s (gone s))
    ∧ (¬ live ∨ ¬ isDue m.withdrawExpiry → EndsIn (.withdrawExpiry x) s s)
    ∧ (∀ tag body fs, Admitted .live tag (BitVec.ofNat 8 (mixerCode x) :: body) s → presence [1, 2, 1] body = some fs →
        okIf (· ≤ 1) (fieldAt fs 0) = true →
        let stored := ((fieldAt fs 1).map fun v => max 100 (min 5000 v)).getD m.stale
        let limit := ((fieldAt fs 2).map fun v => max 1 (min 60 v)).getD m.withdraw
        let mode := ((fieldAt fs 0).map fun v => if v = 0 then MixerMode.onAir else .rehearsal).getD m.mode
        let new : MixerRec :=
          { m with
            mode := mode, stale := stored, withdraw := limit
            staleExpiry :=
              if fieldAt fs 1 = none then m.staleExpiry else m.staleExpiry.bind fun _ => m.lastRecord.map (after · stored)
            withdrawExpiry :=
              if fieldAt fs 2 = none then m.withdrawExpiry
              else m.withdrawExpiry.bind fun _ => m.lastRecord.map (after · (limit * 1000)) }
        let carried := fieldAt fs 1 ≠ none ∨ fieldAt fs 2 ≠ none
        let q := onMixer x (fun _ => new) (taken tag 0x15 s)
        let u := if mode = m.mode then q else reportMixer x q
        let answer := RepliesIn (.setMixer tag (BitVec.ofNat 8 (mixerCode x) :: body)) s tag .setMixer .ok []
        (¬ carried → answer u) ∧ (carried → live → isDue new.withdrawExpiry → answer (gone u))
        ∧ (carried → m.line = .current → isDue new.staleExpiry → ¬ isDue new.withdrawExpiry → answer (stale u))
        ∧ (¬ (live ∧ isDue new.withdrawExpiry) → ¬ (m.line = .current ∧ isDue new.staleExpiry) → answer u))

/-! ### Tally and lamps -/

/-- R116: the contributions of a mixer: none unless its line is CURRENT or STALE; then exactly those its table gives, in the
table's order, each selection at most once; mixer A's before mixer B's. R117, R118: a walk begins at its binding and goes on from
each source it visits by the source's tie, four hops at most, a met destination ending it with a LOOP stop before the fifth hop
does with a LIMIT stop. R116, R119, R123, R124: the colour set of a position is the union of the colours of the walks that visit
it, the contributions being those of the mixers whose line is CURRENT or STALE; the LIVE port set is the ports of the positions
with RED, each once and ascending. R118, R119: what a resolution holds beside the colour sets: a stop for each walk that stopped,
in the order of the contributions, and the number of the walks that began at no binding. -/
def Obligations.ResolutionGivesColours : Prop :=
  (∀ (x : Mixer) (m : MixerRec) (mm : Mm),
    let air : Colour := if m.mode = .onAir then .red else .amber
    let buses := m.state.buses
    let keyers := m.state.keyers
    let isKeyer (i : Nat) (k : Keyer) : Prop := (i, k) ∈ [(0, keyers.k0), (1, keyers.k1), (2, keyers.k2), (3, keyers.k3)]
    (m.line = .silent ∨ m.line = .withdrawn → mixerContributions x m = [])
    ∧ (m.line = .current ∨ m.line = .stale → ∀ c : Contribution, c ∈ mixerContributions x m ↔
        c.mixer = x ∧ c.input ≠ 0
          ∧ (c = ⟨x, .bus 0, buses.pgm, air⟩
            ∨ c = ⟨x, .bus 1, buses.pvw, if m.state.transition then air else .green⟩
            ∨ (∃ i k, isKeyer i k ∧ k.onAir = true ∧ c = ⟨x, .keyer i, k.fill, air⟩)
            ∨ c = ⟨x, .bus 2, buses.iso1, .amber⟩ ∨ c = ⟨x, .bus 3, buses.iso2, .amber⟩
            ∨ c = ⟨x, .bus 4, buses.iso3, .amber⟩ ∨ c = ⟨x, .bus 5, buses.iso4, .amber⟩))
    ∧ ((mixerContributions x m).map (·.selection)).Sublist
        [.bus 0, .bus 1, .keyer 0, .keyer 1, .keyer 2, .keyer 3, .bus 2, .bus 3, .bus 4, .bus 5]
    ∧ contributionsOf mm = mixerContributions .a mm.a ++ mixerContributions .b mm.b)
  ∧ (∀ (rc : Rc) (d src hops : Nat) (met seen : List Nat),
    walk rc .none = ⟨[], none, true⟩ ∧ walk rc .internal = ⟨[], none, false⟩
    ∧ walk rc (.source src) = visitFrom rc 4 [] src []
    ∧ ((rc.dest d).confirmed = none → walk rc (.dest d) = ⟨[], none, false⟩)
    ∧ ((rc.dest d).confirmed = some src → walk rc (.dest d) = visitFrom rc 4 [d] src [])
    ∧ (let seen' := seen ++ (rc.source src).position.toList
      ((rc.source src).tie = none → visitFrom rc hops met src seen = ⟨seen', none, false⟩)
      ∧ ((rc.source src).tie = some d →
          (d ∈ met → visitFrom rc hops met src seen = ⟨seen', some (.loop, d), false⟩)
          ∧ (d ∉ met → hops = 0 → visitFrom rc hops met src seen = ⟨seen', some (.limit, d), false⟩)
          ∧ (∀ h, d ∉ met → hops = h + 1 →
              ((rc.dest d).confirmed = none → visitFrom rc hops met src seen = ⟨seen', none, false⟩)
              ∧ (∀ y, (rc.dest d).confirmed = some y → visitFrom rc hops met src seen = visitFrom rc h (d :: met) y seen')))))
  ∧ (∀ s : State,
    (∀ p < 24, ∀ c,
      ((resolve s.rc (contributionsOf s.mm) s.tr).position p).colours.has c = true ↔
        ∃ k ∈ contributionsOf s.mm, k.colour = c ∧ p ∈ (walk s.rc (s.tr.binding k.mixer k.input)).visited)
    ∧ (∀ k ∈ contributionsOf s.mm, k.input ≠ 0
        ∧ ((s.mm.mixer k.mixer).line = .current ∨ (s.mm.mixer k.mixer).line = .stale)
        ∧ (k.colour = .red → (s.mm.mixer k.mixer).mode = .onAir))
    ∧ (∀ q, q ∈ s.tr.live ↔ ∃ p < 24, (s.tr.position p).colours.red = true ∧ (s.tr.position p).port = some q)
    ∧ s.tr.live.Pairwise (· < ·)
    ∧ (∀ p, s.tr.guard p = (s.tr.position p).colours.red))
  ∧ (∀ (rc : Rc) (cs : List Contribution) (tr : Tr),
    let result (c : Contribution) : WalkResult := walk rc (tr.binding c.mixer c.input)
    (resolve rc cs tr).contributions = cs
    ∧ (resolve rc cs tr).unbound = (cs.filter fun c => (result c).unbound).length
    ∧ (resolve rc cs tr).stops = cs.filterMap fun c => (result c).stop.map fun st =>
        { mixer := c.mixer, input := c.input, colour := c.colour, kind := st.1, dest := st.2 })

/-- R115, R120 to R122, R125, R126: TR's requests, its recomputation on a report, and the expiry of a host call. What nothing
awaits changes nothing (log 4); reports wait in order (log 6). R125: a key cause joins a position's list once, and leaves it; a
call is active while the list holds a cause, and LD is told exactly where it begins or ends. Nothing else changes. The host's
cause stands beside the list (its expiry is R126's). R121: what a recomputation reports, with the new values: the positions whose
colour set changed, to LD and KD; a changed LIVE port set, to KD and TE; the positions whose guard state changed, to TE. TALLY is
set where a colour set changed or a walk stopped. -/
def Obligations.TallyCommandsAndReports : Prop :=
  (∀ (tag p i : Byte) (s : State),
    (∀ x form b, Admitted .config tag (BitVec.ofNat 8 (mixerCode x) :: i :: form) s → 1 ≤ i.toNat → i.toNat ≤ 64 →
      bindingForm form = some b → bindingInRange b = true →
      let answer := RepliesIn (.setBinding tag (BitVec.ofNat 8 (mixerCode x) :: i :: form)) s tag .setBinding .ok []
      (s.tr.binding x i.toNat = b → answer (taken tag 0x17 s))
      ∧ (s.tr.binding x i.toNat ≠ b → ∃ tr, answer (recompute { taken tag 0x17 s with tr := tr })
          ∧ tr = { s.tr with bindingsA := tr.bindingsA, bindingsB := tr.bindingsB }
          ∧ ∀ y j, tr.binding y j = if y = x ∧ j = i.toNat then b else s.tr.binding y j))
    ∧ (∀ port, Admitted .config tag [p, port] s → p.toNat ≤ 23 → port.toNat ≤ 95 ∨ port = 255 →
        let new := if port = 255 then none else some port.toNat
        let old := (s.tr.position p.toNat).port
        (old = new → RepliesIn (.setPosition tag [p, port]) s tag .setPosition .ok [] (taken tag 0x18 s))
        ∧ (old ≠ new → ∃ u, RepliesIn (.setPosition tag [p, port]) s tag .setPosition .ok [] u
            ∧ OnlyChanges [.cp, .tr, .reports] s u ∧ u.cp = (taken tag 0x18 s).cp
            ∧ u.tr = { s.tr with positions := u.tr.positions }
            ∧ (∀ j, u.tr.position j = if j = p.toNat then { s.tr.position j with port := new } else s.tr.position j)
            ∧ u.reports = { s.reports with
                kdFromTr := s.reports.kdFromTr ++ [.positionPort old new] ++
                  (if s.tr.live = u.tr.live then [] else [.live u.tr.live])
                teFromTr := s.reports.teFromTr ++
                  if s.tr.live = u.tr.live then [] else [{ live := some u.tr.live, guards := [] }] }))
    ∧ (∀ d, Admitted .live tag [p, d] s → p.toNat ≤ 23 → ∃ u,
        RepliesIn (.call tag [p, d]) s tag .call .ok [] u ∧ OnlyChanges [.cp, .tr, .reports] s u
        ∧ u.cp = (taken tag 0x19 s).cp ∧ u.tr = { s.tr with positions := u.tr.positions }
        ∧ (∀ j, u.tr.position j =
            if j = p.toNat then { s.tr.position j with hostCall := some (after s.now (max 1 (min 30 d.toNat) * 1000)) }
            else s.tr.position j)
        ∧ u.reports = { s.reports with
            ldCalls := s.reports.ldCalls ++ if (s.tr.position p.toNat).called then [] else [(p.toNat, true)] })
    ∧ (∀ y rest, s.reports.trFromMm = y :: rest → EndsIn (.trRecomputation .mm) s
        (recompute { s with reports := { s.reports with trFromMm := rest } }))
    ∧ (∀ n, s.reports.trFromRc = n + 1 → EndsIn (.trRecomputation .rc) s
        (recompute { s with reports := { s.reports with trFromRc := n } }))
    ∧ (s.reports.trFromMm = [] → EndsIn (.trRecomputation .mm) s s)
    ∧ (s.reports.trFromRc = 0 → EndsIn (.trRecomputation .rc) s s)
    ∧ (∀ n e, (s.tr.position n).hostCall = some e → (s.now - e).toNat < 2 ^ 31 → ∃ u,
        EndsIn (.hostCallExpiry n) s u ∧ OnlyChanges [.tr, .reports] s u ∧ u.tr = { s.tr with positions := u.tr.positions }
        ∧ (∀ j, u.tr.position j = if j = n then { s.tr.position j with hostCall := none } else s.tr.position j)
        ∧ u.reports = { s.reports with
            ldCalls := s.reports.ldCalls ++ if (s.tr.position n).keyCalls = [] then [(n, false)] else [] })
    ∧ (∀ n, (s.tr.position n).hostCall = none → EndsIn (.hostCallExpiry n) s s))
  ∧ (∀ (p n k : Nat) (x : Position) (s : State),
    let old := s.tr.position p
    let leaves (t : State) (calls : List (Nat × Nat)) (told : List (Nat × Bool)) : Prop :=
      OnlyChanges [.tr, .reports] s t ∧ t.tr = { s.tr with positions := t.tr.positions }
      ∧ (∀ j, t.tr.position j = if j = p then { old with keyCalls := calls } else s.tr.position j)
      ∧ t.reports = { s.reports with ldCalls := s.reports.ldCalls ++ told }
    let left := old.keyCalls.filter (· ≠ (n, k))
    (x.called = true ↔ x.hostCall ≠ none ∨ x.keyCalls ≠ [])
    ∧ leaves (addKeyCall p n k s) (if (n, k) ∈ old.keyCalls then old.keyCalls else old.keyCalls ++ [(n, k)])
        (if old.hostCall = none ∧ old.keyCalls = [] then [(p, true)] else [])
    ∧ leaves (removeKeyCall p n k s) left
        (if old.hostCall = none ∧ old.keyCalls ≠ [] ∧ left = [] then [(p, false)] else []))
  ∧ (∀ s : State,
    let new := resolve s.rc (contributionsOf s.mm) s.tr
    let changed := ((List.range 24).filter fun p => (s.tr.position p).colours != (new.position p).colours).map fun p =>
      (p, (new.position p).colours)
    let guards := ((List.range 24).filter fun p => s.tr.guard p != new.guard p).map fun p => (p, (new.position p).colours.red)
    OnlyChanges [.cp, .tr, .reports] s (recompute s) ∧ (recompute s).tr = new
    ∧ (recompute s).cp = { s.cp with flags := if changed = [] ∧ new.stops = [] then s.cp.flags else s.cp.flags ||| 32 }
    ∧ (recompute s).reports = { s.reports with
        ldRelights := s.reports.ldRelights ++ (if changed = [] then [] else [changed])
        kdFromTr := s.reports.kdFromTr ++ (if changed = [] then [] else [.colours changed]) ++
          (if s.tr.live = new.live then [] else [.live new.live])
        teFromTr := s.reports.teFromTr ++
          if s.tr.live = new.live ∧ guards = [] then []
          else [{ live := if s.tr.live = new.live then none else some new.live, guards := guards }] }
    ∧ new.bindingsA = s.tr.bindingsA ∧ new.bindingsB = s.tr.bindingsB ∧ new.resolutions = bump s.tr.resolutions
    ∧ ∀ p < 24, new.position p = { s.tr.position p with colours := (new.position p).colours })

/-- R131: a channel is lit when its colour is in its position's colour set; with EXCLUSIVE set the channel of the highest colour
of the set alone, RED before AMBER before GREEN; with the set empty none. R132: the target of a channel that is not lit is 0; of
one that is lit it is the manual level, or else the auto target, raised to the floor. -/
def Obligations.LitChannelsAndTargets : Prop :=
  ∀ (p : Nat) (cs : Colours) (ld : Ld),
    let lamp := ld.lamp p
    let ch (n : Nat) : Channel := (relightWith cs ld p).channel (3 * p + n)
    let auto := (ld.house * lamp.trim + 127) / 255
    (cs = ⟨false, false, false⟩ → ∀ n < 3, (ch n).lit = false)
    ∧ (lamp.exclusive = false → (ch 0).lit = cs.red ∧ (ch 1).lit = cs.green ∧ (ch 2).lit = cs.amber)
    ∧ (lamp.exclusive = true →
        (ch 0).lit = cs.red ∧ (ch 2).lit = (!cs.red && cs.amber) ∧ (ch 1).lit = (!cs.red && !cs.amber && cs.green))
    ∧ (∀ n < 3, (ch n).lit = false → (ch n).target = 0)
    ∧ (∀ n < 3, ∀ m, (ch n).lit = true → lamp.manual = some m → (ch n).target = m)
    ∧ (∀ n < 3, (ch n).lit = true → lamp.manual = none → (ch n).target = if auto < ld.floor then ld.floor else auto)

/-- R131 to R133, R135: relighting a position. Each of its channels becomes lit or dark by the colour set, takes its target, and its
level by the table; its output follows the call. R138 to R140: SET-HOUSE, SET-LAMP and LAMP-TIMING store their fields and relight
what they change. A tick setting moves the next tick, and one already reached falls at the same step, once, the next then a tick
from now (the model's reading, log 5). What a write changes is relit at the write, before the tick (log 35). Relighting every
position takes each of the 24 in turn with the colour set TR holds (R133). The layout of SET-LAMP's reply, 0xFF in the place of the
phase where no call is active among it, is log 14's. -/
def Obligations.RelightingAndLampSettings : Prop :=
  (∀ (p : Nat) (cs : Colours) (ld : Ld),
    let lamp := ld.lamp p
    let top := if cs.red then some Colour.red else if cs.amber then some .amber else if cs.green then some .green else none
    let lit (c : Colour) : Bool := if lamp.exclusive then top == some c else cs.has c
    let target := match lamp.manual with
      | some m => m
      | none => max ld.floor ((ld.house * lamp.trim + 127) / 255)
    let anyLit := lit .red || lit .green || lit .amber
    let after (n : Nat) (c : Colour) : Prop :=
      let old := ld.channel (3 * p + n)
      let level := if !lit c then 0 else if old.lit then old.level else target
      (relightWith cs ld p).channel (3 * p + n) =
        { lit := lit c, target := if lit c then target else 0, level := level
          output := match lamp.phase with
            | none => level
            | some (false, _) => 0
            | some (true, _) => if anyLit then level else if c = .amber then target else 0
          pin := old.pin }
    after 0 .red ∧ after 1 .green ∧ after 2 .amber
    ∧ (∀ i, i / 3 ≠ p → (relightWith cs ld p).channel i = ld.channel i)
    ∧ relightWith cs ld p = { ld with channels := (relightWith cs ld p).channels })
  ∧ (∀ (tag p : Byte) (s : State),
    (∀ q : State, OnlyChanges [.ld] q (relightAll q)
      ∧ (relightAll q).ld = (List.range 24).foldl (fun ld z => relightWith (q.tr.position z).colours ld z) q.ld)
    ∧ (∀ body fs, Admitted .live tag body s → presence [1] body = some fs →
      let h := ((fieldAt fs 0).map fun v => min 255 v).getD s.ld.house
      let q := { taken tag 0x1B s with ld := { s.ld with house := h } }
      RepliesIn (.setHouse tag body) s tag .setHouse .ok [BitVec.ofNat 8 h] (if h = s.ld.house then q else relightAll q))
    ∧ (∀ body fs, Admitted (readbackClass 1 (p :: body)) tag (p :: body) s → presence [1, 2, 1] body = some fs →
        okIf (· ≤ 1) (fieldAt fs 2) = true → p.toNat ≤ 23 →
        let old := s.ld.lamp p.toNat
        let new : Lamp :=
          { old with
            trim := ((fieldAt fs 0).map fun v => min 255 v).getD old.trim
            manual := ((fieldAt fs 1).map fun v => if v = 65535 then none else some (min 255 v)).getD old.manual
            exclusive := ((fieldAt fs 2).map (· == 1)).getD old.exclusive }
        let flag (x : Bool) : Byte := if x then 1 else 0
        let manual := new.manual.getD 65535
        let channel (ld : Ld) (n : Nat) : List Byte :=
          let c := ld.channel (3 * p.toNat + n)
          [flag c.lit, BitVec.ofNat 8 c.target, BitVec.ofNat 8 c.level, BitVec.ofNat 8 c.output]
        ∃ u, RepliesIn (.setLamp tag (p :: body)) s tag .setLamp .ok
            ([BitVec.ofNat 8 new.trim, BitVec.ofNat 8 (manual / 256), BitVec.ofNat 8 manual, flag new.exclusive]
              ++ channel u.ld 0 ++ channel u.ld 1 ++ channel u.ld 2
              ++ (match old.phase with
                | none => [0, 0xFF]
                | some (on, _) => [1, flag on])) u
          ∧ OnlyChanges [.cp, .ld] s u ∧ u.cp = (taken tag 0x1C s).cp
          ∧ u.ld = { s.ld with lamps := u.ld.lamps, channels := u.ld.channels }
          ∧ (∀ j, u.ld.lamp j = if j = p.toNat then new else s.ld.lamp j)
          ∧ (new = old → u.ld = s.ld)
          ∧ (new ≠ old → u.ld.channels = (relightWith (s.tr.position p.toNat).colours { s.ld with lamps := u.ld.lamps } p.toNat).channels))
    ∧ (∀ body fs, Admitted (readbackClass 0 body) tag body s → presence [1, 1, 1] body = some fs →
        let step := ((fieldAt fs 1).map fun v => max 1 (min 255 v)).getD s.ld.step
        let floor := ((fieldAt fs 2).map fun v => min 255 v).getD s.ld.floor
        let q := { taken tag 0x1D s with ld := { s.ld with step := step, floor := floor } }
        let r := if floor = s.ld.floor then q else relightAll q
        (fieldAt fs 0 = none → RepliesIn (.lampTiming tag body) s tag .lampTiming .ok (e1 s.ld.tick ++ e1 step ++ e1 floor) r)
        ∧ (∀ v, fieldAt fs 0 = some v →
            let tick := max 10 (min 250 v)
            let next := s.ld.nextTick - BitVec.ofNat 32 s.ld.tick + BitVec.ofNat 32 tick
            RepliesIn (.lampTiming tag body) s tag .lampTiming .ok (e1 tick ++ e1 step ++ e1 floor)
              (if (s.now - next).toNat < 2 ^ 31 then
                { r with ld := { tickLamps { r.ld with tick := tick } with nextTick := s.now + BitVec.ofNat 32 tick } }
              else { r with ld := { r.ld with tick := tick, nextTick := next } }))))

/-- R133 to R136: LD takes its reports, its ticks and its phases. Where a call begins, ends or changes its phase, the output level
of each of the position's three channels is found anew, and nothing else of them changes. A lamp tick moves every level toward its
target by the step, and the output levels follow. A relighting reads the colour set as TR holds it (R130, log 6). What nothing
awaits changes nothing (log 4), and a time is due for 2^31 ms (log 5). R193: the millisecond count rises by one modulo 2^32, and
each lamp pin takes the output level in force (R135). -/
def Obligations.LampEventsTakeEffect : Prop :=
  (∀ (p : Nat) (s : State),
    let wouldBe (q : Nat) : Nat :=
      match (s.ld.lamp q).manual with
      | some m => m
      | none => max s.ld.floor ((s.ld.house * (s.ld.lamp q).trim + 127) / 255)
    let anyLit (q : Nat) : Bool := (s.ld.channel (3 * q)).lit || (s.ld.channel (3 * q + 1)).lit || (s.ld.channel (3 * q + 2)).lit
    let output (phase : Option (Bool × Millis)) (i level : Nat) : Nat :=
      match phase with
      | none => level
      | some (false, _) => 0
      | some (true, _) => if anyLit (i / 3) then level else if i % 3 = 2 then wouldBe (i / 3) else 0
    let flashes (u : State) (reports : Reports) (phase : Option (Bool × Millis)) : Prop :=
      OnlyChanges [.ld, .reports] s u ∧ u.reports = reports
      ∧ u.ld = { s.ld with lamps := u.ld.lamps, channels := u.ld.channels }
      ∧ (∀ q, u.ld.lamp q = if q = p then { s.ld.lamp p with phase := phase } else s.ld.lamp q)
      ∧ ∀ i, u.ld.channel i =
          if i / 3 = p then { s.ld.channel i with output := output phase i (s.ld.channel i).level } else s.ld.channel i
    (∀ changed rest, s.reports.ldRelights = changed :: rest → ∃ u, EndsIn .ldRelight s u ∧ OnlyChanges [.ld, .reports] s u
        ∧ u.reports = { s.reports with ldRelights := rest }
        ∧ u.ld = (changed.map (·.1)).foldl (fun ld p => relightWith (s.tr.position p).colours ld p) s.ld)
    ∧ (s.reports.ldRelights = [] → EndsIn .ldRelight s s)
    ∧ (∀ rest, takeFirst (fun (x : Nat × Bool) => x.1 == p) s.reports.ldCalls = some ((p, true), rest) →
        EndsIn (.ldCallEnd p) s s
        ∧ ∃ u, EndsIn (.ldCallStart p) s u ∧ flashes u { s.reports with ldCalls := rest } (some (true, s.now + 125)))
    ∧ (∀ rest, takeFirst (fun (x : Nat × Bool) => x.1 == p) s.reports.ldCalls = some ((p, false), rest) →
        EndsIn (.ldCallStart p) s s
        ∧ ∃ u, EndsIn (.ldCallEnd p) s u ∧ flashes u { s.reports with ldCalls := rest } none)
    ∧ (∀ on e, (s.ld.lamp p).phase = some (on, e) → (s.now - e).toNat < 2 ^ 31 → ∃ u,
        EndsIn (.phaseExpiry p) s u ∧ flashes u s.reports (some (!on, e + 125)))
    ∧ ((∀ on e, (s.ld.lamp p).phase = some (on, e) → 2 ^ 31 ≤ (s.now - e).toNat) → EndsIn (.phaseExpiry p) s s)
    ∧ (2 ^ 31 ≤ (s.now - s.ld.nextTick).toNat → EndsIn .lampTick s s)
    ∧ ((s.now - s.ld.nextTick).toNat < 2 ^ 31 → ∃ u, EndsIn .lampTick s u ∧ OnlyChanges [.ld] s u
        ∧ u.ld = { s.ld with channels := u.ld.channels, nextTick := after s.ld.nextTick s.ld.tick }
        ∧ ∀ i < 72,
            let c := s.ld.channel i
            let level :=
              if c.level < c.target then min c.target (c.level + s.ld.step) else max c.target (c.level - s.ld.step)
            u.ld.channel i = { c with level := level, output := output (s.ld.lamp (i / 3)).phase i level }))
  ∧ (∀ s : State, ∃ u, EndsIn .millisecondCountTick s u ∧ OnlyChanges [.now, .ld] s u
    ∧ u.now.toNat = (s.now.toNat + 1) % 2 ^ 32
    ∧ (∀ c, u.ld.channel c = { s.ld.channel c with pin := (s.ld.channel c).output })
    ∧ u.ld = { s.ld with channels := u.ld.channels })

/-! ### Talk paths and gains -/

/-- R143 to R146: SET-PORT and SET-GROUP, the port's checks in their order. Accepted, the record or the members are as given and
every other one as it was. Each field of a port is the one carried, clamped, or the one held, or, where a new kind does not have it,
its power-on value. The causes that read a changed receive level take it and their entries the highest level of their causes, and,
in a path table in its form (`PathTableInvariantKept`), the entries of the port have new targets; or the group's active keys have
the causes its new members call for (the order in which those of several keys enter one pair is log 10's). Without room for those it
is refused FULL, PATHS is set and the refusal counted (R153), the count stopping at 65,535 (log 12). R145: SET-GROUP's checks in
their order: the group and the ports, then more than 32 ports or a port named twice, a count that is not the list's length coming
before both (log 13). R146, R158: what a SET-GROUP that changes the members reports to KD: each entry that becomes OPEN or stops
being OPEN, in the order of the path table (log 10), and then the group, once. R146: the keys a SET-GROUP re-derives: every active
TALK or LISTEN key whose entry names the group, on every panel context of a panel with an intercom port, each with the causes it
would have under the new members, by node and then key (the order is log 10's). R147 to R149, R160: standing paths. ADD-STANDING
takes the lowest undefined slot and records its cause, or is refused FULL; DROP-STANDING frees the slot and withdraws its cause. -/
def Obligations.PortsGroupsAndStandingPaths : Prop :=
  (∀ (tag p : Byte) (s : State),
    (∀ body, Admitted .config tag (p :: body) s →
      (95 < p.toNat → Refuses (.setPort tag (p :: body)) s tag 0x1E .range)
      ∧ (p.toNat ≤ 95 → body.length ≤ 1 → body ≠ [0] → Refuses (.setPort tag (p :: body)) s tag 0x1E .malformed)
      ∧ (∀ fs, presence [1, 1, 1, 1, 1, 1, 1, 1] body = some fs →
          okIf (indexUpTo 95) (fieldAt fs 6) = false ∨ okIf (indexUpTo 23) (fieldAt fs 7) = false →
          Refuses (.setPort tag (p :: body)) s tag 0x1E .range))
    ∧ (∀ body fs, Admitted .config tag (p :: body) s → presence [1, 1, 1, 1, 1, 1, 1, 1] body = some fs → p.toNat ≤ 95 →
      okIf (indexUpTo 95) (fieldAt fs 6) = true → okIf (indexUpTo 23) (fieldAt fs 7) = true →
      let i := Instr.setPort tag (p :: body)
      let old := s.te.port p.toNat
      let kind := ((fieldAt fs 0).map PortKind.ofCode).getD old.kind
      let signed (n : Nat) : Int := if n < 128 then (n : Int) else (n : Int) - 256
      let within (lo hi : Int) (f : Option Nat) (held : Int) : Int := (f.map fun n => max lo (min hi (signed n))).getD held
      let optional (n : Nat) : Option Nat := if n = 255 then none else some n
      let misfit := (kind ≠ .ifb ∧ ((∃ d, fieldAt fs 5 = some d ∧ d ≠ 0) ∨ ∃ q, fieldAt fs 6 = some q ∧ q ≠ 255))
        ∨ (kind ≠ .speaker ∧ ∃ g, fieldAt fs 7 = some g ∧ g ≠ 255) ∨ fieldAt fs 6 = some p.toNat
      let raised (e : PathEntry) : Prop :=
        (old.update fs).receive ≠ old.receive ∧ e.listener = p.toNat ∧ ∃ c ∈ e.causes, readsReceive s.kd e.talker c = true
      (okIf (· ≤ 4) (fieldAt fs 0) = false → Refuses i s tag 0x1E .malformed)
      ∧ (old.update fs =
          { kind := kind, receive := within (-80) 24 (fieldAt fs 1) old.receive
            inTrim := within (-24) 24 (fieldAt fs 2) old.inTrim, outTrim := within (-24) 24 (fieldAt fs 3) old.outTrim
            dim := ((fieldAt fs 4).map (min 60)).getD old.dim
            duck := ((fieldAt fs 5).map fun n => if n = 255 then Duck.full else .steps (min 80 n)).getD
              (if kind = .ifb then old.duck else .steps 0)
            program := ((fieldAt fs 6).map optional).getD (if kind = .ifb then old.program else none)
            guardPos := ((fieldAt fs 7).map optional).getD (if kind = .speaker then old.guardPos else none) })
      ∧ (∀ talker c, readsReceive s.kd talker c = true ↔ (∃ n k, c.origin = .live n k)
          ∨ ∃ n k r, c.origin = .key n k ∧ (s.kd.entry n k).isTalk = true ∧ tfind s.kd.records n = some r ∧ r.port = some talker)
      ∧ (okIf (· ≤ 4) (fieldAt fs 0) = true →
        (misfit → Refuses i s tag 0x1E .malformed)
        ∧ (¬ misfit → ∃ u,
            RepliesIn i s tag .setPort .ok [] u ∧ OnlyChanges [.cp, .te, .ml] s u ∧ u.cp = (taken tag 0x1E s).cp
            ∧ u.te = { s.te with ports := u.te.ports, paths := u.te.paths }
            ∧ (∀ j, u.te.port j = if j = p.toNat then old.update fs else s.te.port j)
            ∧ (old.update fs = old → u = taken tag 0x1E s)
            ∧ (old.update fs ≠ old → tsorted s.te.paths = true → ∀ key e, tfind s.te.paths key = some e → ∃ f, tfind u.te.paths key = some f
                ∧ f.causes = e.causes.map (fun c =>
                    if (old.update fs).receive ≠ old.receive ∧ e.listener = p.toNat ∧ readsReceive s.kd e.talker c = true then
                      { c with level := (old.update fs).receive }
                    else c)
                ∧ (raised e → f.opened = true ∧ (∃ c ∈ f.causes, c.level = f.level) ∧ ∀ c ∈ f.causes, c.level ≤ f.level)
                ∧ (¬ raised e → f.opened = e.opened ∧ f.level = e.level)
                ∧ (e.talker = p.toNat ∨ e.listener = p.toNat → f.target = targetGain u.te f)
                ∧ (e.talker ≠ p.toNat → e.listener ≠ p.toNat → f = { e with sync := f.sync })))))
    ∧ (∀ members, Admitted .config tag (p :: BitVec.ofNat 8 members.length :: members) s → p.toNat ≤ 31 →
        members.length ≤ 32 → members.Nodup → (∀ x ∈ members, x.toNat ≤ 95) →
        let i := Instr.setGroup tag (p :: BitVec.ofNat 8 members.length :: members)
        let new := sortAsc (members.map (·.toNat))
        let would := groupWould s p.toNat new
        let news := would.flatMap fun w => lacking s.te (ofKey w.1 w.2.1) w.2.2
        let freed := (s.te.paths.map fun kv => kv.2.causes.countP (groupGone would kv.1)).sum
        (new = s.te.group p.toNat → RepliesIn i s tag .setGroup .ok [] (taken tag 0x1F s))
        ∧ (new ≠ s.te.group p.toNat → hasRoom s.te freed news = true → ∃ u,
            RepliesIn i s tag .setGroup .ok [] u ∧ OnlyChanges [.cp, .te, .ml, .reports] s u ∧ u.cp = (taken tag 0x1F s).cp
            ∧ (∀ g, u.te.group g = if g = p.toNat then new else s.te.group g) ∧ u.te.ports = s.te.ports
            ∧ u.te.standing = s.te.standing ∧ u.te.refusals = s.te.refusals
            ∧ (∀ key, (tfind u.te.paths key).map (·.causes) =
                (tfind (changeCauses (groupGone would) news s.te.paths) key).map (·.causes))
            ∧ ∀ w ∈ would, ∀ key,
                (∃ e, tfind u.te.paths key = some e ∧ ∃ c ∈ e.causes, ofKey w.1 w.2.1 c = true) ↔ ∃ x ∈ w.2.2, x.key = key)
        ∧ (new ≠ s.te.group p.toNat → hasRoom s.te freed news = true → ∃ u flips,
            RepliesIn i s tag .setGroup .ok [] u
            ∧ u.reports = { s.reports with
                kdFromTe := s.reports.kdFromTe ++ flips ++ [.group p.toNat], teFromMl := u.reports.teFromMl }
            ∧ (∀ r ∈ flips, ∃ t l, r = .path t l)
            ∧ (tsorted s.te.paths = true → flips =
                ((changeCauses (groupGone would) news s.te.paths).filter fun kv =>
                  (tfind s.te.paths kv.1).any (·.opened) != kv.2.opened).map fun kv => .path kv.2.talker kv.2.listener))
        ∧ (new ≠ s.te.group p.toNat → hasRoom s.te freed news = false →
            RepliesIn i s tag .setGroup .full []
              { taken tag 0x1F s with
                cp := { (taken tag 0x1F s).cp with flags := s.cp.flags ||| 64 }
                te := { s.te with refusals := if s.te.refusals < 65535 then s.te.refusals + 1 else s.te.refusals } })))
  ∧ (∀ (tag g c : Byte) (ports : List Byte) (s : State), Admitted .config tag (g :: c :: ports) s →
    let i := Instr.setGroup tag (g :: c :: ports)
    let outside := 31 < g.toNat ∨ ∃ x ∈ ports, 95 < x.toNat
    (ports.length ≠ c.toNat → Refuses i s tag 0x1F .malformed)
    ∧ (ports.length = c.toNat → outside → Refuses i s tag 0x1F .range)
    ∧ (ports.length = c.toNat → ¬ outside → 32 < ports.length ∨ ¬ ports.Nodup → Refuses i s tag 0x1F .malformed))
  ∧ (∀ (g : Nat) (members : List Nat) (s : State),
    (∀ n k causes, (n, k, causes) ∈ groupWould s g members ↔
      ∃ c x r p, (n, c) ∈ s.kd.contexts ∧ (k, x) ∈ c.keys ∧ x.state ≠ .idle ∧ tfind s.kd.records n = some r ∧ r.port = some p
        ∧ (let e := tget KeyEntry.none r.keys k
          ((∃ mode lw level limit, e = .talk (.group g) mode lw level limit) ∨ ∃ level, e = .listen (.group g) level)
          ∧ causes = causesOfKey s.te n k p members e))
    ∧ (tsorted s.kd.contexts = true → (∀ kv ∈ s.kd.contexts, tsorted kv.2.keys = true) →
        (groupWould s g members).Pairwise fun a b => a.1 < b.1 ∨ (a.1 = b.1 ∧ a.2.1 < b.2.1)))
  ∧ (∀ (tag t l v : Byte) (s : State),
    (Admitted .config tag [t, l, v] s → 95 < t.toNat ∨ 95 < l.toNat → Refuses (.addStanding tag [t, l, v]) s tag 0x20 .range)
    ∧ (Admitted .config tag [t, l, v] s → t.toNat ≤ 95 → l.toNat ≤ 95 →
      let i := Instr.addStanding tag [t, l, v]
      let level := max (-80) (min 24 (if v.toNat < 128 then (v.toNat : Int) else (v.toNat : Int) - 256))
      (t = l → Refuses i s tag 0x20 .malformed)
      ∧ (t ≠ l →
        ((∀ k < 128, (tfind s.te.standing k).isSome = true) → Refuses i s tag 0x20 .full)
        ∧ (∀ k < 128, tfind s.te.standing k = none → (∀ j < k, (tfind s.te.standing j).isSome = true) →
            let news : List NewCause := [⟨t.toNat, l.toNat, { origin := .standing k, level := level }⟩]
            (hasRoom s.te 0 news = false →
              RepliesIn i s tag .addStanding .full []
                { taken tag 0x20 s with
                  cp := { (taken tag 0x20 s).cp with flags := s.cp.flags ||| 64 }
                  te := { s.te with refusals := if s.te.refusals < 65535 then s.te.refusals + 1 else s.te.refusals } })
            ∧ (hasRoom s.te 0 news = true → ∃ u,
                RepliesIn i s tag .addStanding .ok [BitVec.ofNat 8 k] u ∧ OnlyChanges [.cp, .te, .ml, .reports] s u
                ∧ u.cp = (taken tag 0x20 s).cp
                ∧ (∀ j, tfind u.te.standing j =
                    if j = k then some { talker := t.toNat, listener := l.toNat, level := level } else tfind s.te.standing j)
                ∧ (∃ e, u.te.entry t.toNat l.toNat = some e
                    ∧ { origin := .standing k, level := level } ∈ e.causes)))))
    ∧ (Admitted .config tag [t] s → t.toNat ≤ 127 →
      (tfind s.te.standing t.toNat = none → Refuses (.dropStanding tag [t]) s tag 0x21 .state)
      ∧ ((tfind s.te.standing t.toNat).isSome = true → ∃ u,
          RepliesIn (.dropStanding tag [t]) s tag .dropStanding .ok [] u ∧ OnlyChanges [.cp, .te, .ml, .reports] s u
          ∧ u.cp = (taken tag 0x21 s).cp
          ∧ (∀ j, tfind u.te.standing j = if j = t.toNat then none else tfind s.te.standing j)
          ∧ ∀ kv ∈ u.te.paths, ∀ c ∈ kv.2.causes, c.origin ≠ .standing t.toNat)))

/-- R163 to R165: the target gain by the steps of R163. The guard states are those TR has reported to TE (R121, R162): that TE
reads the reported ones and not TR's own is the model's choice (DEDUCED, log 6). -/
def Obligations.TargetGainBySteps : Prop :=
  ∀ (te : Te) (e : PathEntry),
    let talker := te.port e.talker
    let l := te.port e.listener
    let dim := if te.isOpen e.listener e.talker then l.dim else 0
    let sum : Int := e.level + talker.inTrim + l.outTrim - (dim : Int)
    let ducks := l.kind = .ifb ∧ l.program = some e.talker
      ∧ ∃ kv ∈ te.paths, kv.2.listener = e.listener ∧ kv.2.talker ≠ e.talker ∧ kv.2.opened = true
    let limited (x : Int) : Gain := if 24 < x then .steps 24 else if x < -80 then .mute else .steps x
    let guarded := ∃ p, l.kind = .speaker ∧ l.guardPos = some p ∧ p ∈ te.guards
    (guarded → targetGain te e = .mute) ∧ (e.opened = false → targetGain te e = .mute)
    ∧ (e.opened = true → ¬ guarded →
        (¬ ducks → targetGain te e = limited sum) ∧ (ducks → l.duck = .full → targetGain te e = .mute)
        ∧ (∀ n, ducks → l.duck = .steps n → targetGain te e = limited (sum - (n : Int))))

/-- R155, R156: after an event's withdrawals and new causes each pair has the causes it kept and the new ones, in that order. An
entry whose causes stand is as it was; one whose causes changed is OPEN at the highest of their levels, or CLOSING at its last level
with none; a pair that had no entry has one exactly where it got a cause. R158, R173, R174: what an event's withdrawals and new
causes report, in a path table in its form (`PathTableInvariantKept`): to KD each entry that becomes OPEN or stops being OPEN, to
TE's removals each entry that becomes CLOSING on a DOWN line, or CLEAN at MUTE on an UP line. That none is reported on a CLEARING
line, one CLEAN at MUTE neither, which R173 reports at its closing and R175 keeps for the MUTE-ALL-OK, is the model's choice (DESIGN
CHOICE, log 52). The removal reports of entries that are OPEN again are marked so (R157). ML then sends what it can, which reports
nothing. The order within each list, that of the path table, is log 10's. -/
def Obligations.PathEntriesFollowTheirCauses : Prop :=
  (∀ (gone : Nat → Cause → Bool) (news : List NewCause) (paths : Tab PathEntry) (key : Nat),
    let mine := (news.filter (·.key == key)).map (·.cause)
    let highest (l : List Cause) (level : Int) : Prop := (∃ c ∈ l, c.level = level) ∧ ∀ c ∈ l, c.level ≤ level
    (∀ e, tfind paths key = some e →
      let causes := e.causes.filter (fun c => !gone key c) ++ mine
      (causes = e.causes → tfind (changeCauses gone news paths) key = some e)
      ∧ (causes ≠ e.causes → causes = [] →
          tfind (changeCauses gone news paths) key = some { e with causes := [], opened := false })
      ∧ (causes ≠ e.causes → causes ≠ [] → ∃ level, highest causes level
          ∧ tfind (changeCauses gone news paths) key = some { e with causes := causes, opened := true, level := level }))
    ∧ (tfind paths key = none → mine = [] → tfind (changeCauses gone news paths) key = none)
    ∧ (tfind paths key = none → mine ≠ [] → ∃ n ∈ news, n.key = key ∧ ∃ level, highest mine level
        ∧ tfind (changeCauses gone news paths) key = some
          { talker := n.talker, listener := n.listener, opened := true, level := level, causes := mine, target := .mute
            current := .mute, sentValue := .mute, sync := .clean }))
  ∧ (∀ (gone : Nat → Cause → Bool) (news : List NewCause) (s : State), tsorted s.te.paths = true →
    let new := changeCauses gone news s.te.paths
    let t := moveCauses gone news s
    let wasOpen (key : Nat) : Bool := (tfind s.te.paths key).any (·.opened)
    let confirmed (e : PathEntry) : Bool := s.ml.line = .down ∨ (s.ml.line = .up ∧ e.sync = .clean ∧ e.sentValue = .mute)
    OnlyChanges [.te, .ml, .reports] s t
    ∧ t.reports = { s.reports with
        kdFromTe := s.reports.kdFromTe ++
          (new.filter fun kv => wasOpen kv.1 != kv.2.opened).map fun kv => .path kv.2.talker kv.2.listener
        teFromMl :=
          s.reports.teFromMl.map (fun r => if (tfind new r.key).any (·.opened) then { r with reopened := true } else r) ++
            (t.te.paths.filter fun kv => wasOpen kv.1 && !kv.2.opened && confirmed kv.2).map fun kv => ⟨kv.1, false⟩ }
    ∧ (∀ key, (tfind t.te.paths key).map (fun e => (e.opened, e.level, e.causes, e.sentValue)) =
        (tfind new key).map fun e => (e.opened, e.level, e.causes, e.sentValue))
    ∧ applyCauses gone news s = sendGains t ∧ (applyCauses gone news s).reports = t.reports)

/-- R154: the LIVE keys: every active TALK key whose target is LIVE, with its panel's intercom port and its entry, by ascending
node and then key. R154, R157, R162: TE takes the oldest report of its queue of TR's by its kind: the LIVE causes follow the set,
the ports for which there is no room skipped and counted to 65,535 (log 12), and the guard states reported are held; the order of
the points is log 10's. It takes ML's removal reports, one of an entry reopened since being ignored. A kind of report that does
not come next changes nothing (log 4). -/
def Obligations.ReportsToTeAreTaken : Prop :=
  (∀ s : State,
    (∀ n k p e, (n, k, p, e) ∈ liveKeys s.kd ↔
      ∃ c x r, (n, c) ∈ s.kd.contexts ∧ (k, x) ∈ c.keys ∧ x.state ≠ .idle ∧ tfind s.kd.records n = some r ∧ r.port = some p
        ∧ e = tget KeyEntry.none r.keys k ∧ ∃ mode lw level limit, e = .talk .live mode lw level limit)
    ∧ (tsorted s.kd.contexts = true → (∀ kv ∈ s.kd.contexts, tsorted kv.2.keys = true) →
        (liveKeys s.kd).Pairwise fun a b => a.1 < b.1 ∨ (a.1 = b.1 ∧ a.2.1 < b.2.1)))
  ∧ (∀ s : State,
    (∀ ports guards rest, s.reports.teFromTr = ⟨some ports, guards⟩ :: rest →
      EndsIn .teGuardReport s s
      ∧ ∃ u, EndsIn .teLiveSetReport s u ∧ OnlyChanges [.cp, .te, .ml, .reports] s u ∧ u.reports.teFromTr = rest
        ∧ (let gone (key : Nat) (c : Cause) : Bool := isLive c && !ports.contains (key / 96)
          let left := { s.te with paths := changeCauses gone [] s.te.paths }
          let tried := (liveKeys s.kd).foldl (fun acc a => ports.foldl (tryLive left a.1 a.2.1 a.2.2.1) acc)
            (([] : List NewCause), 0)
          (∀ key, (tfind u.te.paths key).map (·.causes) = (tfind (changeCauses gone tried.1 s.te.paths) key).map (·.causes))
          ∧ u.te = { s.te with
              paths := u.te.paths, liveSkips := min 65535 (s.te.liveSkips + tried.2), guards := (s.te.takeGuards guards).guards }
          ∧ u.cp = { s.cp with flags := if tried.2 = 0 then s.cp.flags else s.cp.flags ||| 64 }))
    ∧ (∀ n k p x acc,
        let new : NewCause := ⟨p, x, .live n k, (s.te.port x).receive⟩
        let has := ∃ e, s.te.entry p x = some e ∧ ∃ c ∈ e.causes, c.origin = .live n k
        (x = p ∨ has → tryLive s.te n k p acc x = acc)
        ∧ (x ≠ p → ¬ has → hasRoom s.te 0 (acc.1 ++ [new]) = true → tryLive s.te n k p acc x = (acc.1 ++ [new], acc.2))
        ∧ (x ≠ p → ¬ has → hasRoom s.te 0 (acc.1 ++ [new]) = false → tryLive s.te n k p acc x = (acc.1, acc.2 + 1)))
    ∧ (∀ reported : List (Nat × Bool), (reported.map (·.1)).Nodup → ∀ p,
        p ∈ (s.te.takeGuards reported).guards ↔ (p, true) ∈ reported ∨ (p ∈ s.te.guards ∧ (p, false) ∉ reported))
    ∧ (∀ guards rest, s.reports.teFromTr = ⟨none, guards⟩ :: rest →
        EndsIn .teLiveSetReport s s
        ∧ EndsIn .teGuardReport s
          (sendGains
            (((s.te.paths.filter fun kv => (s.te.port kv.2.listener).guardPos.any (guards.map (·.1)).contains).map (·.1)).foldl
              retarget { s with te := s.te.takeGuards guards, reports := { s.reports with teFromTr := rest } })))
    ∧ (s.reports.teFromTr = [] → EndsIn .teLiveSetReport s s ∧ EndsIn .teGuardReport s s)
    ∧ (∀ key reopened rest, s.reports.teFromMl = ⟨key, reopened⟩ :: rest →
        let t := { s with reports := { s.reports with teFromMl := rest } }
        (∀ e, tfind s.te.paths key = some e → e.opened = false → reopened = false → EndsIn .teRemovalReport s
          { t with
            te := { s.te with paths := tdel s.te.paths key }
            ml := { s.ml with
              muteQueue := s.ml.muteQueue.filter (· != key), levelQueue := s.ml.levelQueue.filter (· != key) } })
        ∧ ((∀ e, tfind s.te.paths key = some e → e.opened = true) ∨ reopened = true → EndsIn .teRemovalReport s t))
    ∧ (s.reports.teFromMl = [] → EndsIn .teRemovalReport s s)
    ∧ (∀ gone news r, r ∈ s.reports.teFromMl → (∃ e, tfind (changeCauses gone news s.te.paths) r.key = some e ∧ e.opened = true) →
        { r with reopened := true } ∈ (moveCauses gone news s).reports.teFromMl))

/-- R162, R166: a target recomputed to a new value: out of MUTE or into it the current gain jumps to it at that event, and
elsewhere it is left to ramp; the target already held changes nothing. R167, R176: the gain tick moves each ramping entry one step
toward its target, in order of the path table (log 10), leaves alone one whose current gain or target is MUTE, and GAIN-TIMING
stores its fields. A tick not due changes nothing (log 4); one a new setting has brought due falls at once, the next then a tick
from now (the model's reading, log 5). R169: while UP a DIRTY entry stands in the queue its current gain calls for and in no
other, keeping its place there or joining its end; while the line is DOWN or CLEARING it is held without a queue. R170: ML sends
while a place is free and a queue holds an entry, the mute queue first, one GAIN after another: afterwards four GAINs are
outstanding, or the line is not UP, or both queues are empty. -/
def Obligations.GainsRampAndAreSent : Prop :=
  (∀ (key : Nat) (e : PathEntry) (s : State), tfind s.te.paths key = some e →
    let g := targetGain s.te e
    let becomes (f : PathEntry) : State := { s with te := { s.te with paths := tput s.te.paths key f } }
    (g = e.target → retarget s key = s)
    ∧ (g ≠ e.target → e.current ≠ .mute → g ≠ .mute → retarget s key = becomes { e with target := g })
    ∧ (g ≠ e.target → e.current = .mute ∨ g = .mute →
        (e.current = g → retarget s key = becomes { e with target := g })
        ∧ (e.current ≠ g → e.sync = .sent → ∃ t, retarget s key = t ∧ OnlyChanges [.te] s t
            ∧ t.te = { s.te with paths := t.te.paths }
            ∧ ∀ k, tfind t.te.paths k = if k = key then some { e with target := g, current := g } else tfind s.te.paths k)
        ∧ (e.current ≠ g → e.sync ≠ .sent → ∃ t, retarget s key = requeue key g t ∧ OnlyChanges [.te] s t
            ∧ t.te = { s.te with paths := t.te.paths }
            ∧ ∀ k, tfind t.te.paths k =
                if k = key then some { e with target := g, current := g, sync := .dirty } else tfind s.te.paths k)))
  ∧ (∀ (tag : Byte) (s : State),
    (2 ^ 31 ≤ (s.now - s.te.nextTick).toNat → EndsIn .gainTick s s)
    ∧ ((s.now - s.te.nextTick).toNat < 2 ^ 31 →
        let t := (s.te.paths.map (·.1)).foldl rampEntry s
        EndsIn .gainTick s (sendGains { t with te := { t.te with nextTick := after s.te.nextTick s.te.gainTick } }))
    ∧ (∀ key e c t, tfind s.te.paths key = some e → e.current = .steps c → e.target = .steps t →
        (c = t → rampEntry s key = s)
        ∧ (c ≠ t → ∃ f, tfind (rampEntry s key).te.paths key = some f
            ∧ f = { e with current := f.current, sync := f.sync }
            ∧ f.current = .steps (if c < t then min t (c + (s.te.rampStep : Int)) else max t (c - (s.te.rampStep : Int)))
            ∧ (0 < s.te.rampStep → f.sync = if e.sync = .sent then .sent else .dirty)))
    ∧ (∀ key, tfind s.te.paths key = none → rampEntry s key = s)
    ∧ (∀ key e, tfind s.te.paths key = some e → e.current = .mute ∨ e.target = .mute → rampEntry s key = s)
    ∧ (∀ key other, other ≠ key → tfind (rampEntry s key).te.paths other = tfind s.te.paths other)
    ∧ (∀ body fs, Admitted (readbackClass 0 body) tag body s → presence [1, 1, 1] body = some fs →
        let step := ((fieldAt fs 1).map fun v => max 1 (min 40 v)).getD s.te.rampStep
        let timeout := ((fieldAt fs 2).map fun v => max 2 (min 100 v)).getD s.ml.replyTimeout
        let q := { taken tag 0x23 s with
          te := { s.te with rampStep := step }
          ml := { s.ml with replyTimeout := timeout } }
        (fieldAt fs 0 = none → RepliesIn (.gainTiming tag body) s tag .gainTiming .ok
          (e1 s.te.gainTick ++ e1 step ++ e1 timeout) q)
        ∧ (∀ v, fieldAt fs 0 = some v →
            let tick := max 5 (min 100 v)
            let next := s.te.nextTick - BitVec.ofNat 32 s.te.gainTick + BitVec.ofNat 32 tick
            RepliesIn (.gainTiming tag body) s tag .gainTiming .ok (e1 tick ++ e1 step ++ e1 timeout)
              (if (s.now - next).toNat < 2 ^ 31 then
                let t := (s.te.paths.map (·.1)).foldl rampEntry
                  { q with te := { q.te with gainTick := tick, nextTick := s.now } }
                sendGains { t with te := { t.te with nextTick := s.now + BitVec.ofNat 32 tick } }
              else { q with te := { q.te with gainTick := tick, nextTick := next } }))))
  ∧ (∀ (key : Nat) (g : Gain) (s : State),
    let t := requeue key g s
    let joined (q : List Nat) : List Nat := if key ∈ q then q else q ++ [key]
    (s.ml.line ≠ .up → t = s)
    ∧ (s.ml.line = .up →
        OnlyChanges [.ml] s t ∧ t.ml = { s.ml with muteQueue := t.ml.muteQueue, levelQueue := t.ml.levelQueue }
        ∧ (g = .mute → t.ml.muteQueue = joined s.ml.muteQueue ∧ t.ml.levelQueue = s.ml.levelQueue.filter (· ≠ key))
        ∧ (g ≠ .mute → t.ml.levelQueue = joined s.ml.levelQueue ∧ t.ml.muteQueue = s.ml.muteQueue.filter (· ≠ key))))
  ∧ (∀ s : State,
    (s.ml.line ≠ .up → sendGains s = s)
    ∧ (s.ml.line = .up →
        4 ≤ (sendGains s).ml.outstanding.length
          ∨ ((sendGains s).ml.muteQueue = [] ∧ (sendGains s).ml.levelQueue = []))
    ∧ (∀ t, sendOneGain s = some t → sendGains s = sendGains t) ∧ (sendOneGain s = none → sendGains s = s)
    ∧ (s.ml.line ≠ .up ∨ 4 ≤ s.ml.outstanding.length ∨ (s.ml.muteQueue = [] ∧ s.ml.levelQueue = []) → sendOneGain s = none)
    ∧ (∀ k e rest lq, s.ml.line = .up → s.ml.outstanding.length < 4 → tfind s.te.paths k = some e →
        (s.ml.muteQueue = k :: rest ∧ s.ml.levelQueue = lq) ∨ (s.ml.muteQueue = [] ∧ s.ml.levelQueue = k :: rest ∧ lq = rest) →
        sendOneGain s = some
          { s with
            te := { s.te with paths := tput s.te.paths k { e with sync := .sent } }
            ml := { s.ml with
              muteQueue := if s.ml.muteQueue = [] then [] else rest, levelQueue := lq
              outstanding := s.ml.outstanding ++
                [{ talker := e.talker, listener := e.listener, gain := e.current, expiry := none }]
              tx := s.ml.tx ++ [.gain e.listener e.talker e.current] } }))

/-- R168, R171, R174, R175: the frames of the audio frame, and those that are not clean or not awaited. The removals MUTE-ALL-OK
reports stand in order of the path table (log 10); the counts stop at 65,535 (log 12). -/
def Obligations.MatrixFramesAreTaken : Prop :=
  ∀ (l t : Byte) (s : State),
    let stray := { s with
      ml := { s.ml with strays := if s.ml.strays < 65535 then s.ml.strays + 1 else s.ml.strays, consecutive := 0 } }
    (∀ i, i = .matrixBadFrame ∨ i = .matrixGapExpiry ∨ (i = .gainOk l t ∧ (95 < l.toNat ∨ 95 < t.toNat)) → EndsIn i s
      { s with ml := { s.ml with badFrames := if s.ml.badFrames < 65535 then s.ml.badFrames + 1 else s.ml.badFrames } })
    ∧ (l.toNat ≤ 95 → t.toNat ≤ 95 → (∀ o ∈ s.ml.outstanding, o.is l.toNat t.toNat = false) → EndsIn (.gainOk l t) s stray)
    ∧ (∀ o e, l.toNat ≤ 95 → t.toNat ≤ 95 → s.ml.outstanding.find? (·.is l.toNat t.toNat) = some o →
        tfind s.te.paths (l.toNat * 96 + t.toNat) = some e →
        let key := l.toNat * 96 + t.toNat
        let q := { s with
          ml := { s.ml with outstanding := s.ml.outstanding.filter (!·.is l.toNat t.toNat), consecutive := 0 } }
        let clean := { q with te := { s.te with paths := tput s.te.paths key { e with sentValue := o.gain, sync := .clean } } }
        (e.current ≠ o.gain → EndsIn (.gainOk l t) s
          (sendGains (requeue key e.current
            { q with te := { s.te with paths := tput s.te.paths key { e with sentValue := o.gain, sync := .dirty } } })))
        ∧ (e.current = o.gain → EndsIn (.gainOk l t) s
          (sendGains
            (if e.opened = false ∧ o.gain = .mute then
              { clean with reports := { s.reports with teFromMl := s.reports.teFromMl ++ [⟨key, false⟩] } }
            else clean))))
    ∧ (s.ml.line = .down → EndsIn .pong s
        { s with
          ml := { s.ml with
            line := .clearing, muteQueue := [], levelQueue := [], outstanding := [], muteAll := some none, nextPing := none
            consecutive := 0, tx := s.ml.tx ++ [.muteAll] } })
    ∧ (s.ml.line ≠ .down → EndsIn .pong s stray)
    ∧ (s.ml.muteAll = none → EndsIn .muteAllOk s stray)
    ∧ (s.ml.muteAll ≠ none → ∃ u, EndsIn .muteAllOk s (sendGains u) ∧ OnlyChanges [.cp, .te, .ml, .reports] s u
        ∧ u.cp = { s.cp with flags := s.cp.flags ||| 128 }
        ∧ u.te = { s.te with paths := s.te.paths.map fun kv =>
            (kv.1, { kv.2 with sentValue := .mute, sync := if kv.2.current = .mute then .clean else .dirty }) }
        ∧ u.ml = { s.ml with
            line := .up, muteAll := none, consecutive := 0
            levelQueue := s.ml.levelQueue ++ (s.te.paths.filter fun kv => kv.2.current != .mute).map (·.1) }
        ∧ u.reports = { s.reports with
            teFromMl := s.reports.teFromMl ++
              (s.te.paths.filter fun kv => kv.2.current == .mute && !kv.2.opened).map fun kv => ⟨kv.1, false⟩ })

/-- R168, R170, R172, R174, R175: the end of a frame sent starts its reply expiry; a GAIN without a reply is DIRTY again and
counted, the eighth in a row taking the line DOWN; PINGs go out while it is DOWN; a MUTE-ALL without a reply takes it DOWN again.
Of the frames chosen when it goes DOWN the one on the wire alone is sent (log 21), the dropped entries are reported in order of
the path table (log 10), and what nothing awaits changes nothing (log 4). -/
def Obligations.MatrixTimersAndSending : Prop :=
  ∀ (l t : Nat) (g : Gain) (rest : List MatrixFrame) (s : State),
    let expiry := some (after s.now s.ml.replyTimeout)
    (s.ml.tx = [] → EndsIn .matrixFrameSent s s)
    ∧ (s.ml.tx = .ping :: rest → EndsIn .matrixFrameSent s { s with ml := { s.ml with tx := rest } })
    ∧ (s.ml.tx = .gain l t g :: rest → (∀ f ∈ rest, f.isGain l t = false) → EndsIn .matrixFrameSent s
        { s with
          ml := { s.ml with
            tx := rest
            outstanding := s.ml.outstanding.map fun o =>
              if o.listener = l ∧ o.talker = t ∧ o.expiry = none then { o with expiry := expiry } else o } })
    ∧ (s.ml.tx = .muteAll :: rest → .muteAll ∉ rest → s.ml.muteAll = some none → EndsIn .matrixFrameSent s
        { s with ml := { s.ml with tx := rest, muteAll := some expiry } })
    ∧ (∀ o e x, s.ml.outstanding.find? (·.is l t) = some o → o.expiry = some x → (s.now - x).toNat < 2 ^ 31 →
        tfind s.te.paths (l * 96 + t) = some e →
        EndsIn (.gainReplyExpiry l t) s
          (sendGains (matrixTimeout (requeue (l * 96 + t) e.current
            { s with
              te := { s.te with paths := tput s.te.paths (l * 96 + t) { e with sync := .dirty } }
              ml := { s.ml with outstanding := s.ml.outstanding.filter (!·.is l t) } }))))
    ∧ ((∀ o ∈ s.ml.outstanding, o.is l t = true → o.expiry = none) → EndsIn (.gainReplyExpiry l t) s s)
    ∧ (s.ml.line ≠ .up ∨ s.ml.consecutive < 7 → matrixTimeout s =
        { s with ml := { s.ml with timeouts := bump s.ml.timeouts, consecutive := bump s.ml.consecutive } })
    ∧ (s.ml.line = .up → 7 ≤ s.ml.consecutive → matrixTimeout s = matrixDown
        { s with ml := { s.ml with timeouts := bump s.ml.timeouts, consecutive := bump s.ml.consecutive } })
    ∧ (OnlyChanges [.cp, .te, .ml, .reports] s (matrixDown s)
      ∧ (matrixDown s).cp = { s.cp with flags := s.cp.flags ||| 128 }
      ∧ (matrixDown s).ml = { s.ml with
          line := .down, muteQueue := [], levelQueue := [], outstanding := [], muteAll := none, tx := s.ml.tx.take 1
          nextPing := some (s.now + 250) }
      ∧ (∀ k, tfind (matrixDown s).te.paths k = (tfind s.te.paths k).map fun e =>
          if e.sync = .sent then { e with sync := .dirty } else e)
      ∧ (matrixDown s).reports = { s.reports with
          teFromMl := s.reports.teFromMl ++ (s.te.paths.filter fun kv => !kv.2.opened).map fun kv => ⟨kv.1, false⟩ })
    ∧ (∀ e, s.ml.line = .down → s.ml.nextPing = some e → (s.now - e).toNat < 2 ^ 31 → EndsIn .pingTimer s
        { s with ml := { s.ml with tx := s.ml.tx ++ [.ping], nextPing := some (e + 250) } })
    ∧ (s.ml.line ≠ .down ∨ s.ml.nextPing = none → EndsIn .pingTimer s s)
    ∧ (∀ e, s.ml.muteAll = some (some e) → (s.now - e).toNat < 2 ^ 31 → EndsIn .muteAllExpiry s (matrixDown s))
    ∧ ((∀ e, s.ml.muteAll = some (some e) → 2 ^ 31 ≤ (s.now - e).toNat) → EndsIn .muteAllExpiry s s)

/-! ### The profile -/

/-- R195, R198, R200, R206: PROFILE-SAVE and PROFILE-LOAD. A save too long is refused; else its first write makes the header bad
(log 30). A load clears live state and reads the image header: the Matrix Line keeps its four counts and the frame on the wire
(log 21), ML's removal reports that wait for TE are gone (log 23) while TR's reports to TE stand, and KD takes the notices that
wait for it before its contexts go (log 43). R195, R198, R206: what a save writes as the twelve sections, each an entry for each
record laid end to end with every optional field present, and the length of the image. A KEYS entry holds the bytes SET-KEY takes
for that entry. -/
def Obligations.ProfileOperationsStart : Prop :=
  (∀ (tag : Byte) (s : State), Admitted .profile tag [] s →
    let bad : List Byte := [0, 0, 0, 0, 1, 0, 9] ++ crcBytes [0, 0, 0, 0, 1, 0, 9]
    (32768 < imageLength s → Refuses (.profileSave tag []) s tag 0x2A .full)
    ∧ (imageLength s ≤ 32768 → EndsIn (.profileSave tag []) s
        { taken tag 0x2A s with
          pm := {
            op := .saving { tag := tag, phase := .spoil, length := 9 }, transfer := some (.write 0 bad), unacked := 0
            tried := s.now, memory := writeBytes s.pm.memory 0 bad } })
    ∧ (s.pbc.node ≠ .asleep → s.pbc.node ≠ .listening → Refuses (.profileLoad tag []) s tag 0x2B .state)
    ∧ (s.pbc.node = .asleep ∨ s.pbc.node = .listening → ∃ u,
        EndsIn (.profileLoad tag []) s u ∧ OnlyChanges [.cp, .pbc, .kd, .tr, .te, .ml, .pm, .reports] s u
        ∧ u.cp = (taken tag 0x2B s).cp ∧ u.kd = { s.kd with contexts := [] } ∧ u.pbc = { s.pbc with roster := u.pbc.roster }
        ∧ (s.reports.kdPanels = [] → u.pbc = s.pbc ∧ u.tr = s.tr
          ∧ u.reports = { s.reports with teFromMl := [] })
        ∧ (∀ p n k, (∃ c, tfind s.kd.contexts n = some c) → s.reports.kdPanels = [.departure n] →
            s.kd.keyState n k ≠ .idle → s.kd.entry n k = .call p → (n, k) ∉ (u.tr.position p).keyCalls)
        ∧ u.reports.kdPanels = [] ∧ u.reports.teFromMl = [] ∧ u.reports.teFromTr = s.reports.teFromTr
        ∧ u.ml = { s.ml with
            line := .clearing, muteQueue := [], levelQueue := [], outstanding := [], muteAll := some none, nextPing := none
            tx := s.ml.tx.take 1 ++ [.muteAll] }
        ∧ u.te = { s.te with paths := u.te.paths }
        ∧ (∀ kv ∈ u.te.paths, ∀ c ∈ kv.2.causes, ∃ k, c.origin = .standing k)
        ∧ u.pm = {
            op := .walking { request := some tag, phase := .header, reached := 0, applied := 0, skipped := 0, notLoaded := 0 }
            transfer := some (.read 0 9), unacked := 0, tried := s.now, memory := s.pm.memory }))
  ∧ (∀ s : State,
    let b (n : Nat) : Byte := BitVec.ofNat 8 n
    let w (n : Nat) : List Byte := [BitVec.ofNat 8 (n / 256), BitVec.ofNat 8 n]
    let index (o : Option Nat) : Byte := BitVec.ofNat 8 (o.getD 255)
    let wide (o : Option Nat) : List Byte := w (o.getD 65535)
    let mixer (m : MixerRec) : List Byte := [if m.mode = .onAir then 0 else 1] ++ w m.stale ++ [b m.withdraw]
    let times := s.pbc.timing
    imageLength s = 9 + ((List.range 12).map fun i => 7 + (sectionBody s (i + 1)).length).sum
    ∧ sectionBody s 1 =
        [b s.pbc.id, if s.pbc.busAuto then 1 else 0] ++ w times.replyWindow ++ w times.silence ++ [b times.turnBudget]
          ++ w times.census ++ [b times.stallLimit, b times.release] ++ w s.kd.tapWindow ++ w s.rc.replyTimer
          ++ mixer (s.mm.mixer .a) ++ mixer (s.mm.mixer .b) ++ [b s.te.gainTick, b s.te.rampStep, b s.ml.replyTimeout]
    ∧ sectionBody s 2 = (List.range 96).flatMap (fun p =>
        let r := s.te.port p
        [b p, 0xFF,
          match r.kind with
          | .panel => 0
          | .headset => 1
          | .fourwire => 2
          | .ifb => 3
          | .speaker => 4,
          BitVec.ofInt 8 r.receive, BitVec.ofInt 8 r.inTrim, BitVec.ofInt 8 r.outTrim, b r.dim,
          match r.duck with
          | .steps n => b n
          | .full => 0xFF,
          index r.program, index r.guardPos])
    ∧ sectionBody s 3 = (List.range 32).flatMap (fun g => [b g, b (s.te.group g).length] ++ (s.te.group g).map b)
    ∧ sectionBody s 4 = s.te.standing.flatMap (fun kv =>
        [b kv.1, b kv.2.talker, b kv.2.listener, BitVec.ofInt 8 kv.2.level])
    ∧ sectionBody s 5 = s.kd.records.flatMap (fun r =>
        [b r.1, 0, index r.2.port, if r.2.mode = .direct then 0 else 1])
    ∧ sectionBody s 6 = s.kd.records.flatMap (fun r => r.2.keys.flatMap fun k => [b r.1, b k.1] ++ k.2.bytes)
    ∧ (∀ form e, keyForm form = some e → keyForm e.bytes = some e)
    ∧ sectionBody s 7 = (List.range 256).flatMap (fun i =>
        w i ++ [3, index (s.rc.source i).position] ++ wide (s.rc.source i).tie)
    ∧ sectionBody s 8 = (s.rc.dests.filter fun kv => kv.2.protect.any (·.owner == none)).flatMap (fun kv =>
        w kv.1 ++ [if kv.2.protect.any (·.kind == .protect) then 0 else 1])
    ∧ sectionBody s 9 = [(Mixer.a, (0 : Byte)), (.b, 1)].flatMap (fun m => (List.range' 1 64).flatMap fun i =>
        [m.2, b i] ++
          match s.tr.binding m.1 i with
          | .none => [0]
          | .dest d => [1] ++ w d
          | .source n => [2] ++ w n
          | .internal => [3])
    ∧ sectionBody s 10 = (List.range 24).flatMap (fun p => [b p, index (s.tr.position p).port])
    ∧ sectionBody s 11 = s.rc.salvos.flatMap (fun kv =>
        [b kv.1, b kv.2.length] ++ kv.2.flatMap fun q => [b q.1, b q.2])
    ∧ sectionBody s 12 =
        [1, b s.ld.house, 7, b s.ld.tick, b s.ld.step, b s.ld.floor]
          ++ (List.range 24).flatMap fun p =>
            [b p, 7, b (s.ld.lamp p).trim] ++ wide (s.ld.lamp p).manual ++ [if (s.ld.lamp p).exclusive then 1 else 0])

/-- R195 to R198: a transfer that completes. A read feeds the walk, a write is in the memory and the save goes on to its next
bytes; the last one answers OK with the image's length in two bytes (log 14). A save writes 64 bytes at a time (log 26). With no
transfer in progress nothing changes (log 4). That a transfer past the memory stops the step with a fault is the model's own
choice; that no walk and no save holds one is `ProfileMemoryFormKept`'s. R198, R206: a section is begun: its content is taken, and
its first 64 bytes are written (log 26). The header has the kind, the length, the offset of the section after it, 0 for the last,
and the check over these and the body. R197: a transfer's address unacknowledged is sent again a millisecond after it was last
sent, and the twenty-first time fails the transfer (log 34); a byte of a write unacknowledged fails it with the bytes before it in
the memory (log 27). What fails ends the walk or the save; a walk whose image header could not be read ends as one with a bad
header (log 48). -/
def Obligations.TransfersCompleteOrFail : Prop :=
  (∀ (w : Walk) (sv : Save) (a n : Nat) (b : List Byte) (s : State),
    let still := { s with pm := { s.pm with transfer := none, unacked := 0 } }
    (s.pm.transfer = none → EndsIn .profileTransferDone s s)
    ∧ (∀ t, s.pm.transfer = some t → t.outside = true → exec .profileTransferDone s = .fault .profileAddress)
    ∧ (s.pm.op = .walking w → s.pm.transfer = some (.read a n) → a + n ≤ 32768 →
        (w.phase = .header →
          (headerOffset (readBytes s.pm.memory a n) = none → EndsIn .profileTransferDone s (endWalk w .headerBad still))
          ∧ (∀ first, headerOffset (readBytes s.pm.memory a n) = some first →
              EndsIn .profileTransferDone s (reachSection first w still)))
        ∧ (∀ off, w.phase = .head off →
            EndsIn .profileTransferDone s (readBody off (readBytes s.pm.memory a n) w still))
        ∧ (∀ off head, w.phase = .body off head →
            EndsIn .profileTransferDone s (openSection head (readBytes s.pm.memory a n) w still)))
    ∧ (s.pm.op = .saving sv → s.pm.transfer = some (.write a b) → a + b.length ≤ 32768 →
        let wrote := { s with pm := { s.pm with transfer := none, unacked := 0, memory := writeBytes s.pm.memory a b } }
        (sv.phase = .spoil → EndsIn .profileTransferDone s (beginSection 0 9 sv wrote))
        ∧ (∀ i rest next, sv.phase = .sect i rest next → rest ≠ [] → EndsIn .profileTransferDone s
            { wrote with
              pm := { wrote.pm with
                transfer := some (.write next (rest.take 64)), tried := s.now
                op := .saving { sv with phase := .sect i (rest.drop 64) (next + min rest.length 64) } } })
        ∧ (∀ i next, sv.phase = .sect i [] next → i < 11 → EndsIn .profileTransferDone s (beginSection (i + 1) next sv wrote))
        ∧ (∀ next, sv.phase = .sect 11 [] next → EndsIn .profileTransferDone s
            { wrote with
              pm := { wrote.pm with
                transfer := some (.write 0 ([0x4D, 0x4A, 0x36, 0x32, 1, 0, 9] ++ crcBytes [0x4D, 0x4A, 0x36, 0x32, 1, 0, 9]))
                tried := s.now, op := .saving { sv with phase := .header } } })
        ∧ (sv.phase = .header → ⟨sv.tag, 0x2A⟩ ∈ s.cp.outstanding → EndsIn .profileTransferDone s
            (makeReply sv.tag 0x2A .ok (e2 sv.length) (endRequest sv.tag { wrote with pm := { wrote.pm with op := .idle } })))))
  ∧ (∀ (i off : Nat) (sv : Save) (s : State),
    let body := sectionBody s (i + 1)
    let stop := off + 7 + body.length
    let next := if i = 11 then 0 else stop
    let head : List Byte :=
      [BitVec.ofNat 8 (i + 1), BitVec.ofNat 8 (body.length / 256), BitVec.ofNat 8 body.length, BitVec.ofNat 8 (next / 256),
        BitVec.ofNat 8 next]
    let check := crc16 (head ++ body)
    let bytes := head ++ [check.extractLsb' 8 8, check.extractLsb' 0 8] ++ body
    beginSection i off sv s =
      { s with
        pm := { s.pm with
          op := .saving { sv with phase := .sect i (bytes.drop 64) (off + min bytes.length 64), length := stop }
          transfer := some (.write off (bytes.take 64)), unacked := 0, tried := s.now } })
  ∧ (∀ (w : Walk) (sv : Save) (t : Transfer) (a taken' : Nat) (b : List Byte) (s : State),
    let isRead := ∃ x y, t = .read x y
    (s.pm.transfer = none → EndsIn .profileAddressRetry s s ∧ EndsIn (.writeByteNotAcknowledged taken') s s)
    ∧ (s.pm.tried = s.now → EndsIn .profileAddressRetry s s)
    ∧ (s.pm.transfer = some t → s.pm.tried ≠ s.now → s.pm.unacked < 20 →
        EndsIn .profileAddressRetry s { s with pm := { s.pm with unacked := s.pm.unacked + 1, tried := s.now } })
    ∧ (s.pm.transfer = some t → s.pm.tried ≠ s.now → 20 ≤ s.pm.unacked →
        (s.pm.op = .walking w → w.phase = .header → EndsIn .profileAddressRetry s (endWalk w .headerBad s))
        ∧ (s.pm.op = .walking w → w.phase ≠ .header → EndsIn .profileAddressRetry s (endWalk w .readFailed s))
        ∧ (s.pm.op = .saving sv → EndsIn .profileAddressRetry s (endSave sv false s)))
    ∧ (s.pm.transfer = some t → isRead → t.outside = false → EndsIn (.writeByteNotAcknowledged taken') s s)
    ∧ (s.pm.transfer = some (.write a b) → a + b.length ≤ 32768 → b.length ≤ taken' →
        EndsIn (.writeByteNotAcknowledged taken') s s)
    ∧ (s.pm.transfer = some (.write a b) → a + b.length ≤ 32768 → taken' < b.length → s.pm.op = .saving sv →
        EndsIn (.writeByteNotAcknowledged taken') s
          (endSave sv false { s with pm := { s.pm with memory := writeBytes s.pm.memory a (b.take taken') } }))
    ∧ (⟨sv.tag, 0x2A⟩ ∈ s.cp.outstanding → endSave sv false s =
        makeReply sv.tag 0x2A .timeout []
          (endRequest sv.tag
            { s with
              cp := { s.cp with flags := s.cp.flags ||| 256 }
              pm := { s.pm with op := .idle, transfer := none, unacked := 0 } })))

/-- R194, R196, R200: how a walk goes on and ends. At power-on its end leaves LOADING; on request it is answered with how it ended
and its counts. A LISTENING node with BUS-AUTO on goes to CHECKING, and PROFILE is set where the walk did not run its course. At
power-on TR first takes what waits for it, MM's reports and then RC's (R76, R128, log 46). The layout of the reply and its section
number are log 14's, an empty body being a section applied log 28's, the transfers in which a section is read and the length of
each log 26's, and the walk at power-on is underway from the first step (log 29). -/
def Obligations.WalkGoesOnAndEnds : Prop :=
  ∀ (w : Walk) (how : WalkEnd) (off : Nat) (head body : List Byte) (s : State),
    let ended : State := { s with
      cp := { s.cp with flags := if how = .course then s.cp.flags else s.cp.flags ||| 256 }
      pm := { s.pm with op := .idle, transfer := none, unacked := 0 } }
    let joined (u : State) : State :=
      if s.pbc.node = .listening ∧ s.pbc.busAuto = true then
        { u with pbc := { s.pbc with node := .checking, checkingExpiry := some (s.now + 400) } }
      else u
    (w.request = none → s.reports.trFromMm = [] → s.reports.trFromRc = 0 →
      endWalk w how s = joined { ended with cp := { ended.cp with mode := .run } })
    ∧ (∀ x rest, w.request = none → s.reports.trFromMm = x :: rest →
        endWalk w how s = endWalk w how (recompute { ended with reports := { s.reports with trFromMm := rest } }))
    ∧ (∀ n, w.request = none → s.reports.trFromMm = [] → s.reports.trFromRc = n + 1 →
        endWalk w how s = endWalk w how (recompute { ended with reports := { s.reports with trFromRc := n } }))
    ∧ (∀ tag, w.request = some tag → ⟨tag, 0x2B⟩ ∈ s.cp.outstanding →
        endWalk w how s = makeReply tag 0x2B .ok
          (how.bytes ++ e2 w.reached ++ e2 w.applied ++ e2 w.skipped ++ e2 w.notLoaded) (endRequest tag (joined ended)))
    ∧ (∀ first, headerOffset head = some first ↔
        head.take 5 = [0x4D, 0x4A, 0x36, 0x32, 1] ∧ head.drop 7 = crcBytes (head.take 7)
        ∧ first = beNat ((head.drop 5).take 2) ∧ (first = 0 ∨ (9 ≤ first ∧ first + 7 ≤ 32768)))
    ∧ (off = 0 → reachSection off w s = endWalk w .course s)
    ∧ (off ≠ 0 → 32 ≤ w.reached → reachSection off w s = endWalk { w with reached := w.reached + 1 } .sectionLimit s)
    ∧ (off ≠ 0 → w.reached < 32 → off < 9 ∨ 32768 < off + 7 →
        reachSection off w s = endWalk { w with reached := w.reached + 1 } .offset s)
    ∧ (9 ≤ off → w.reached < 32 → off + 7 ≤ 32768 →
        reachSection off w s =
          { s with
            pm := { s.pm with
              op := .walking { w with reached := w.reached + 1, phase := .head off }, transfer := some (.read off 7)
              unacked := 0, tried := s.now } })
    ∧ (let len := beNat ((head.drop 1).take 2)
      (32768 < off + 7 + len → readBody off head w s = endWalk w .offset s)
      ∧ (off + 7 ≤ 32768 → len = 0 → readBody off head w s = openSection head [] w s)
      ∧ (off + 7 + len ≤ 32768 → len ≠ 0 → readBody off head w s =
          { s with
            pm := { s.pm with
              op := .walking { w with phase := .body off head }, transfer := some (.read (off + 7) len), unacked := 0
              tried := s.now } }))
    ∧ (head.drop 5 ≠ crcBytes (head.take 5 ++ body) → openSection head body w s = endWalk w .checkFailed s)
    ∧ (head.drop 5 = crcBytes (head.take 5 ++ body) →
        let kind := beNat (head.take 1)
        let next := beNat ((head.drop 3).take 2)
        (kind = 0 ∨ 12 < kind → openSection head body w s = reachSection next { w with skipped := w.skipped + 1 } s)
        ∧ (1 ≤ kind → kind ≤ 12 → body = [] →
            openSection head body w s = reachSection next { w with applied := w.applied + 1 } s)
        ∧ (1 ≤ kind → kind ≤ 12 → body ≠ [] →
            openSection head body w s =
              { s with
                pm := { s.pm with
                  op := .walking { w with applied := w.applied + 1, phase := .entries kind body 0 next }, transfer := none
                  unacked := 0 } }))

/-- R196, R206: PROFILE_ENTRY_APPLY takes one entry of the section in hand as its request takes it (`applyEntry`), goes on to the
next entry or section, and sets PROFILE and counts where the entry was not loaded: one cut short, a second SETTINGS record, or one
that leaves an optional field out (log 28). That an entry cut short, one of an unknown key kind or a second SETTINGS record takes
the rest of the body and counts once, and that a binding of an unknown form has three bytes, are log 26's. With no entry in hand
nothing changes (log 4). R196, R206: each section's entry is applied as the request it stands for: what the entry makes of the
state is what the request makes of it, and it is loaded exactly where that request is answered OK. A DESTS entry is PROTECT with
kind 0 or 1. R196, R206: what an entry that is loaded leaves, in any state, by section: the record its fields give, and every
other one as it was. R160, R196, R206: a STANDING entry defines the slot it names, in place of what the slot held, its cause in
place of the old one; where room is short it is not loaded, and PATHS is set and the refusal counted. R196, R206: the SETTINGS
record: each setting clamped and stored as its request would, BUS-AUTO with no enable value acted on; one refused leaves the
others applied, and the entry counts as not loaded (log 28). -/
def Obligations.EntriesAreApplied : Prop :=
  (∀ (w : Walk) (kind ordinal next n : Nat) (rest : List Byte) (s : State),
    ((∀ w, s.pm.op = .walking w → ∀ a b c d, w.phase ≠ .entries a b c d) → EndsIn .profileEntryApply s s)
    ∧ (s.pm.op = .walking w → w.phase = .entries kind rest ordinal next →
        let goOn (loaded : Bool) (rest : List Byte) (u : State) : State :=
          let w' := { w with notLoaded := if loaded then w.notLoaded else bump w.notLoaded }
          let v : State := { u with cp := { u.cp with flags := if loaded then u.cp.flags else u.cp.flags ||| 256 } }
          if rest = [] then reachSection next w' v
          else
            { v with
              pm := { v.pm with
                op := .walking { w' with phase := .entries kind rest (ordinal + 1) next }, transfer := none, unacked := 0 } }
        (entryLength kind ordinal rest = some n → n ≤ rest.length →
          EndsIn .profileEntryApply s
            (goOn (applyEntry kind ordinal (rest.take n) s).2 (rest.drop n) (applyEntry kind ordinal (rest.take n) s).1))
        ∧ (entryLength kind ordinal rest = none ∨ (entryLength kind ordinal rest = some n ∧ rest.length < n) →
          EndsIn .profileEntryApply s (goOn false [] s)))
    ∧ (0 < ordinal → entryLength 1 ordinal rest = none)
    ∧ (∀ a b c : Byte,
        entryLength 1 0 rest = some 26 ∧ entryLength 2 ordinal (a :: 0xFF :: rest) = some 10
        ∧ entryLength 3 ordinal (a :: b :: rest) = some (2 + b.toNat) ∧ entryLength 4 ordinal rest = some 4
        ∧ entryLength 5 ordinal rest = some 4
        ∧ entryLength 6 ordinal (a :: b :: c :: rest) =
            (if c ∈ [0, 5, 6] then some 3 else if c = 1 then some 10 else if c = 2 then some 6 else if c ∈ [3, 4] then some 5
              else if c ∈ [7, 8] then some 4 else none)
        ∧ entryLength 7 ordinal (a :: b :: 3 :: rest) = some 6 ∧ entryLength 8 ordinal rest = some 3
        ∧ entryLength 9 ordinal (a :: b :: c :: rest) = some (if c = 1 ∨ c = 2 then 5 else 3)
        ∧ entryLength 10 ordinal rest = some 2 ∧ entryLength 11 ordinal (a :: b :: rest) = some (2 + 2 * b.toNat)
        ∧ entryLength 12 0 (1 :: rest) = some 2 ∧ entryLength 12 1 (7 :: rest) = some 4
        ∧ (2 ≤ ordinal → entryLength 12 ordinal (a :: 7 :: rest) = some 6))
    ∧ (∀ a b c d p body, p ≠ 0xFF → applyEntry 2 ordinal (a :: p :: body) s = (s, false)
        ∧ (c ≠ 3 → applyEntry 7 ordinal (a :: b :: c :: body) s = (s, false))
        ∧ (c ≠ 1 → applyEntry 12 0 (c :: body) s = (s, false)) ∧ (c ≠ 7 → applyEntry 12 1 (c :: body) s = (s, false))
        ∧ (d ≠ 7 → 1 < ordinal → applyEntry 12 ordinal (a :: d :: body) s = (s, false))))
  ∧ (∀ (ordinal : Nat) (body : List Byte) (s : State),
    let standsFor (kind ordinal : Nat) (k : ReqKind) (c : Machine.Class) (i : Byte → List Byte → Instr) : Prop :=
      ∀ tag, Admitted c tag body s → ∃ code content,
        let r := applyEntry kind ordinal body (taken tag k.byte s)
        RepliesIn (i tag body) s tag k code content r.1 ∧ (r.2 = true ↔ code = .ok)
    (body[1]? = some 0xFF → standsFor 2 ordinal .setPort .config .setPort)
    ∧ standsFor 3 ordinal .setGroup .config .setGroup
    ∧ standsFor 5 ordinal .setPanel .config .setPanel
    ∧ standsFor 6 ordinal .setKey .config .setKey
    ∧ (body[2]? = some 3 → standsFor 7 ordinal .setSource .config .setSource)
    ∧ (∀ hi lo k : Byte, body = [hi, lo, k] →
        (k.toNat ≤ 1 → standsFor 8 ordinal .protect .live .protect)
        ∧ (1 < k.toNat → applyEntry 8 ordinal body s = (s, false)))
    ∧ standsFor 9 ordinal .setBinding .config .setBinding
    ∧ standsFor 10 ordinal .setPosition .config .setPosition
    ∧ standsFor 11 ordinal .defineSalvo .config .defineSalvo
    ∧ (body[0]? = some 1 → standsFor 12 0 .setHouse .live .setHouse)
    ∧ (body[0]? = some 7 → standsFor 12 1 .lampTiming .config .lampTiming)
    ∧ (body[1]? = some 7 → 2 ≤ ordinal → standsFor 12 ordinal .setLamp .config .setLamp))
  ∧ (∀ (ordinal : Nat) (i j x y : Byte) (form : List Byte) (s : State),
    let loads (kind ordinal : Nat) (body : List Byte) (parts : List Part) (leaves : State → Prop) : Prop :=
      let r := applyEntry kind ordinal body s
      r.2 = true ∧ OnlyChanges parts s r.1 ∧ leaves r.1
    let port := if j = 255 then none else some j.toNat
    (∀ fs, presence [1, 1, 1, 1, 1, 1, 1, 1] (0xFF :: form) = some fs → i.toNat ≤ 95 → okIf (indexUpTo 95) (fieldAt fs 6) = true →
      okIf (indexUpTo 23) (fieldAt fs 7) = true → okIf (· ≤ 4) (fieldAt fs 0) = true →
      portFits i.toNat (((fieldAt fs 0).map PortKind.ofCode).getD (s.te.port i.toNat).kind) fs = true →
      loads 2 ordinal (i :: 0xFF :: form) [.te, .ml] fun u =>
        ∀ n, u.te.port n = if n = i.toNat then (s.te.port n).update fs else s.te.port n)
    ∧ (i.toNat ≤ 31 → form.length ≤ 32 → form.Nodup → (∀ m ∈ form, m.toNat ≤ 95) →
        let new := sortAsc (form.map (·.toNat))
        let would := groupWould s i.toNat new
        (hasRoom s.te ((s.te.paths.map fun kv => kv.2.causes.countP (groupGone would kv.1)).sum)
            (would.flatMap fun w => lacking s.te (ofKey w.1 w.2.1) w.2.2) = true →
          loads 3 ordinal (i :: BitVec.ofNat 8 form.length :: form) [.te, .ml, .reports] fun u =>
            ∀ g, u.te.group g = if g = i.toNat then new else s.te.group g))
    ∧ (1 ≤ i.toNat → i.toNat ≤ 63 → (j.toNat ≤ 95 ∨ j = 255) → x.toNat ≤ 1 →
        loads 5 ordinal [i, 0, j, x] [.pbc, .kd, .tr, .te, .ml, .reports] fun u =>
          ∀ m, tfind u.kd.records m =
            if m = i.toNat then some
              { port := port, mode := if x = 0 then .direct else .preset
                keys := ((tfind s.kd.records m).map (·.keys)).getD [] }
            else tfind s.kd.records m)
    ∧ (∀ e, keyForm form = some e → keyInRange e = true → 1 ≤ i.toNat → i.toNat ≤ 63 → j.toNat ≤ 31 →
        (tfind s.kd.records i.toNat = none → applyEntry 6 ordinal (i :: j :: form) s = (s, false))
        ∧ ((tfind s.kd.records i.toNat).isSome = true →
          loads 6 ordinal (i :: j :: form) [.pbc, .kd, .tr, .te, .ml, .reports] fun u =>
            ∀ n k, u.kd.entry n k = if n = i.toNat ∧ k = j.toNat then e else s.kd.entry n k))
    ∧ (j.toNat ≤ 23 ∨ j = 255 → (x = 0 ∨ (x = 255 ∧ y = 255)) →
        loads 7 ordinal [0, i, 3, j, x, y] [.rc, .reports] fun u =>
          ∀ n, u.rc.source n =
            if n = i.toNat then { position := port, tie := if x = 255 then none else some y.toNat } else s.rc.source n)
    ∧ (x.toNat ≤ 1 → loads 8 ordinal [0, i, x] [.rc, .reports] fun u =>
        ∀ d, u.rc.dest d =
          if d = i.toNat then { s.rc.dest d with protect := some ⟨none, if x = 0 then .protect else .lock⟩ } else s.rc.dest d)
    ∧ (∀ m b, 1 ≤ i.toNat → i.toNat ≤ 64 → bindingForm form = some b → bindingInRange b = true →
        (applyEntry 9 ordinal (BitVec.ofNat 8 (mixerCode m) :: i :: form) s).2 = true
        ∧ ∀ n k, (applyEntry 9 ordinal (BitVec.ofNat 8 (mixerCode m) :: i :: form) s).1.tr.binding n k =
            if n = m ∧ k = i.toNat then b else s.tr.binding n k)
    ∧ (i.toNat ≤ 23 → (j.toNat ≤ 95 ∨ j = 255) →
        loads 10 ordinal [i, j] [.tr, .reports] fun u =>
          ∀ n, u.tr.position n = if n = i.toNat then { s.tr.position n with port := port } else s.tr.position n)
    ∧ (let pairs := bytePairs form
      i.toNat ≤ 63 → pairs.length ≤ 64 → form.length = 2 * pairs.length → (pairs.map (·.1)).Nodup →
      (∀ f ∈ s.rc.fires, f.salvo ≠ i.toNat) → s.rc.poolUsed + pairs.length ≤ 1024 + (s.rc.salvo i.toNat).length →
        loads 11 ordinal (i :: BitVec.ofNat 8 pairs.length :: form) [.rc] fun u =>
          ∀ n, u.rc.salvo n = if n = i.toNat then pairs else s.rc.salvo n)
    ∧ loads 12 0 [1, i] [.ld] (fun u => u.ld.house = i.toNat ∧ u.ld.lamps = s.ld.lamps ∧ u.ld.tick = s.ld.tick)
    ∧ loads 12 1 [7, i, j, x] [.ld] (fun u =>
        u.ld.tick = max 10 (min 250 i.toNat) ∧ u.ld.step = max 1 j.toNat ∧ u.ld.floor = x.toNat ∧ u.ld.house = s.ld.house)
    ∧ (∀ hi lo, i.toNat ≤ 23 → y.toNat ≤ 1 → 2 ≤ ordinal →
        loads 12 ordinal [i, 7, x, hi, lo, y] [.ld] fun u =>
          let manual := hi.toNat * 256 + lo.toNat
          ∀ n, u.ld.lamp n =
            if n = i.toNat then
              { s.ld.lamp n with
                trim := x.toNat, manual := if manual = 65535 then none else some (min 255 manual), exclusive := y == 1 }
            else s.ld.lamp n))
  ∧ (∀ (ordinal : Nat) (k t l v : Byte) (s : State),
    let r := applyEntry 4 ordinal [k, t, l, v] s
    let new : Standing := ⟨t.toNat, l.toNat, max (-80) (min 24 (if v.toNat < 128 then (v.toNat : Int) else (v.toNat : Int) - 256))⟩
    let freed := if (tfind s.te.standing k.toNat).isSome then 1 else 0
    let room := hasRoom s.te freed [⟨new.talker, new.listener, { origin := .standing k.toNat, level := new.level }⟩]
    (127 < k.toNat ∨ 95 < t.toNat ∨ 95 < l.toNat ∨ t = l → r = (s, false))
    ∧ (k.toNat ≤ 127 → t.toNat ≤ 95 → l.toNat ≤ 95 → t ≠ l →
      (room = false → r =
        ({ s with
            cp := { s.cp with flags := s.cp.flags ||| 64 }
            te := { s.te with refusals := if s.te.refusals < 65535 then s.te.refusals + 1 else s.te.refusals } }, false))
      ∧ (room = true → r.2 = true ∧ OnlyChanges [.te, .ml, .reports] s r.1
        ∧ (∀ j, tfind r.1.te.standing j = if j = k.toNat then some new else tfind s.te.standing j)
        ∧ (∃ e, r.1.te.entry new.talker new.listener = some e ∧ { origin := .standing k.toNat, level := new.level } ∈ e.causes)
        ∧ ∀ kv ∈ r.1.te.paths, ∀ c ∈ kv.2.causes, c.origin = .standing k.toNat →
            kv.1 = pairKey new.talker new.listener ∧ c.level = new.level)))
  ∧ (∀ (b : List Byte) (s : State), b.length = 26 →
    let r := applyEntry 1 0 b s
    let field (i n : Nat) : Nat := beNat ((b.drop i).take n)
    let clamped (i n lo hi : Nat) : Nat := max lo (min hi (field i n))
    let idTaken : Prop := field 0 1 ≤ 63
      ∧ (s.pbc.node = .asleep ∨ s.pbc.node = .listening ∨ (s.pbc.node = .conflict ∧ field 0 1 ≠ 0))
    let mixer (x : Mixer) (i : Nat) : Prop :=
      let m := r.1.mm.mixer x
      if field i 1 ≤ 1 then
        m.mode = (if field i 1 = 0 then .onAir else .rehearsal) ∧ m.stale = clamped (i + 1) 2 100 5000
        ∧ m.withdraw = clamped (i + 3) 1 1 60
      else m = s.mm.mixer x
    OnlyChanges [.cp, .pbc, .kd, .rc, .mm, .te, .ml, .reports] s r.1
    ∧ (idTaken → r.1.pbc.id = field 0 1) ∧ (¬ idTaken → r.1.pbc.id = s.pbc.id)
    ∧ (idTaken → s.pbc.node ≠ .conflict → r.1.pbc.node = if field 0 1 = 0 then .asleep else .listening)
    ∧ (field 1 1 ≤ 1 → r.1.pbc.busAuto = decide (field 1 1 = 1)) ∧ (1 < field 1 1 → r.1.pbc.busAuto = s.pbc.busAuto)
    ∧ r.1.pbc.timing =
        { replyWindow := clamped 2 2 50 1000, silence := clamped 4 2 1 50, turnBudget := clamped 6 1 1 8
          census := clamped 7 2 100 5000, stallLimit := clamped 9 1 1 255, release := field 10 1 }
    ∧ r.1.kd = { s.kd with tapWindow := clamped 11 2 100 1000 }
    ∧ r.1.rc = { s.rc with replyTimer := clamped 13 2 10 1000 }
    ∧ mixer .a 15 ∧ mixer .b 19
    ∧ r.1.te.gainTick = clamped 23 1 5 100 ∧ r.1.te.rampStep = clamped 24 1 1 40 ∧ r.1.ml.replyTimeout = clamped 25 1 2 100
    ∧ (r.2 = true ↔ idTaken ∧ field 1 1 ≤ 1 ∧ field 15 1 ≤ 1 ∧ field 19 1 ≤ 1))
end

