-- ==== Sys2Proof/Laws/State.lean ====
section
/-! SUPPORT. What each named update of the state leaves in each of its components. -/

namespace Sys2Proof.Machine

@[simp] theorem setFlag_straps (f : Flag) (s : State) : (setFlag f s).straps = s.straps := rfl
@[simp] theorem setFlag_now (f : Flag) (s : State) : (setFlag f s).now = s.now := rfl
@[simp] theorem setFlag_cp (f : Flag) (s : State) : (setFlag f s).cp = { s.cp with flags := s.cp.flags ||| f.bit } := rfl
@[simp] theorem setFlag_pbc (f : Flag) (s : State) : (setFlag f s).pbc = s.pbc := rfl
@[simp] theorem setFlag_kd (f : Flag) (s : State) : (setFlag f s).kd = s.kd := rfl
@[simp] theorem setFlag_rc (f : Flag) (s : State) : (setFlag f s).rc = s.rc := rfl
@[simp] theorem setFlag_mm (f : Flag) (s : State) : (setFlag f s).mm = s.mm := rfl
@[simp] theorem setFlag_tr (f : Flag) (s : State) : (setFlag f s).tr = s.tr := rfl
@[simp] theorem setFlag_ld (f : Flag) (s : State) : (setFlag f s).ld = s.ld := rfl
@[simp] theorem setFlag_te (f : Flag) (s : State) : (setFlag f s).te = s.te := rfl
@[simp] theorem setFlag_ml (f : Flag) (s : State) : (setFlag f s).ml = s.ml := rfl
@[simp] theorem setFlag_pm (f : Flag) (s : State) : (setFlag f s).pm = s.pm := rfl
@[simp] theorem setFlag_reports (f : Flag) (s : State) : (setFlag f s).reports = s.reports := rfl
@[simp] theorem setFlag_pending (f : Flag) (s : State) : (setFlag f s).pending = s.pending := rfl

@[simp] theorem makeReply_straps (tag kind : Byte) (code : Code) (content : List Byte) (s : State) : (makeReply tag kind code content s).straps = s.straps := rfl
@[simp] theorem makeReply_now (tag kind : Byte) (code : Code) (content : List Byte) (s : State) : (makeReply tag kind code content s).now = s.now := rfl
@[simp] theorem makeReply_cp (tag kind : Byte) (code : Code) (content : List Byte) (s : State) : (makeReply tag kind code content s).cp = { s.cp with tx := s.cp.tx ++ [.reply tag (kind :: code.byte :: content)] } := rfl
@[simp] theorem makeReply_pbc (tag kind : Byte) (code : Code) (content : List Byte) (s : State) : (makeReply tag kind code content s).pbc = s.pbc := rfl
@[simp] theorem makeReply_kd (tag kind : Byte) (code : Code) (content : List Byte) (s : State) : (makeReply tag kind code content s).kd = s.kd := rfl
@[simp] theorem makeReply_rc (tag kind : Byte) (code : Code) (content : List Byte) (s : State) : (makeReply tag kind code content s).rc = s.rc := rfl
@[simp] theorem makeReply_mm (tag kind : Byte) (code : Code) (content : List Byte) (s : State) : (makeReply tag kind code content s).mm = s.mm := rfl
@[simp] theorem makeReply_tr (tag kind : Byte) (code : Code) (content : List Byte) (s : State) : (makeReply tag kind code content s).tr = s.tr := rfl
@[simp] theorem makeReply_ld (tag kind : Byte) (code : Code) (content : List Byte) (s : State) : (makeReply tag kind code content s).ld = s.ld := rfl
@[simp] theorem makeReply_te (tag kind : Byte) (code : Code) (content : List Byte) (s : State) : (makeReply tag kind code content s).te = s.te := rfl
@[simp] theorem makeReply_ml (tag kind : Byte) (code : Code) (content : List Byte) (s : State) : (makeReply tag kind code content s).ml = s.ml := rfl
@[simp] theorem makeReply_pm (tag kind : Byte) (code : Code) (content : List Byte) (s : State) : (makeReply tag kind code content s).pm = s.pm := rfl
@[simp] theorem makeReply_reports (tag kind : Byte) (code : Code) (content : List Byte) (s : State) : (makeReply tag kind code content s).reports = s.reports := rfl
@[simp] theorem makeReply_pending (tag kind : Byte) (code : Code) (content : List Byte) (s : State) : (makeReply tag kind code content s).pending = s.pending := rfl

@[simp] theorem endRequest_straps (tag : Byte) (s : State) : (endRequest tag s).straps = s.straps := rfl
@[simp] theorem endRequest_now (tag : Byte) (s : State) : (endRequest tag s).now = s.now := rfl
@[simp] theorem endRequest_cp (tag : Byte) (s : State) : (endRequest tag s).cp = { s.cp with outstanding := s.cp.outstanding.filter (·.tag != tag) } := rfl
@[simp] theorem endRequest_pbc (tag : Byte) (s : State) : (endRequest tag s).pbc = s.pbc := rfl
@[simp] theorem endRequest_kd (tag : Byte) (s : State) : (endRequest tag s).kd = s.kd := rfl
@[simp] theorem endRequest_rc (tag : Byte) (s : State) : (endRequest tag s).rc = s.rc := rfl
@[simp] theorem endRequest_mm (tag : Byte) (s : State) : (endRequest tag s).mm = s.mm := rfl
@[simp] theorem endRequest_tr (tag : Byte) (s : State) : (endRequest tag s).tr = s.tr := rfl
@[simp] theorem endRequest_ld (tag : Byte) (s : State) : (endRequest tag s).ld = s.ld := rfl
@[simp] theorem endRequest_te (tag : Byte) (s : State) : (endRequest tag s).te = s.te := rfl
@[simp] theorem endRequest_ml (tag : Byte) (s : State) : (endRequest tag s).ml = s.ml := rfl
@[simp] theorem endRequest_pm (tag : Byte) (s : State) : (endRequest tag s).pm = s.pm := rfl
@[simp] theorem endRequest_reports (tag : Byte) (s : State) : (endRequest tag s).reports = s.reports := rfl
@[simp] theorem endRequest_pending (tag : Byte) (s : State) : (endRequest tag s).pending = s.pending := rfl

@[simp] theorem discardFrame_straps (s : State) : (discardFrame s).straps = s.straps := rfl
@[simp] theorem discardFrame_now (s : State) : (discardFrame s).now = s.now := rfl
@[simp] theorem discardFrame_cp (s : State) : (discardFrame s).cp = { s.cp with linkErrors := bump s.cp.linkErrors, inFrame := false, flags := s.cp.flags ||| Flag.link.bit } := rfl
@[simp] theorem discardFrame_pbc (s : State) : (discardFrame s).pbc = s.pbc := rfl
@[simp] theorem discardFrame_kd (s : State) : (discardFrame s).kd = s.kd := rfl
@[simp] theorem discardFrame_rc (s : State) : (discardFrame s).rc = s.rc := rfl
@[simp] theorem discardFrame_mm (s : State) : (discardFrame s).mm = s.mm := rfl
@[simp] theorem discardFrame_tr (s : State) : (discardFrame s).tr = s.tr := rfl
@[simp] theorem discardFrame_ld (s : State) : (discardFrame s).ld = s.ld := rfl
@[simp] theorem discardFrame_te (s : State) : (discardFrame s).te = s.te := rfl
@[simp] theorem discardFrame_ml (s : State) : (discardFrame s).ml = s.ml := rfl
@[simp] theorem discardFrame_pm (s : State) : (discardFrame s).pm = s.pm := rfl
@[simp] theorem discardFrame_reports (s : State) : (discardFrame s).reports = s.reports := rfl
@[simp] theorem discardFrame_pending (s : State) : (discardFrame s).pending = s.pending := rfl

@[simp] theorem reportKd_straps (l : List ImageReport) (s : State) : (reportKd l s).straps = s.straps := rfl
@[simp] theorem reportKd_now (l : List ImageReport) (s : State) : (reportKd l s).now = s.now := rfl
@[simp] theorem reportKd_cp (l : List ImageReport) (s : State) : (reportKd l s).cp = s.cp := rfl
@[simp] theorem reportKd_pbc (l : List ImageReport) (s : State) : (reportKd l s).pbc = s.pbc := rfl
@[simp] theorem reportKd_kd (l : List ImageReport) (s : State) : (reportKd l s).kd = s.kd := rfl
@[simp] theorem reportKd_rc (l : List ImageReport) (s : State) : (reportKd l s).rc = s.rc := rfl
@[simp] theorem reportKd_mm (l : List ImageReport) (s : State) : (reportKd l s).mm = s.mm := rfl
@[simp] theorem reportKd_tr (l : List ImageReport) (s : State) : (reportKd l s).tr = s.tr := rfl
@[simp] theorem reportKd_ld (l : List ImageReport) (s : State) : (reportKd l s).ld = s.ld := rfl
@[simp] theorem reportKd_te (l : List ImageReport) (s : State) : (reportKd l s).te = s.te := rfl
@[simp] theorem reportKd_ml (l : List ImageReport) (s : State) : (reportKd l s).ml = s.ml := rfl
@[simp] theorem reportKd_pm (l : List ImageReport) (s : State) : (reportKd l s).pm = s.pm := rfl
@[simp] theorem reportKd_reports (l : List ImageReport) (s : State) : (reportKd l s).reports = { s.reports with kdFromRc := s.reports.kdFromRc ++ l } := rfl
@[simp] theorem reportKd_pending (l : List ImageReport) (s : State) : (reportKd l s).pending = s.pending := rfl

@[simp] theorem reportTrFromRc_straps (s : State) : (reportTrFromRc s).straps = s.straps := rfl
@[simp] theorem reportTrFromRc_now (s : State) : (reportTrFromRc s).now = s.now := rfl
@[simp] theorem reportTrFromRc_cp (s : State) : (reportTrFromRc s).cp = s.cp := rfl
@[simp] theorem reportTrFromRc_pbc (s : State) : (reportTrFromRc s).pbc = s.pbc := rfl
@[simp] theorem reportTrFromRc_kd (s : State) : (reportTrFromRc s).kd = s.kd := rfl
@[simp] theorem reportTrFromRc_rc (s : State) : (reportTrFromRc s).rc = s.rc := rfl
@[simp] theorem reportTrFromRc_mm (s : State) : (reportTrFromRc s).mm = s.mm := rfl
@[simp] theorem reportTrFromRc_tr (s : State) : (reportTrFromRc s).tr = s.tr := rfl
@[simp] theorem reportTrFromRc_ld (s : State) : (reportTrFromRc s).ld = s.ld := rfl
@[simp] theorem reportTrFromRc_te (s : State) : (reportTrFromRc s).te = s.te := rfl
@[simp] theorem reportTrFromRc_ml (s : State) : (reportTrFromRc s).ml = s.ml := rfl
@[simp] theorem reportTrFromRc_pm (s : State) : (reportTrFromRc s).pm = s.pm := rfl
@[simp] theorem reportTrFromRc_reports (s : State) : (reportTrFromRc s).reports = { s.reports with trFromRc := s.reports.trFromRc + 1 } := rfl
@[simp] theorem reportTrFromRc_pending (s : State) : (reportTrFromRc s).pending = s.pending := rfl

@[simp] theorem sendQuery_straps (d : Nat) (s : State) : (sendQuery d s).straps = s.straps := rfl
@[simp] theorem sendQuery_now (d : Nat) (s : State) : (sendQuery d s).now = s.now := rfl
@[simp] theorem sendQuery_cp (d : Nat) (s : State) : (sendQuery d s).cp = s.cp := rfl
@[simp] theorem sendQuery_pbc (d : Nat) (s : State) : (sendQuery d s).pbc = s.pbc := rfl
@[simp] theorem sendQuery_kd (d : Nat) (s : State) : (sendQuery d s).kd = s.kd := rfl
@[simp] theorem sendQuery_mm (d : Nat) (s : State) : (sendQuery d s).mm = s.mm := rfl
@[simp] theorem sendQuery_tr (d : Nat) (s : State) : (sendQuery d s).tr = s.tr := rfl
@[simp] theorem sendQuery_ld (d : Nat) (s : State) : (sendQuery d s).ld = s.ld := rfl
@[simp] theorem sendQuery_te (d : Nat) (s : State) : (sendQuery d s).te = s.te := rfl
@[simp] theorem sendQuery_ml (d : Nat) (s : State) : (sendQuery d s).ml = s.ml := rfl
@[simp] theorem sendQuery_pm (d : Nat) (s : State) : (sendQuery d s).pm = s.pm := rfl
@[simp] theorem sendQuery_reports (d : Nat) (s : State) : (sendQuery d s).reports = s.reports := rfl
@[simp] theorem sendQuery_pending (d : Nat) (s : State) : (sendQuery d s).pending = s.pending := rfl

@[simp] theorem routerStray_straps (s : State) : (routerStray s).straps = s.straps := rfl
@[simp] theorem routerStray_now (s : State) : (routerStray s).now = s.now := rfl
@[simp] theorem routerStray_cp (s : State) : (routerStray s).cp = s.cp := rfl
@[simp] theorem routerStray_pbc (s : State) : (routerStray s).pbc = s.pbc := rfl
@[simp] theorem routerStray_kd (s : State) : (routerStray s).kd = s.kd := rfl
@[simp] theorem routerStray_rc (s : State) : (routerStray s).rc = { s.rc with strays := bump s.rc.strays, consecutive := 0 } := rfl
@[simp] theorem routerStray_mm (s : State) : (routerStray s).mm = s.mm := rfl
@[simp] theorem routerStray_tr (s : State) : (routerStray s).tr = s.tr := rfl
@[simp] theorem routerStray_ld (s : State) : (routerStray s).ld = s.ld := rfl
@[simp] theorem routerStray_te (s : State) : (routerStray s).te = s.te := rfl
@[simp] theorem routerStray_ml (s : State) : (routerStray s).ml = s.ml := rfl
@[simp] theorem routerStray_pm (s : State) : (routerStray s).pm = s.pm := rfl
@[simp] theorem routerStray_reports (s : State) : (routerStray s).reports = s.reports := rfl
@[simp] theorem routerStray_pending (s : State) : (routerStray s).pending = s.pending := rfl

@[simp] theorem setEntry_straps (k : Nat) (e : PathEntry) (s : State) : (setEntry k e s).straps = s.straps := rfl
@[simp] theorem setEntry_now (k : Nat) (e : PathEntry) (s : State) : (setEntry k e s).now = s.now := rfl
@[simp] theorem setEntry_cp (k : Nat) (e : PathEntry) (s : State) : (setEntry k e s).cp = s.cp := rfl
@[simp] theorem setEntry_pbc (k : Nat) (e : PathEntry) (s : State) : (setEntry k e s).pbc = s.pbc := rfl
@[simp] theorem setEntry_kd (k : Nat) (e : PathEntry) (s : State) : (setEntry k e s).kd = s.kd := rfl
@[simp] theorem setEntry_rc (k : Nat) (e : PathEntry) (s : State) : (setEntry k e s).rc = s.rc := rfl
@[simp] theorem setEntry_mm (k : Nat) (e : PathEntry) (s : State) : (setEntry k e s).mm = s.mm := rfl
@[simp] theorem setEntry_tr (k : Nat) (e : PathEntry) (s : State) : (setEntry k e s).tr = s.tr := rfl
@[simp] theorem setEntry_ld (k : Nat) (e : PathEntry) (s : State) : (setEntry k e s).ld = s.ld := rfl
@[simp] theorem setEntry_te (k : Nat) (e : PathEntry) (s : State) : (setEntry k e s).te = { s.te with paths := tput s.te.paths k e } := rfl
@[simp] theorem setEntry_ml (k : Nat) (e : PathEntry) (s : State) : (setEntry k e s).ml = s.ml := rfl
@[simp] theorem setEntry_pm (k : Nat) (e : PathEntry) (s : State) : (setEntry k e s).pm = s.pm := rfl
@[simp] theorem setEntry_reports (k : Nat) (e : PathEntry) (s : State) : (setEntry k e s).reports = s.reports := rfl
@[simp] theorem setEntry_pending (k : Nat) (e : PathEntry) (s : State) : (setEntry k e s).pending = s.pending := rfl

@[simp] theorem reportRemoval_straps (k : Nat) (s : State) : (reportRemoval k s).straps = s.straps := rfl
@[simp] theorem reportRemoval_now (k : Nat) (s : State) : (reportRemoval k s).now = s.now := rfl
@[simp] theorem reportRemoval_cp (k : Nat) (s : State) : (reportRemoval k s).cp = s.cp := rfl
@[simp] theorem reportRemoval_pbc (k : Nat) (s : State) : (reportRemoval k s).pbc = s.pbc := rfl
@[simp] theorem reportRemoval_kd (k : Nat) (s : State) : (reportRemoval k s).kd = s.kd := rfl
@[simp] theorem reportRemoval_rc (k : Nat) (s : State) : (reportRemoval k s).rc = s.rc := rfl
@[simp] theorem reportRemoval_mm (k : Nat) (s : State) : (reportRemoval k s).mm = s.mm := rfl
@[simp] theorem reportRemoval_tr (k : Nat) (s : State) : (reportRemoval k s).tr = s.tr := rfl
@[simp] theorem reportRemoval_ld (k : Nat) (s : State) : (reportRemoval k s).ld = s.ld := rfl
@[simp] theorem reportRemoval_te (k : Nat) (s : State) : (reportRemoval k s).te = s.te := rfl
@[simp] theorem reportRemoval_ml (k : Nat) (s : State) : (reportRemoval k s).ml = s.ml := rfl
@[simp] theorem reportRemoval_pm (k : Nat) (s : State) : (reportRemoval k s).pm = s.pm := rfl
@[simp] theorem reportRemoval_reports (k : Nat) (s : State) : (reportRemoval k s).reports = { s.reports with teFromMl := s.reports.teFromMl ++ [⟨k, false⟩] } := rfl
@[simp] theorem reportRemoval_pending (k : Nat) (s : State) : (reportRemoval k s).pending = s.pending := rfl

@[simp] theorem matrixStray_straps (s : State) : (matrixStray s).straps = s.straps := rfl
@[simp] theorem matrixStray_now (s : State) : (matrixStray s).now = s.now := rfl
@[simp] theorem matrixStray_cp (s : State) : (matrixStray s).cp = s.cp := rfl
@[simp] theorem matrixStray_pbc (s : State) : (matrixStray s).pbc = s.pbc := rfl
@[simp] theorem matrixStray_kd (s : State) : (matrixStray s).kd = s.kd := rfl
@[simp] theorem matrixStray_rc (s : State) : (matrixStray s).rc = s.rc := rfl
@[simp] theorem matrixStray_mm (s : State) : (matrixStray s).mm = s.mm := rfl
@[simp] theorem matrixStray_tr (s : State) : (matrixStray s).tr = s.tr := rfl
@[simp] theorem matrixStray_ld (s : State) : (matrixStray s).ld = s.ld := rfl
@[simp] theorem matrixStray_te (s : State) : (matrixStray s).te = s.te := rfl
@[simp] theorem matrixStray_ml (s : State) : (matrixStray s).ml = { s.ml with strays := bump s.ml.strays, consecutive := 0 } := rfl
@[simp] theorem matrixStray_pm (s : State) : (matrixStray s).pm = s.pm := rfl
@[simp] theorem matrixStray_reports (s : State) : (matrixStray s).reports = s.reports := rfl
@[simp] theorem matrixStray_pending (s : State) : (matrixStray s).pending = s.pending := rfl

@[simp] theorem refuseRoom_straps (s : State) : (refuseRoom s).straps = s.straps := rfl
@[simp] theorem refuseRoom_now (s : State) : (refuseRoom s).now = s.now := rfl
@[simp] theorem refuseRoom_cp (s : State) : (refuseRoom s).cp = { s.cp with flags := s.cp.flags ||| Flag.paths.bit } := rfl
@[simp] theorem refuseRoom_pbc (s : State) : (refuseRoom s).pbc = s.pbc := rfl
@[simp] theorem refuseRoom_kd (s : State) : (refuseRoom s).kd = s.kd := rfl
@[simp] theorem refuseRoom_rc (s : State) : (refuseRoom s).rc = s.rc := rfl
@[simp] theorem refuseRoom_mm (s : State) : (refuseRoom s).mm = s.mm := rfl
@[simp] theorem refuseRoom_tr (s : State) : (refuseRoom s).tr = s.tr := rfl
@[simp] theorem refuseRoom_ld (s : State) : (refuseRoom s).ld = s.ld := rfl
@[simp] theorem refuseRoom_te (s : State) : (refuseRoom s).te = { s.te with refusals := bump s.te.refusals } := rfl
@[simp] theorem refuseRoom_ml (s : State) : (refuseRoom s).ml = s.ml := rfl
@[simp] theorem refuseRoom_pm (s : State) : (refuseRoom s).pm = s.pm := rfl
@[simp] theorem refuseRoom_reports (s : State) : (refuseRoom s).reports = s.reports := rfl
@[simp] theorem refuseRoom_pending (s : State) : (refuseRoom s).pending = s.pending := rfl

@[simp] theorem setKeyCtx_straps (n k : Nat) (f : KeyCtx → KeyCtx) (s : State) : (setKeyCtx n k f s).straps = s.straps := rfl
@[simp] theorem setKeyCtx_now (n k : Nat) (f : KeyCtx → KeyCtx) (s : State) : (setKeyCtx n k f s).now = s.now := rfl
@[simp] theorem setKeyCtx_cp (n k : Nat) (f : KeyCtx → KeyCtx) (s : State) : (setKeyCtx n k f s).cp = s.cp := rfl
@[simp] theorem setKeyCtx_pbc (n k : Nat) (f : KeyCtx → KeyCtx) (s : State) : (setKeyCtx n k f s).pbc = s.pbc := rfl
@[simp] theorem setKeyCtx_kd (n k : Nat) (f : KeyCtx → KeyCtx) (s : State) : (setKeyCtx n k f s).kd = { s.kd with contexts := tmodify s.kd.contexts n fun c => { c with keys := tmodify c.keys k f } } := rfl
@[simp] theorem setKeyCtx_rc (n k : Nat) (f : KeyCtx → KeyCtx) (s : State) : (setKeyCtx n k f s).rc = s.rc := rfl
@[simp] theorem setKeyCtx_mm (n k : Nat) (f : KeyCtx → KeyCtx) (s : State) : (setKeyCtx n k f s).mm = s.mm := rfl
@[simp] theorem setKeyCtx_tr (n k : Nat) (f : KeyCtx → KeyCtx) (s : State) : (setKeyCtx n k f s).tr = s.tr := rfl
@[simp] theorem setKeyCtx_ld (n k : Nat) (f : KeyCtx → KeyCtx) (s : State) : (setKeyCtx n k f s).ld = s.ld := rfl
@[simp] theorem setKeyCtx_te (n k : Nat) (f : KeyCtx → KeyCtx) (s : State) : (setKeyCtx n k f s).te = s.te := rfl
@[simp] theorem setKeyCtx_ml (n k : Nat) (f : KeyCtx → KeyCtx) (s : State) : (setKeyCtx n k f s).ml = s.ml := rfl
@[simp] theorem setKeyCtx_pm (n k : Nat) (f : KeyCtx → KeyCtx) (s : State) : (setKeyCtx n k f s).pm = s.pm := rfl
@[simp] theorem setKeyCtx_reports (n k : Nat) (f : KeyCtx → KeyCtx) (s : State) : (setKeyCtx n k f s).reports = s.reports := rfl
@[simp] theorem setKeyCtx_pending (n k : Nat) (f : KeyCtx → KeyCtx) (s : State) : (setKeyCtx n k f s).pending = s.pending := rfl

@[simp] theorem markDirty_straps (n k : Nat) (s : State) : (markDirty n k s).straps = s.straps := rfl
@[simp] theorem markDirty_now (n k : Nat) (s : State) : (markDirty n k s).now = s.now := rfl
@[simp] theorem markDirty_cp (n k : Nat) (s : State) : (markDirty n k s).cp = s.cp := rfl
@[simp] theorem markDirty_kd (n k : Nat) (s : State) : (markDirty n k s).kd = s.kd := rfl
@[simp] theorem markDirty_rc (n k : Nat) (s : State) : (markDirty n k s).rc = s.rc := rfl
@[simp] theorem markDirty_mm (n k : Nat) (s : State) : (markDirty n k s).mm = s.mm := rfl
@[simp] theorem markDirty_tr (n k : Nat) (s : State) : (markDirty n k s).tr = s.tr := rfl
@[simp] theorem markDirty_ld (n k : Nat) (s : State) : (markDirty n k s).ld = s.ld := rfl
@[simp] theorem markDirty_te (n k : Nat) (s : State) : (markDirty n k s).te = s.te := rfl
@[simp] theorem markDirty_ml (n k : Nat) (s : State) : (markDirty n k s).ml = s.ml := rfl
@[simp] theorem markDirty_pm (n k : Nat) (s : State) : (markDirty n k s).pm = s.pm := rfl
@[simp] theorem markDirty_reports (n k : Nat) (s : State) : (markDirty n k s).reports = s.reports := rfl
@[simp] theorem markDirty_pending (n k : Nat) (s : State) : (markDirty n k s).pending = s.pending := rfl

@[simp] theorem departure_straps (n : Nat) (s : State) : (departure n s).straps = s.straps := rfl
@[simp] theorem departure_now (n : Nat) (s : State) : (departure n s).now = s.now := rfl
@[simp] theorem departure_cp (n : Nat) (s : State) : (departure n s).cp = s.cp := rfl
@[simp] theorem departure_pbc (n : Nat) (s : State) : (departure n s).pbc = { s.pbc with inbound := s.pbc.inbound.filter (·.sender != n), reserved := s.pbc.reserved.filter (·.1 != n) } := rfl
@[simp] theorem departure_kd (n : Nat) (s : State) : (departure n s).kd = s.kd := rfl
@[simp] theorem departure_rc (n : Nat) (s : State) : (departure n s).rc = s.rc := rfl
@[simp] theorem departure_mm (n : Nat) (s : State) : (departure n s).mm = s.mm := rfl
@[simp] theorem departure_tr (n : Nat) (s : State) : (departure n s).tr = s.tr := rfl
@[simp] theorem departure_ld (n : Nat) (s : State) : (departure n s).ld = s.ld := rfl
@[simp] theorem departure_te (n : Nat) (s : State) : (departure n s).te = s.te := rfl
@[simp] theorem departure_ml (n : Nat) (s : State) : (departure n s).ml = s.ml := rfl
@[simp] theorem departure_pm (n : Nat) (s : State) : (departure n s).pm = s.pm := rfl
@[simp] theorem departure_reports (n : Nat) (s : State) : (departure n s).reports = { s.reports with kdPanels := s.reports.kdPanels ++ [.departure n] } := rfl
@[simp] theorem departure_pending (n : Nat) (s : State) : (departure n s).pending = s.pending := rfl

@[simp] theorem release_straps (n : Nat) (s : State) : (release n s).straps = s.straps := rfl
@[simp] theorem release_now (n : Nat) (s : State) : (release n s).now = s.now := rfl
@[simp] theorem release_cp (n : Nat) (s : State) : (release n s).cp = s.cp := rfl
@[simp] theorem release_pbc (n : Nat) (s : State) : (release n s).pbc = s.pbc := rfl
@[simp] theorem release_kd (n : Nat) (s : State) : (release n s).kd = s.kd := rfl
@[simp] theorem release_rc (n : Nat) (s : State) : (release n s).rc = s.rc := rfl
@[simp] theorem release_mm (n : Nat) (s : State) : (release n s).mm = s.mm := rfl
@[simp] theorem release_tr (n : Nat) (s : State) : (release n s).tr = s.tr := rfl
@[simp] theorem release_ld (n : Nat) (s : State) : (release n s).ld = s.ld := rfl
@[simp] theorem release_te (n : Nat) (s : State) : (release n s).te = s.te := rfl
@[simp] theorem release_ml (n : Nat) (s : State) : (release n s).ml = s.ml := rfl
@[simp] theorem release_pm (n : Nat) (s : State) : (release n s).pm = s.pm := rfl
@[simp] theorem release_reports (n : Nat) (s : State) : (release n s).reports = { s.reports with rcReleases := s.reports.rcReleases ++ [n] } := rfl
@[simp] theorem release_pending (n : Nat) (s : State) : (release n s).pending = s.pending := rfl

@[simp] theorem join_straps (n keys : Nat) (s : State) : (join n keys s).straps = s.straps := rfl
@[simp] theorem join_now (n keys : Nat) (s : State) : (join n keys s).now = s.now := rfl
@[simp] theorem join_cp (n keys : Nat) (s : State) : (join n keys s).cp = s.cp := rfl
@[simp] theorem join_pbc (n keys : Nat) (s : State) : (join n keys s).pbc = s.pbc := rfl
@[simp] theorem join_kd (n keys : Nat) (s : State) : (join n keys s).kd = s.kd := rfl
@[simp] theorem join_rc (n keys : Nat) (s : State) : (join n keys s).rc = s.rc := rfl
@[simp] theorem join_mm (n keys : Nat) (s : State) : (join n keys s).mm = s.mm := rfl
@[simp] theorem join_tr (n keys : Nat) (s : State) : (join n keys s).tr = s.tr := rfl
@[simp] theorem join_ld (n keys : Nat) (s : State) : (join n keys s).ld = s.ld := rfl
@[simp] theorem join_te (n keys : Nat) (s : State) : (join n keys s).te = s.te := rfl
@[simp] theorem join_ml (n keys : Nat) (s : State) : (join n keys s).ml = s.ml := rfl
@[simp] theorem join_pm (n keys : Nat) (s : State) : (join n keys s).pm = s.pm := rfl
@[simp] theorem join_reports (n keys : Nat) (s : State) : (join n keys s).reports = { s.reports with kdPanels := s.reports.kdPanels ++ [.join n keys] } := rfl
@[simp] theorem join_pending (n keys : Nat) (s : State) : (join n keys s).pending = s.pending := rfl

@[simp] theorem setRoster_straps (n : Nat) (e : RosterEntry) (s : State) : (setRoster n e s).straps = s.straps := rfl
@[simp] theorem setRoster_now (n : Nat) (e : RosterEntry) (s : State) : (setRoster n e s).now = s.now := rfl
@[simp] theorem setRoster_cp (n : Nat) (e : RosterEntry) (s : State) : (setRoster n e s).cp = s.cp := rfl
@[simp] theorem setRoster_pbc (n : Nat) (e : RosterEntry) (s : State) : (setRoster n e s).pbc = { s.pbc with roster := tput s.pbc.roster n e } := rfl
@[simp] theorem setRoster_kd (n : Nat) (e : RosterEntry) (s : State) : (setRoster n e s).kd = s.kd := rfl
@[simp] theorem setRoster_rc (n : Nat) (e : RosterEntry) (s : State) : (setRoster n e s).rc = s.rc := rfl
@[simp] theorem setRoster_mm (n : Nat) (e : RosterEntry) (s : State) : (setRoster n e s).mm = s.mm := rfl
@[simp] theorem setRoster_tr (n : Nat) (e : RosterEntry) (s : State) : (setRoster n e s).tr = s.tr := rfl
@[simp] theorem setRoster_ld (n : Nat) (e : RosterEntry) (s : State) : (setRoster n e s).ld = s.ld := rfl
@[simp] theorem setRoster_te (n : Nat) (e : RosterEntry) (s : State) : (setRoster n e s).te = s.te := rfl
@[simp] theorem setRoster_ml (n : Nat) (e : RosterEntry) (s : State) : (setRoster n e s).ml = s.ml := rfl
@[simp] theorem setRoster_pm (n : Nat) (e : RosterEntry) (s : State) : (setRoster n e s).pm = s.pm := rfl
@[simp] theorem setRoster_reports (n : Nat) (e : RosterEntry) (s : State) : (setRoster n e s).reports = s.reports := rfl
@[simp] theorem setRoster_pending (n : Nat) (e : RosterEntry) (s : State) : (setRoster n e s).pending = s.pending := rfl

@[simp] theorem dropRoster_straps (n : Nat) (s : State) : (dropRoster n s).straps = s.straps := rfl
@[simp] theorem dropRoster_now (n : Nat) (s : State) : (dropRoster n s).now = s.now := rfl
@[simp] theorem dropRoster_cp (n : Nat) (s : State) : (dropRoster n s).cp = s.cp := rfl
@[simp] theorem dropRoster_pbc (n : Nat) (s : State) : (dropRoster n s).pbc = { s.pbc with roster := tdel s.pbc.roster n } := rfl
@[simp] theorem dropRoster_kd (n : Nat) (s : State) : (dropRoster n s).kd = s.kd := rfl
@[simp] theorem dropRoster_rc (n : Nat) (s : State) : (dropRoster n s).rc = s.rc := rfl
@[simp] theorem dropRoster_mm (n : Nat) (s : State) : (dropRoster n s).mm = s.mm := rfl
@[simp] theorem dropRoster_tr (n : Nat) (s : State) : (dropRoster n s).tr = s.tr := rfl
@[simp] theorem dropRoster_ld (n : Nat) (s : State) : (dropRoster n s).ld = s.ld := rfl
@[simp] theorem dropRoster_te (n : Nat) (s : State) : (dropRoster n s).te = s.te := rfl
@[simp] theorem dropRoster_ml (n : Nat) (s : State) : (dropRoster n s).ml = s.ml := rfl
@[simp] theorem dropRoster_pm (n : Nat) (s : State) : (dropRoster n s).pm = s.pm := rfl
@[simp] theorem dropRoster_reports (n : Nat) (s : State) : (dropRoster n s).reports = s.reports := rfl
@[simp] theorem dropRoster_pending (n : Nat) (s : State) : (dropRoster n s).pending = s.pending := rfl

@[simp] theorem sendPb_straps (f : PbFrame) (s : State) : (sendPb f s).straps = s.straps := rfl
@[simp] theorem sendPb_now (f : PbFrame) (s : State) : (sendPb f s).now = s.now := rfl
@[simp] theorem sendPb_cp (f : PbFrame) (s : State) : (sendPb f s).cp = s.cp := rfl
@[simp] theorem sendPb_pbc (f : PbFrame) (s : State) : (sendPb f s).pbc = { s.pbc with tx := s.pbc.tx ++ [f] } := rfl
@[simp] theorem sendPb_kd (f : PbFrame) (s : State) : (sendPb f s).kd = s.kd := rfl
@[simp] theorem sendPb_rc (f : PbFrame) (s : State) : (sendPb f s).rc = s.rc := rfl
@[simp] theorem sendPb_mm (f : PbFrame) (s : State) : (sendPb f s).mm = s.mm := rfl
@[simp] theorem sendPb_tr (f : PbFrame) (s : State) : (sendPb f s).tr = s.tr := rfl
@[simp] theorem sendPb_ld (f : PbFrame) (s : State) : (sendPb f s).ld = s.ld := rfl
@[simp] theorem sendPb_te (f : PbFrame) (s : State) : (sendPb f s).te = s.te := rfl
@[simp] theorem sendPb_ml (f : PbFrame) (s : State) : (sendPb f s).ml = s.ml := rfl
@[simp] theorem sendPb_pm (f : PbFrame) (s : State) : (sendPb f s).pm = s.pm := rfl
@[simp] theorem sendPb_reports (f : PbFrame) (s : State) : (sendPb f s).reports = s.reports := rfl
@[simp] theorem sendPb_pending (f : PbFrame) (s : State) : (sendPb f s).pending = s.pending := rfl

@[simp] theorem sendAndWait_straps (f : PbFrame) (w : Work) (s : State) : (sendAndWait f w s).straps = s.straps := rfl
@[simp] theorem sendAndWait_now (f : PbFrame) (w : Work) (s : State) : (sendAndWait f w s).now = s.now := rfl
@[simp] theorem sendAndWait_cp (f : PbFrame) (w : Work) (s : State) : (sendAndWait f w s).cp = s.cp := rfl
@[simp] theorem sendAndWait_pbc (f : PbFrame) (w : Work) (s : State) : (sendAndWait f w s).pbc = { s.pbc with tx := s.pbc.tx ++ [f], work := w, windowOpen := false } := rfl
@[simp] theorem sendAndWait_kd (f : PbFrame) (w : Work) (s : State) : (sendAndWait f w s).kd = s.kd := rfl
@[simp] theorem sendAndWait_rc (f : PbFrame) (w : Work) (s : State) : (sendAndWait f w s).rc = s.rc := rfl
@[simp] theorem sendAndWait_mm (f : PbFrame) (w : Work) (s : State) : (sendAndWait f w s).mm = s.mm := rfl
@[simp] theorem sendAndWait_tr (f : PbFrame) (w : Work) (s : State) : (sendAndWait f w s).tr = s.tr := rfl
@[simp] theorem sendAndWait_ld (f : PbFrame) (w : Work) (s : State) : (sendAndWait f w s).ld = s.ld := rfl
@[simp] theorem sendAndWait_te (f : PbFrame) (w : Work) (s : State) : (sendAndWait f w s).te = s.te := rfl
@[simp] theorem sendAndWait_ml (f : PbFrame) (w : Work) (s : State) : (sendAndWait f w s).ml = s.ml := rfl
@[simp] theorem sendAndWait_pm (f : PbFrame) (w : Work) (s : State) : (sendAndWait f w s).pm = s.pm := rfl
@[simp] theorem sendAndWait_reports (f : PbFrame) (w : Work) (s : State) : (sendAndWait f w s).reports = s.reports := rfl
@[simp] theorem sendAndWait_pending (f : PbFrame) (w : Work) (s : State) : (sendAndWait f w s).pending = s.pending := rfl

@[simp] theorem onMember_straps (n : Nat) (f : Link → Nat → Option Millis → Presence) (s : State) : (onMember n f s).straps = s.straps := rfl
@[simp] theorem onMember_now (n : Nat) (f : Link → Nat → Option Millis → Presence) (s : State) : (onMember n f s).now = s.now := rfl
@[simp] theorem onMember_cp (n : Nat) (f : Link → Nat → Option Millis → Presence) (s : State) : (onMember n f s).cp = s.cp := rfl
@[simp] theorem onMember_kd (n : Nat) (f : Link → Nat → Option Millis → Presence) (s : State) : (onMember n f s).kd = s.kd := rfl
@[simp] theorem onMember_rc (n : Nat) (f : Link → Nat → Option Millis → Presence) (s : State) : (onMember n f s).rc = s.rc := rfl
@[simp] theorem onMember_mm (n : Nat) (f : Link → Nat → Option Millis → Presence) (s : State) : (onMember n f s).mm = s.mm := rfl
@[simp] theorem onMember_tr (n : Nat) (f : Link → Nat → Option Millis → Presence) (s : State) : (onMember n f s).tr = s.tr := rfl
@[simp] theorem onMember_ld (n : Nat) (f : Link → Nat → Option Millis → Presence) (s : State) : (onMember n f s).ld = s.ld := rfl
@[simp] theorem onMember_te (n : Nat) (f : Link → Nat → Option Millis → Presence) (s : State) : (onMember n f s).te = s.te := rfl
@[simp] theorem onMember_ml (n : Nat) (f : Link → Nat → Option Millis → Presence) (s : State) : (onMember n f s).ml = s.ml := rfl
@[simp] theorem onMember_pm (n : Nat) (f : Link → Nat → Option Millis → Presence) (s : State) : (onMember n f s).pm = s.pm := rfl
@[simp] theorem onMember_reports (n : Nat) (f : Link → Nat → Option Millis → Presence) (s : State) : (onMember n f s).reports = s.reports := rfl
@[simp] theorem onMember_pending (n : Nat) (f : Link → Nat → Option Millis → Presence) (s : State) : (onMember n f s).pending = s.pending := rfl

@[simp] theorem lapseReservation_straps (s : State) : (lapseReservation s).straps = s.straps := rfl
@[simp] theorem lapseReservation_now (s : State) : (lapseReservation s).now = s.now := rfl
@[simp] theorem lapseReservation_cp (s : State) : (lapseReservation s).cp = s.cp := rfl
@[simp] theorem lapseReservation_pbc (s : State) : (lapseReservation s).pbc = { s.pbc with reserved := none } := rfl
@[simp] theorem lapseReservation_kd (s : State) : (lapseReservation s).kd = s.kd := rfl
@[simp] theorem lapseReservation_rc (s : State) : (lapseReservation s).rc = s.rc := rfl
@[simp] theorem lapseReservation_mm (s : State) : (lapseReservation s).mm = s.mm := rfl
@[simp] theorem lapseReservation_tr (s : State) : (lapseReservation s).tr = s.tr := rfl
@[simp] theorem lapseReservation_ld (s : State) : (lapseReservation s).ld = s.ld := rfl
@[simp] theorem lapseReservation_te (s : State) : (lapseReservation s).te = s.te := rfl
@[simp] theorem lapseReservation_ml (s : State) : (lapseReservation s).ml = s.ml := rfl
@[simp] theorem lapseReservation_pm (s : State) : (lapseReservation s).pm = s.pm := rfl
@[simp] theorem lapseReservation_reports (s : State) : (lapseReservation s).reports = s.reports := rfl
@[simp] theorem lapseReservation_pending (s : State) : (lapseReservation s).pending = s.pending := rfl

@[simp] theorem discardCargo_straps (s : State) : (discardCargo s).straps = s.straps := rfl
@[simp] theorem discardCargo_now (s : State) : (discardCargo s).now = s.now := rfl
@[simp] theorem discardCargo_cp (s : State) : (discardCargo s).cp = s.cp := rfl
@[simp] theorem discardCargo_pbc (s : State) : (discardCargo s).pbc = { s.pbc with discarded := bump s.pbc.discarded } := rfl
@[simp] theorem discardCargo_kd (s : State) : (discardCargo s).kd = s.kd := rfl
@[simp] theorem discardCargo_rc (s : State) : (discardCargo s).rc = s.rc := rfl
@[simp] theorem discardCargo_mm (s : State) : (discardCargo s).mm = s.mm := rfl
@[simp] theorem discardCargo_tr (s : State) : (discardCargo s).tr = s.tr := rfl
@[simp] theorem discardCargo_ld (s : State) : (discardCargo s).ld = s.ld := rfl
@[simp] theorem discardCargo_te (s : State) : (discardCargo s).te = s.te := rfl
@[simp] theorem discardCargo_ml (s : State) : (discardCargo s).ml = s.ml := rfl
@[simp] theorem discardCargo_pm (s : State) : (discardCargo s).pm = s.pm := rfl
@[simp] theorem discardCargo_reports (s : State) : (discardCargo s).reports = s.reports := rfl
@[simp] theorem discardCargo_pending (s : State) : (discardCargo s).pending = s.pending := rfl

@[simp] theorem startChecking_straps (s : State) : (startChecking s).straps = s.straps := rfl
@[simp] theorem startChecking_now (s : State) : (startChecking s).now = s.now := rfl
@[simp] theorem startChecking_cp (s : State) : (startChecking s).cp = s.cp := rfl
@[simp] theorem startChecking_pbc (s : State) : (startChecking s).pbc = { s.pbc with node := .checking, checkingExpiry := some (after s.now Config.checkingMs) } := rfl
@[simp] theorem startChecking_kd (s : State) : (startChecking s).kd = s.kd := rfl
@[simp] theorem startChecking_rc (s : State) : (startChecking s).rc = s.rc := rfl
@[simp] theorem startChecking_mm (s : State) : (startChecking s).mm = s.mm := rfl
@[simp] theorem startChecking_tr (s : State) : (startChecking s).tr = s.tr := rfl
@[simp] theorem startChecking_ld (s : State) : (startChecking s).ld = s.ld := rfl
@[simp] theorem startChecking_te (s : State) : (startChecking s).te = s.te := rfl
@[simp] theorem startChecking_ml (s : State) : (startChecking s).ml = s.ml := rfl
@[simp] theorem startChecking_pm (s : State) : (startChecking s).pm = s.pm := rfl
@[simp] theorem startChecking_reports (s : State) : (startChecking s).reports = s.reports := rfl
@[simp] theorem startChecking_pending (s : State) : (startChecking s).pending = s.pending := rfl

@[simp] theorem enterListening_straps (s : State) : (enterListening s).straps = s.straps := rfl
@[simp] theorem enterListening_now (s : State) : (enterListening s).now = s.now := rfl
@[simp] theorem enterListening_cp (s : State) : (enterListening s).cp = s.cp := rfl
@[simp] theorem enterListening_pbc (s : State) : (enterListening s).pbc = { s.pbc with node := .listening, activitySeen := false, lastTurn := none } := rfl
@[simp] theorem enterListening_kd (s : State) : (enterListening s).kd = s.kd := rfl
@[simp] theorem enterListening_rc (s : State) : (enterListening s).rc = s.rc := rfl
@[simp] theorem enterListening_mm (s : State) : (enterListening s).mm = s.mm := rfl
@[simp] theorem enterListening_tr (s : State) : (enterListening s).tr = s.tr := rfl
@[simp] theorem enterListening_ld (s : State) : (enterListening s).ld = s.ld := rfl
@[simp] theorem enterListening_te (s : State) : (enterListening s).te = s.te := rfl
@[simp] theorem enterListening_ml (s : State) : (enterListening s).ml = s.ml := rfl
@[simp] theorem enterListening_pm (s : State) : (enterListening s).pm = s.pm := rfl
@[simp] theorem enterListening_reports (s : State) : (enterListening s).reports = s.reports := rfl
@[simp] theorem enterListening_pending (s : State) : (enterListening s).pending = s.pending := rfl

@[simp] theorem reportMixer_straps (x : Mixer) (s : State) : (reportMixer x s).straps = s.straps := rfl
@[simp] theorem reportMixer_now (x : Mixer) (s : State) : (reportMixer x s).now = s.now := rfl
@[simp] theorem reportMixer_cp (x : Mixer) (s : State) : (reportMixer x s).cp = s.cp := rfl
@[simp] theorem reportMixer_pbc (x : Mixer) (s : State) : (reportMixer x s).pbc = s.pbc := rfl
@[simp] theorem reportMixer_kd (x : Mixer) (s : State) : (reportMixer x s).kd = s.kd := rfl
@[simp] theorem reportMixer_rc (x : Mixer) (s : State) : (reportMixer x s).rc = s.rc := rfl
@[simp] theorem reportMixer_mm (x : Mixer) (s : State) : (reportMixer x s).mm = s.mm := rfl
@[simp] theorem reportMixer_tr (x : Mixer) (s : State) : (reportMixer x s).tr = s.tr := rfl
@[simp] theorem reportMixer_ld (x : Mixer) (s : State) : (reportMixer x s).ld = s.ld := rfl
@[simp] theorem reportMixer_te (x : Mixer) (s : State) : (reportMixer x s).te = s.te := rfl
@[simp] theorem reportMixer_ml (x : Mixer) (s : State) : (reportMixer x s).ml = s.ml := rfl
@[simp] theorem reportMixer_pm (x : Mixer) (s : State) : (reportMixer x s).pm = s.pm := rfl
@[simp] theorem reportMixer_reports (x : Mixer) (s : State) : (reportMixer x s).reports = { s.reports with trFromMm := s.reports.trFromMm ++ [x] } := rfl
@[simp] theorem reportMixer_pending (x : Mixer) (s : State) : (reportMixer x s).pending = s.pending := rfl

@[simp] theorem startTransfer_straps (t : Transfer) (s : State) : (startTransfer t s).straps = s.straps := rfl
@[simp] theorem startTransfer_now (t : Transfer) (s : State) : (startTransfer t s).now = s.now := rfl
@[simp] theorem startTransfer_cp (t : Transfer) (s : State) : (startTransfer t s).cp = s.cp := rfl
@[simp] theorem startTransfer_pbc (t : Transfer) (s : State) : (startTransfer t s).pbc = s.pbc := rfl
@[simp] theorem startTransfer_kd (t : Transfer) (s : State) : (startTransfer t s).kd = s.kd := rfl
@[simp] theorem startTransfer_rc (t : Transfer) (s : State) : (startTransfer t s).rc = s.rc := rfl
@[simp] theorem startTransfer_mm (t : Transfer) (s : State) : (startTransfer t s).mm = s.mm := rfl
@[simp] theorem startTransfer_tr (t : Transfer) (s : State) : (startTransfer t s).tr = s.tr := rfl
@[simp] theorem startTransfer_ld (t : Transfer) (s : State) : (startTransfer t s).ld = s.ld := rfl
@[simp] theorem startTransfer_te (t : Transfer) (s : State) : (startTransfer t s).te = s.te := rfl
@[simp] theorem startTransfer_ml (t : Transfer) (s : State) : (startTransfer t s).ml = s.ml := rfl
@[simp] theorem startTransfer_pm (t : Transfer) (s : State) : (startTransfer t s).pm = { s.pm with transfer := some t, unacked := 0, tried := s.now } := rfl
@[simp] theorem startTransfer_reports (t : Transfer) (s : State) : (startTransfer t s).reports = s.reports := rfl
@[simp] theorem startTransfer_pending (t : Transfer) (s : State) : (startTransfer t s).pending = s.pending := rfl

@[simp] theorem setWalk_straps (w : Walk) (s : State) : (setWalk w s).straps = s.straps := rfl
@[simp] theorem setWalk_now (w : Walk) (s : State) : (setWalk w s).now = s.now := rfl
@[simp] theorem setWalk_cp (w : Walk) (s : State) : (setWalk w s).cp = s.cp := rfl
@[simp] theorem setWalk_pbc (w : Walk) (s : State) : (setWalk w s).pbc = s.pbc := rfl
@[simp] theorem setWalk_kd (w : Walk) (s : State) : (setWalk w s).kd = s.kd := rfl
@[simp] theorem setWalk_rc (w : Walk) (s : State) : (setWalk w s).rc = s.rc := rfl
@[simp] theorem setWalk_mm (w : Walk) (s : State) : (setWalk w s).mm = s.mm := rfl
@[simp] theorem setWalk_tr (w : Walk) (s : State) : (setWalk w s).tr = s.tr := rfl
@[simp] theorem setWalk_ld (w : Walk) (s : State) : (setWalk w s).ld = s.ld := rfl
@[simp] theorem setWalk_te (w : Walk) (s : State) : (setWalk w s).te = s.te := rfl
@[simp] theorem setWalk_ml (w : Walk) (s : State) : (setWalk w s).ml = s.ml := rfl
@[simp] theorem setWalk_pm (w : Walk) (s : State) : (setWalk w s).pm = { s.pm with op := .walking w, transfer := none, unacked := 0 } := rfl
@[simp] theorem setWalk_reports (w : Walk) (s : State) : (setWalk w s).reports = s.reports := rfl
@[simp] theorem setWalk_pending (w : Walk) (s : State) : (setWalk w s).pending = s.pending := rfl

@[simp] theorem setSave_straps (sv : Save) (s : State) : (setSave sv s).straps = s.straps := rfl
@[simp] theorem setSave_now (sv : Save) (s : State) : (setSave sv s).now = s.now := rfl
@[simp] theorem setSave_cp (sv : Save) (s : State) : (setSave sv s).cp = s.cp := rfl
@[simp] theorem setSave_pbc (sv : Save) (s : State) : (setSave sv s).pbc = s.pbc := rfl
@[simp] theorem setSave_kd (sv : Save) (s : State) : (setSave sv s).kd = s.kd := rfl
@[simp] theorem setSave_rc (sv : Save) (s : State) : (setSave sv s).rc = s.rc := rfl
@[simp] theorem setSave_mm (sv : Save) (s : State) : (setSave sv s).mm = s.mm := rfl
@[simp] theorem setSave_tr (sv : Save) (s : State) : (setSave sv s).tr = s.tr := rfl
@[simp] theorem setSave_ld (sv : Save) (s : State) : (setSave sv s).ld = s.ld := rfl
@[simp] theorem setSave_te (sv : Save) (s : State) : (setSave sv s).te = s.te := rfl
@[simp] theorem setSave_ml (sv : Save) (s : State) : (setSave sv s).ml = s.ml := rfl
@[simp] theorem setSave_pm (sv : Save) (s : State) : (setSave sv s).pm = { s.pm with op := .saving sv } := rfl
@[simp] theorem setSave_reports (sv : Save) (s : State) : (setSave sv s).reports = s.reports := rfl
@[simp] theorem setSave_pending (sv : Save) (s : State) : (setSave sv s).pending = s.pending := rfl

@[simp] theorem badRouterFrame_straps (s : State) : (badRouterFrame s).straps = s.straps := rfl
@[simp] theorem badRouterFrame_now (s : State) : (badRouterFrame s).now = s.now := rfl
@[simp] theorem badRouterFrame_cp (s : State) : (badRouterFrame s).cp = s.cp := rfl
@[simp] theorem badRouterFrame_pbc (s : State) : (badRouterFrame s).pbc = s.pbc := rfl
@[simp] theorem badRouterFrame_kd (s : State) : (badRouterFrame s).kd = s.kd := rfl
@[simp] theorem badRouterFrame_rc (s : State) : (badRouterFrame s).rc = { s.rc with badFrames := bump s.rc.badFrames } := rfl
@[simp] theorem badRouterFrame_mm (s : State) : (badRouterFrame s).mm = s.mm := rfl
@[simp] theorem badRouterFrame_tr (s : State) : (badRouterFrame s).tr = s.tr := rfl
@[simp] theorem badRouterFrame_ld (s : State) : (badRouterFrame s).ld = s.ld := rfl
@[simp] theorem badRouterFrame_te (s : State) : (badRouterFrame s).te = s.te := rfl
@[simp] theorem badRouterFrame_ml (s : State) : (badRouterFrame s).ml = s.ml := rfl
@[simp] theorem badRouterFrame_pm (s : State) : (badRouterFrame s).pm = s.pm := rfl
@[simp] theorem badRouterFrame_reports (s : State) : (badRouterFrame s).reports = s.reports := rfl
@[simp] theorem badRouterFrame_pending (s : State) : (badRouterFrame s).pending = s.pending := rfl

@[simp] theorem badMatrixFrame_straps (s : State) : (badMatrixFrame s).straps = s.straps := rfl
@[simp] theorem badMatrixFrame_now (s : State) : (badMatrixFrame s).now = s.now := rfl
@[simp] theorem badMatrixFrame_cp (s : State) : (badMatrixFrame s).cp = s.cp := rfl
@[simp] theorem badMatrixFrame_pbc (s : State) : (badMatrixFrame s).pbc = s.pbc := rfl
@[simp] theorem badMatrixFrame_kd (s : State) : (badMatrixFrame s).kd = s.kd := rfl
@[simp] theorem badMatrixFrame_rc (s : State) : (badMatrixFrame s).rc = s.rc := rfl
@[simp] theorem badMatrixFrame_mm (s : State) : (badMatrixFrame s).mm = s.mm := rfl
@[simp] theorem badMatrixFrame_tr (s : State) : (badMatrixFrame s).tr = s.tr := rfl
@[simp] theorem badMatrixFrame_ld (s : State) : (badMatrixFrame s).ld = s.ld := rfl
@[simp] theorem badMatrixFrame_te (s : State) : (badMatrixFrame s).te = s.te := rfl
@[simp] theorem badMatrixFrame_ml (s : State) : (badMatrixFrame s).ml = { s.ml with badFrames := bump s.ml.badFrames } := rfl
@[simp] theorem badMatrixFrame_pm (s : State) : (badMatrixFrame s).pm = s.pm := rfl
@[simp] theorem badMatrixFrame_reports (s : State) : (badMatrixFrame s).reports = s.reports := rfl
@[simp] theorem badMatrixFrame_pending (s : State) : (badMatrixFrame s).pending = s.pending := rfl

/-! `announce`, `setFlagIf` and `deferredReply` change CP alone. -/

@[simp] theorem announce_straps (s : State) : (announce s).straps = s.straps := by unfold announce; split <;> rfl
@[simp] theorem setFlagIf_straps (c : Bool) (g : Flag) (s : State) : (setFlagIf c g s).straps = s.straps := by
  cases c <;> rfl
@[simp] theorem deferredReply_straps (tag kind : Byte) (code : Code) (content : List Byte) (s : State) :
    (deferredReply tag kind code content s).straps = s.straps := by unfold deferredReply; split <;> rfl
@[simp] theorem onMixer_straps (x : Mixer) (g : MixerRec → MixerRec) (s : State) : (onMixer x g s).straps = s.straps := by
  cases x <;> rfl
@[simp] theorem announce_now (s : State) : (announce s).now = s.now := by unfold announce; split <;> rfl
@[simp] theorem setFlagIf_now (c : Bool) (g : Flag) (s : State) : (setFlagIf c g s).now = s.now := by
  cases c <;> rfl
@[simp] theorem deferredReply_now (tag kind : Byte) (code : Code) (content : List Byte) (s : State) :
    (deferredReply tag kind code content s).now = s.now := by unfold deferredReply; split <;> rfl
@[simp] theorem onMixer_now (x : Mixer) (g : MixerRec → MixerRec) (s : State) : (onMixer x g s).now = s.now := by
  cases x <;> rfl
@[simp] theorem announce_pbc (s : State) : (announce s).pbc = s.pbc := by unfold announce; split <;> rfl
@[simp] theorem setFlagIf_pbc (c : Bool) (g : Flag) (s : State) : (setFlagIf c g s).pbc = s.pbc := by
  cases c <;> rfl
@[simp] theorem deferredReply_pbc (tag kind : Byte) (code : Code) (content : List Byte) (s : State) :
    (deferredReply tag kind code content s).pbc = s.pbc := by unfold deferredReply; split <;> rfl
@[simp] theorem onMixer_pbc (x : Mixer) (g : MixerRec → MixerRec) (s : State) : (onMixer x g s).pbc = s.pbc := by
  cases x <;> rfl
@[simp] theorem announce_kd (s : State) : (announce s).kd = s.kd := by unfold announce; split <;> rfl
@[simp] theorem setFlagIf_kd (c : Bool) (g : Flag) (s : State) : (setFlagIf c g s).kd = s.kd := by
  cases c <;> rfl
@[simp] theorem deferredReply_kd (tag kind : Byte) (code : Code) (content : List Byte) (s : State) :
    (deferredReply tag kind code content s).kd = s.kd := by unfold deferredReply; split <;> rfl
@[simp] theorem onMixer_kd (x : Mixer) (g : MixerRec → MixerRec) (s : State) : (onMixer x g s).kd = s.kd := by
  cases x <;> rfl
@[simp] theorem announce_rc (s : State) : (announce s).rc = s.rc := by unfold announce; split <;> rfl
@[simp] theorem setFlagIf_rc (c : Bool) (g : Flag) (s : State) : (setFlagIf c g s).rc = s.rc := by
  cases c <;> rfl
@[simp] theorem deferredReply_rc (tag kind : Byte) (code : Code) (content : List Byte) (s : State) :
    (deferredReply tag kind code content s).rc = s.rc := by unfold deferredReply; split <;> rfl
@[simp] theorem onMixer_rc (x : Mixer) (g : MixerRec → MixerRec) (s : State) : (onMixer x g s).rc = s.rc := by
  cases x <;> rfl
@[simp] theorem announce_mm (s : State) : (announce s).mm = s.mm := by unfold announce; split <;> rfl
@[simp] theorem setFlagIf_mm (c : Bool) (g : Flag) (s : State) : (setFlagIf c g s).mm = s.mm := by
  cases c <;> rfl
@[simp] theorem deferredReply_mm (tag kind : Byte) (code : Code) (content : List Byte) (s : State) :
    (deferredReply tag kind code content s).mm = s.mm := by unfold deferredReply; split <;> rfl
@[simp] theorem announce_tr (s : State) : (announce s).tr = s.tr := by unfold announce; split <;> rfl
@[simp] theorem setFlagIf_tr (c : Bool) (g : Flag) (s : State) : (setFlagIf c g s).tr = s.tr := by
  cases c <;> rfl
@[simp] theorem deferredReply_tr (tag kind : Byte) (code : Code) (content : List Byte) (s : State) :
    (deferredReply tag kind code content s).tr = s.tr := by unfold deferredReply; split <;> rfl
@[simp] theorem onMixer_tr (x : Mixer) (g : MixerRec → MixerRec) (s : State) : (onMixer x g s).tr = s.tr := by
  cases x <;> rfl
@[simp] theorem announce_ld (s : State) : (announce s).ld = s.ld := by unfold announce; split <;> rfl
@[simp] theorem setFlagIf_ld (c : Bool) (g : Flag) (s : State) : (setFlagIf c g s).ld = s.ld := by
  cases c <;> rfl
@[simp] theorem deferredReply_ld (tag kind : Byte) (code : Code) (content : List Byte) (s : State) :
    (deferredReply tag kind code content s).ld = s.ld := by unfold deferredReply; split <;> rfl
@[simp] theorem onMixer_ld (x : Mixer) (g : MixerRec → MixerRec) (s : State) : (onMixer x g s).ld = s.ld := by
  cases x <;> rfl
@[simp] theorem announce_te (s : State) : (announce s).te = s.te := by unfold announce; split <;> rfl
@[simp] theorem setFlagIf_te (c : Bool) (g : Flag) (s : State) : (setFlagIf c g s).te = s.te := by
  cases c <;> rfl
@[simp] theorem deferredReply_te (tag kind : Byte) (code : Code) (content : List Byte) (s : State) :
    (deferredReply tag kind code content s).te = s.te := by unfold deferredReply; split <;> rfl
@[simp] theorem onMixer_te (x : Mixer) (g : MixerRec → MixerRec) (s : State) : (onMixer x g s).te = s.te := by
  cases x <;> rfl
@[simp] theorem announce_ml (s : State) : (announce s).ml = s.ml := by unfold announce; split <;> rfl
@[simp] theorem setFlagIf_ml (c : Bool) (g : Flag) (s : State) : (setFlagIf c g s).ml = s.ml := by
  cases c <;> rfl
@[simp] theorem deferredReply_ml (tag kind : Byte) (code : Code) (content : List Byte) (s : State) :
    (deferredReply tag kind code content s).ml = s.ml := by unfold deferredReply; split <;> rfl
@[simp] theorem onMixer_ml (x : Mixer) (g : MixerRec → MixerRec) (s : State) : (onMixer x g s).ml = s.ml := by
  cases x <;> rfl
@[simp] theorem announce_pm (s : State) : (announce s).pm = s.pm := by unfold announce; split <;> rfl
@[simp] theorem setFlagIf_pm (c : Bool) (g : Flag) (s : State) : (setFlagIf c g s).pm = s.pm := by
  cases c <;> rfl
@[simp] theorem deferredReply_pm (tag kind : Byte) (code : Code) (content : List Byte) (s : State) :
    (deferredReply tag kind code content s).pm = s.pm := by unfold deferredReply; split <;> rfl
@[simp] theorem onMixer_pm (x : Mixer) (g : MixerRec → MixerRec) (s : State) : (onMixer x g s).pm = s.pm := by
  cases x <;> rfl
@[simp] theorem announce_reports (s : State) : (announce s).reports = s.reports := by unfold announce; split <;> rfl
@[simp] theorem setFlagIf_reports (c : Bool) (g : Flag) (s : State) : (setFlagIf c g s).reports = s.reports := by
  cases c <;> rfl
@[simp] theorem deferredReply_reports (tag kind : Byte) (code : Code) (content : List Byte) (s : State) :
    (deferredReply tag kind code content s).reports = s.reports := by unfold deferredReply; split <;> rfl
@[simp] theorem onMixer_reports (x : Mixer) (g : MixerRec → MixerRec) (s : State) : (onMixer x g s).reports = s.reports := by
  cases x <;> rfl
@[simp] theorem announce_pending (s : State) : (announce s).pending = s.pending := by unfold announce; split <;> rfl
@[simp] theorem setFlagIf_pending (c : Bool) (g : Flag) (s : State) : (setFlagIf c g s).pending = s.pending := by
  cases c <;> rfl
@[simp] theorem deferredReply_pending (tag kind : Byte) (code : Code) (content : List Byte) (s : State) :
    (deferredReply tag kind code content s).pending = s.pending := by unfold deferredReply; split <;> rfl
@[simp] theorem onMixer_pending (x : Mixer) (g : MixerRec → MixerRec) (s : State) : (onMixer x g s).pending = s.pending := by
  cases x <;> rfl

/-! What `MixerRec.resend` leaves of a mixer. -/

@[simp] theorem resend_line (m : MixerRec) : m.resend.line = m.line := rfl
@[simp] theorem resend_state (m : MixerRec) : m.resend.state = m.state := rfl
@[simp] theorem resend_mode (m : MixerRec) : m.resend.mode = m.mode := rfl
@[simp] theorem resend_stale (m : MixerRec) : m.resend.stale = m.stale := rfl
@[simp] theorem resend_withdraw (m : MixerRec) : m.resend.withdraw = m.withdraw := rfl
@[simp] theorem resend_lastRecord (m : MixerRec) : m.resend.lastRecord = m.lastRecord := rfl
@[simp] theorem resend_records (m : MixerRec) : m.resend.records = m.records := rfl
@[simp] theorem resend_resends (m : MixerRec) : m.resend.resends = bump m.resends := rfl
@[simp] theorem resend_sent (m : MixerRec) : m.resend.sent = m.sent ++ [.resend] := rfl

/-! What `announce` leaves of CP. -/

@[simp] theorem announce_flags (s : State) : (announce s).cp.flags = s.cp.flags := by unfold announce; split <;> rfl
@[simp] theorem announce_mask (s : State) : (announce s).cp.mask = s.cp.mask := by unfold announce; split <;> rfl
@[simp] theorem announce_outstanding (s : State) : (announce s).cp.outstanding = s.cp.outstanding := by
  unfold announce; split <;> rfl
@[simp] theorem announce_inFrame (s : State) : (announce s).cp.inFrame = s.cp.inFrame := by unfold announce; split <;> rfl
@[simp] theorem announce_begun (s : State) : (announce s).cp.begun = s.cp.begun := by unfold announce; split <;> rfl
@[simp] theorem announce_mode (s : State) : (announce s).cp.mode = s.cp.mode := by unfold announce; split <;> rfl
@[simp] theorem announce_resetting (s : State) : (announce s).cp.resetting = s.cp.resetting := by unfold announce; split <;> rfl
@[simp] theorem announce_linkErrors (s : State) : (announce s).cp.linkErrors = s.cp.linkErrors := by
  unfold announce; split <;> rfl

end Sys2Proof.Machine
end

