-- ==== Sys2Proof/Laws/Tables.lean ====
section
/-! SUPPORT. What the table operations, the counts and the profile memory do. -/

namespace Sys2Proof.Machine

variable {α β : Type}

/-! ### Tables -/

/-- Listing a key gives it the value and leaves every other key. -/
theorem tfind_tput (t : Tab α) (i j : Nat) (x : α) : tfind (tput t i x) j = if j = i then some x else tfind t j := by
  induction t with
  | nil => simp [tput, tfind]
  | cons kv t ih =>
    obtain ⟨k, v⟩ := kv
    simp only [tput]
    split
    · simp [tfind]
    · split
      · subst_vars; simp only [tfind]; split <;> rfl
      · simp only [tfind]; split
        · subst_vars; rw [if_neg (by omega)]
        · exact ih

/-- Dropping a key leaves every other key. -/
theorem tfind_tdel (t : Tab α) (i j : Nat) : tfind (tdel t i) j = if j = i then none else tfind t j := by
  induction t with
  | nil => simp [tdel, tfind]
  | cons kv t ih =>
    obtain ⟨k, v⟩ := kv
    simp only [tdel]
    split
    · subst_vars; simp only [ih, tfind]; split <;> simp_all
    · simp only [tfind, ih]; split
      · subst_vars; rw [if_neg (by omega)]
      · rfl

/-- Setting a key's value leaves every other key. -/
theorem tget_tset [DecidableEq α] (d : α) (t : Tab α) (i j : Nat) (x : α) :
    tget d (tset d t i x) j = if j = i then x else tget d t j := by
  unfold tset tget
  split
  · rw [tfind_tdel]; split <;> simp_all
  · rw [tfind_tput]; split <;> simp_all

/-- The value of a key after every value has been changed. -/
theorem tfind_map (t : Tab α) (f : Nat → α → β) (i : Nat) :
    tfind (t.map fun kv => (kv.1, f kv.1 kv.2)) i = (tfind t i).map (f i) := by
  induction t with
  | nil => rfl
  | cons kv t ih =>
    obtain ⟨k, v⟩ := kv
    simp only [List.map_cons, tfind]
    split
    · subst_vars; rfl
    · exact ih

/-- A change of one key's value. -/
theorem tfind_tmodify (t : Tab α) (i j : Nat) (f : α → α) :
    tfind (tmodify t i f) j = if j = i then (tfind t j).map f else tfind t j := by
  induction t with
  | nil => simp [tmodify, tfind]
  | cons kv t ih =>
    obtain ⟨k, v⟩ := kv
    by_cases h : k = i
    · subst h
      simp only [tmodify, List.map_cons, tfind, if_true] at ih ⊢
      split <;> simp_all
    · simp only [tmodify, List.map_cons, tfind, if_neg h] at ih ⊢
      split
      · subst_vars; simp [h]
      · exact ih

/-! ### Ascending keys -/

/-- Every key of a table lies above `b`. -/
def Above (b : Nat) (t : Tab α) : Prop := ∀ kv ∈ t, b < kv.1

theorem tsorted_cons (k : Nat) (v : α) (t : Tab α) : tsorted ((k, v) :: t) = true ↔ Above k t ∧ tsorted t = true := by
  induction t generalizing k v with
  | nil => simp [tsorted, Above]
  | cons kv t ih =>
    obtain ⟨l, w⟩ := kv
    have e : tsorted ((k, v) :: (l, w) :: t) = (decide (k < l) && tsorted ((l, w) :: t)) := rfl
    rw [e, Bool.and_eq_true, decide_eq_true_eq]
    constructor
    · rintro ⟨h, h2⟩
      refine ⟨fun x hx => ?_, h2⟩
      rcases List.mem_cons.1 hx with rfl | hx
      · exact h
      · exact lt_trans h (((ih l w).1 h2).1 x hx)
    · rintro ⟨h, h2⟩
      exact ⟨h (l, w) (List.mem_cons_self ..), h2⟩

theorem above_tput {b : Nat} {t : Tab α} {i : Nat} {x : α} (h : Above b t) (hi : b < i) : Above b (tput t i x) := by
  induction t with
  | nil => intro kv hkv; simp [tput] at hkv; subst hkv; exact hi
  | cons kv t ih =>
    obtain ⟨k, v⟩ := kv
    have hk : b < k := h (k, v) (List.mem_cons_self ..)
    have ht : Above b t := fun y hy => h y (List.mem_cons_of_mem _ hy)
    intro y hy
    simp only [tput] at hy
    split at hy
    · rcases List.mem_cons.1 hy with rfl | hy
      · exact hi
      · exact h y hy
    · split at hy
      · rcases List.mem_cons.1 hy with rfl | hy
        · exact hi
        · exact ht y hy
      · rcases List.mem_cons.1 hy with rfl | hy
        · exact hk
        · exact ih ht y hy

theorem mem_of_mem_tdel {t : Tab α} {i : Nat} {kv : Nat × α} (h : kv ∈ tdel t i) : kv ∈ t := by
  induction t with
  | nil => exact h
  | cons a t ih =>
    obtain ⟨k, v⟩ := a
    simp only [tdel] at h
    split at h
    · exact List.mem_cons_of_mem _ (ih h)
    · rcases List.mem_cons.1 h with rfl | h
      · exact List.mem_cons_self ..
      · exact List.mem_cons_of_mem _ (ih h)

/-- Listing a key keeps the keys ascending. -/
theorem tsorted_tput {t : Tab α} (i : Nat) (x : α) (h : tsorted t = true) : tsorted (tput t i x) = true := by
  induction t with
  | nil => rfl
  | cons kv t ih =>
    obtain ⟨k, v⟩ := kv
    have hs := (tsorted_cons k v t).1 h
    simp only [tput]
    split
    · rename_i hik
      refine (tsorted_cons ..).2 ⟨fun y hy => ?_, h⟩
      rcases List.mem_cons.1 hy with rfl | hy
      · exact hik
      · exact lt_trans hik (hs.1 y hy)
    · split
      · rename_i hik; subst hik; exact (tsorted_cons ..).2 hs
      · refine (tsorted_cons ..).2 ⟨above_tput hs.1 (by omega), ih hs.2⟩

/-- Dropping a key keeps the keys ascending. -/
theorem tsorted_tdel {t : Tab α} (i : Nat) (h : tsorted t = true) : tsorted (tdel t i) = true := by
  induction t with
  | nil => rfl
  | cons kv t ih =>
    obtain ⟨k, v⟩ := kv
    have hs := (tsorted_cons k v t).1 h
    simp only [tdel]
    split
    · exact ih hs.2
    · exact (tsorted_cons ..).2 ⟨fun y hy => hs.1 y (mem_of_mem_tdel hy), ih hs.2⟩

theorem tsorted_tset [DecidableEq α] {t : Tab α} (d : α) (i : Nat) (x : α) (h : tsorted t = true) :
    tsorted (tset d t i x) = true := by
  unfold tset; split
  · exact tsorted_tdel i h
  · exact tsorted_tput i x h

/-- A change of values keeps the keys ascending. -/
theorem tsorted_map {t : Tab α} (f : Nat × α → β) (h : tsorted t = true) :
    tsorted (t.map fun kv => (kv.1, f kv)) = true := by
  induction t with
  | nil => rfl
  | cons kv t ih =>
    obtain ⟨k, v⟩ := kv
    have hs := (tsorted_cons k v t).1 h
    refine (tsorted_cons ..).2 ⟨fun y hy => ?_, ih hs.2⟩
    obtain ⟨z, hz, rfl⟩ := List.mem_map.1 hy
    exact hs.1 z hz

theorem tsorted_tmodify {t : Tab α} (i : Nat) (f : α → α) (h : tsorted t = true) : tsorted (tmodify t i f) = true := by
  have e : tmodify t i f = t.map fun kv => (kv.1, if kv.1 = i then f kv.2 else kv.2) := by
    unfold tmodify; congr 1; funext kv; split <;> rfl
  rw [e]; exact tsorted_map _ h

/-! ### The profile memory -/

/-- A byte written is read back, and every other byte stands. -/
theorem readByte_writeByte (m : List Host.Cell) (a b : Nat) (x : Byte) :
    readByte (writeByte m a x) b = if b = a then x else readByte m b := tget_tset ..

/-- A byte outside the bytes written stands. -/
theorem readByte_writeBytes_of_outside (m : List Host.Cell) (a : Nat) (l : List Byte) (b : Nat) (h : b < a ∨ a + l.length ≤ b) :
    readByte (writeBytes m a l) b = readByte m b := by
  induction l generalizing m a with
  | nil => rfl
  | cons x l ih =>
    simp only [writeBytes, List.length_cons] at h ⊢
    rw [ih _ _ (by omega), readByte_writeByte, if_neg (by omega)]

theorem mem_tput {t : Tab α} {i : Nat} {x : α} {kv : Nat × α} (h : kv ∈ tput t i x) : kv = (i, x) ∨ kv ∈ t := by
  induction t with
  | nil => simp [tput] at h; exact .inl h
  | cons a t ih =>
    obtain ⟨k, v⟩ := a
    simp only [tput] at h
    split at h
    · exact List.mem_cons.1 h
    · split at h
      · rcases List.mem_cons.1 h with h | h
        · exact .inl h
        · exact .inr (List.mem_cons_of_mem _ h)
      · rcases List.mem_cons.1 h with rfl | h
        · exact .inr (List.mem_cons_self ..)
        · exact (ih h).imp_right (List.mem_cons_of_mem _)

/-- A write inside the memory keeps the canonical form. -/
theorem wf_writeByte {m : List Host.Cell} {a : Nat} (x : Byte) (h : Memory.wf m = true) (ha : a < Config.memoryBytes) :
    Memory.wf (writeByte m a x) = true := by
  simp only [Memory.wf, Bool.and_eq_true, List.all_eq_true, decide_eq_true_eq, bne_iff_ne] at h ⊢
  refine ⟨tsorted_tset _ _ _ h.1, fun c hc => ?_⟩
  unfold writeByte tset at hc
  split at hc
  · exact h.2 c (mem_of_mem_tdel hc)
  · rcases mem_tput hc with rfl | hc
    · exact ⟨ha, by assumption⟩
    · exact h.2 c hc

/-- Writes inside the memory keep the canonical form. -/
theorem wf_writeBytes {m : List Host.Cell} {a : Nat} (l : List Byte) (h : Memory.wf m = true)
    (ha : a + l.length ≤ Config.memoryBytes) : Memory.wf (writeBytes m a l) = true := by
  induction l generalizing m a with
  | nil => exact h
  | cons x l ih =>
    simp only [List.length_cons] at ha
    exact ih (wf_writeByte x h (by omega)) (by omega)

/-! ### Optional fields -/

theorem givenFields_of_optFields {ws : List Nat} {p : Nat} {b : List Byte} {fs : List (Option Nat)}
    (h : optFields ws p b = some fs) : givenFields ws p b = fs := by
  induction ws generalizing p b fs with
  | nil => cases b <;> simp_all [optFields, givenFields]
  | cons w ws ih =>
    unfold optFields at h
    unfold givenFields
    split at h
    · rename_i hp
      split at h
      · cases h
      · rename_i hw
        obtain ⟨gs, hg, rfl⟩ := Option.map_eq_some_iff.1 h
        rw [if_pos ⟨hp, Nat.not_lt.1 hw⟩, ih hg]
    · rename_i hp
      obtain ⟨gs, hg, rfl⟩ := Option.map_eq_some_iff.1 h
      rw [if_neg (fun c => hp c.1), if_neg hp, ih hg]

/-- Of a body of the right form the fields given are its fields. -/
theorem partialFields_of_presence {ws : List Nat} {b : List Byte} {fs : List (Option Nat)} (h : presence ws b = some fs) :
    partialFields ws b = fs := by
  cases b with
  | nil => simp [presence] at h
  | cons p b =>
    simp only [presence] at h
    split at h
    · cases h
    · exact givenFields_of_optFields h

/-! ### Counts and settings -/

/-- A count never passes its largest value, and below it rises by one. -/
theorem bump_spec (n : Nat) : (n < 65535 → bump n = n + 1) ∧ (65535 ≤ n → bump n = n) := by
  unfold bump Config.countMax; constructor <;> intro h
  · rw [if_pos h]
  · rw [if_neg (by omega)]

/-- A clamped setting lies in its range, and a setting in its range is kept. -/
theorem clampN_spec {lo hi : Nat} (n : Nat) (h : lo ≤ hi) :
    lo ≤ clampN lo hi n ∧ clampN lo hi n ≤ hi ∧ (lo ≤ n → n ≤ hi → clampN lo hi n = n) := by
  unfold clampN; split
  · omega
  · split <;> omega

theorem clampI_spec {lo hi : Int} (n : Int) (h : lo ≤ hi) :
    lo ≤ clampI lo hi n ∧ clampI lo hi n ≤ hi ∧ (lo ≤ n → n ≤ hi → clampI lo hi n = n) := by
  unfold clampI; split
  · omega
  · split <;> omega

end Sys2Proof.Machine
end

