-- ==== Sys2Proof/Laws/Control.lean ====
section
/-! SUPPORT. What an event's end, a request and a deferred reply do to the Control Port. -/

namespace Sys2Proof.Machine

/-! ### Frames compose -/

theorem OnlyChanges.refl (ps : List Part) (s : State) : OnlyChanges ps s s := fun p _ => by cases p <;> rfl

theorem OnlyChanges.trans {ps : List Part} {s t u : State} (h : OnlyChanges ps s t) (k : OnlyChanges ps t u) :
    OnlyChanges ps s u := fun p hp => by
  have a := h p hp; have b := k p hp
  cases p <;> simp only [sameAt] at a b ⊢ <;> rw [b, a]

theorem OnlyChanges.mono {ps qs : List Part} {s t : State} (h : OnlyChanges ps s t) (hq : ∀ p ∈ ps, p ∈ qs) :
    OnlyChanges qs s t := fun p hp => h p fun hm => hp (hq p hm)

/-- A fold of operations that each leave the other components alone does too. -/
theorem OnlyChanges.foldl {α : Type} {ps : List Part} {f : State → α → State} (h : ∀ s a, OnlyChanges ps s (f s a))
    (l : List α) (s : State) : OnlyChanges ps s (l.foldl f s) := by
  induction l generalizing s with
  | nil => exact .refl ps s
  | cons a l ih => exact (h s a).trans (ih _)

/-! ### The end of an event (R185) -/

@[simp] theorem finish_eq (s : State) : finish s = .next (announce s) := rfl

theorem announced_or_due (f m a : FlagSet) : a ||| (f &&& m &&& ~~~a) = a ||| (f &&& m) := by
  ext i hi; simp only [BitVec.getElem_or, BitVec.getElem_and, BitVec.getElem_not]
  cases a[i] <;> simp

@[simp] theorem announce_announced (s : State) : (announce s).cp.announced = s.cp.announced ||| (s.cp.flags &&& s.cp.mask) := by
  rw [← announced_or_due]
  unfold announce
  split
  · rename_i h; unfold Cp.due at h; rw [h]; simp
  · rfl

/-- After an event no flag is set, enabled and unannounced. -/
@[simp] theorem due_announce (s : State) : (announce s).cp.due = 0 := by
  unfold Cp.due
  rw [announce_flags, announce_mask, announce_announced]
  ext i hi
  simp only [BitVec.getElem_or, BitVec.getElem_and, BitVec.getElem_not]
  cases s.cp.flags[i] <;> cases s.cp.mask[i] <;> simp

@[simp] theorem isNotice_reply (t : Byte) (b : List Byte) : (CtlFrame.reply t b).isNotice = false := rfl
@[simp] theorem isNotice_notice (c : FlagSet) (r : Option FlagSet) : (CtlFrame.notice c r).isNotice = true := rfl

theorem replies_joinNotice (c : FlagSet) (l : List CtlFrame) :
    (joinNotice c l).filter (!·.isNotice) = l.filter (!·.isNotice) := by
  induction l with
  | nil => rfl
  | cons f l ih => cases f <;> simp [joinNotice, ih]

/-- An announcement makes no reply. -/
@[simp] theorem replies_announce (s : State) : replies (announce s).cp = replies s.cp := by
  unfold announce; split
  · rfl
  · exact replies_joinNotice _ _

/-- With nothing due the transmitter stands. -/
theorem announce_tx_of_not_due (s : State) (h : s.cp.due = 0) : (announce s).cp.tx = s.cp.tx := by
  unfold announce; rw [if_pos h]

theorem announce_of_not_due (s : State) (h : s.cp.due = 0) : announce s = s := by unfold announce; rw [if_pos h]

/-- An announcement makes a NOTICE only where none waits. -/
theorem notices_joinNotice (c : FlagSet) (l : List CtlFrame) :
    (joinNotice c l).countP (·.isNotice) = max 1 (l.countP (·.isNotice)) := by
  induction l with
  | nil => rfl
  | cons f l ih => cases f with
    | reply t b => simp [joinNotice, ih]
    | notice c' r => simp [joinNotice, List.countP_cons]

/-! ### Requests (R181) -/

/-- A bad character or a gap discards the frame an IN-FRAME receiver is in; a HUNTING receiver is left as it is (R180). -/
theorem discardReceived_inFrame {s : State} (h : s.cp.inFrame = true) : discardReceived s = discardFrame s := by
  simp [discardReceived, h]

theorem discardReceived_hunting {s : State} (h : s.cp.inFrame = false) : discardReceived s = s := by
  simp [discardReceived, h]

/-- An admitted request is handed to its block, and answered at once where the block says so. -/
theorem request_admitted {k : ReqKind} {c : Class} {tag : Byte} {body : List Byte} {s : State}
    (own : List Byte → State → Answer) (h : Admitted c tag body s) :
    request k c own tag body s =
      match own body (taken tag k.byte s) with
      | .now code content t => .next (announce (makeReply tag k.byte code content (endRequest tag t)))
      | .later t => .next (announce t) := by
  obtain ⟨h1, h2, h3, h4, h5⟩ := h
  have hf : ¬ (tag = 0 ∨ s.cp.outstanding.any (·.tag == tag) = true) := by
    rintro (h | h)
    · exact h2 h
    · obtain ⟨o, ho, e⟩ := List.any_eq_true.1 h; exact h3 o ho (by simpa using e)
  unfold request takeRequest
  have e5 : admits { s with cp := { s.cp with inFrame := false } } c = true := by rw [← h5]; cases c <;> rfl
  dsimp only
  rw [if_neg (Nat.not_lt.2 h1), if_neg hf, if_neg (Nat.not_le.2 h4), e5]
  simp only [finish_eq, Bool.not_true, Bool.false_eq_true, if_false]
  have e : ({ ({ s with cp := { s.cp with inFrame := false } } : State) with
      cp := { s.cp with inFrame := false, outstanding := s.cp.outstanding ++ [⟨tag, k.byte⟩] } } : State) = taken tag k.byte s := rfl
  rw [e]
  cases own body (taken tag k.byte s) <;> rfl

theorem filter_fresh {tag kind : Byte} {l : List Outstanding} (h : ∀ o ∈ l, o.tag ≠ tag) :
    (l ++ [(⟨tag, kind⟩ : Outstanding)]).filter (·.tag != tag) = l := by
  rw [List.filter_append, List.filter_eq_self.2 fun o ho => by simpa using h o ho]; simp

/-- An immediate answer: what it does to CP, `f` being the flags the block set. -/
theorem answered_of {tag kind : Byte} {code : Code} {content : List Byte} {s u : State} (f : FlagSet)
    (hfresh : ∀ o ∈ s.cp.outstanding, o.tag ≠ tag)
    (hu : u.cp = { (taken tag kind s).cp with flags := s.cp.flags ||| f }) :
    Answered s (announce (makeReply tag kind code content (endRequest tag u))) tag kind code content f := by
  refine ⟨⟨?_, ?_, ?_, ?_, ?_, ?_, ?_, ?_⟩, ?_, ?_⟩ <;>
    simp [replies, hu, taken, filter_fresh hfresh, CtlFrame.isNotice]
  have := replies_announce (makeReply tag kind code content (endRequest tag u))
  simp [replies, hu, taken, CtlFrame.isNotice] at this
  exact this

/-- A request kept for later: what it does to CP where the block does nothing there. -/
theorem deferred_of {tag kind : Byte} {s u : State} (hu : u.cp = (taken tag kind s).cp) :
    Deferred s (announce u) tag kind := by
  have := replies_announce u
  refine ⟨⟨?_, ?_, ?_, ?_, ?_, ?_, ?_, ?_⟩, ?_, ?_⟩ <;> simp_all [replies, taken]

/-- An event that makes no reply: what it does to CP, `f` being the flags it set. -/
theorem silent_of {s u : State} (f : FlagSet) (hu : u.cp = { s.cp with flags := s.cp.flags ||| f }) :
    Silent s (announce u) f := by
  have := replies_announce u
  refine ⟨⟨?_, ?_, ?_, ?_, ?_, ?_, ?_, ?_⟩, ?_, ?_⟩ <;> simp_all [replies]

/-- A deferred reply to an outstanding request. -/
theorem settled_of {tag kind : Byte} {code : Code} {content : List Byte} {s u : State} (f : FlagSet)
    (hin : ⟨tag, kind⟩ ∈ s.cp.outstanding) (hu : u.cp = { s.cp with flags := s.cp.flags ||| f }) :
    Settled s (announce (deferredReply tag kind code content u)) tag kind code content f := by
  have e : deferredReply tag kind code content u = makeReply tag kind code content (endRequest tag u) := by
    unfold deferredReply; rw [if_pos]; rw [hu]; simpa using hin
  rw [e]
  have := replies_announce (makeReply tag kind code content (endRequest tag u))
  refine ⟨⟨?_, ?_, ?_, ?_, ?_, ?_, ?_, ?_⟩, ?_, ?_⟩ <;> simp_all [replies, CtlFrame.isNotice]

end Sys2Proof.Machine
end

