-- ==== Sys2Proof/Laws/Frames.lean ====
section
/-! SUPPORT. Which components of the state each shared operation can change. -/

namespace Sys2Proof.Machine

/-! ### RC -/

theorem reportKd_frame (l : List ImageReport) (s : State) : OnlyChanges [.reports] s (reportKd l s) := by
  intro p hp; cases p <;> first | rfl | simp at hp

theorem reportTrFromRc_frame (s : State) : OnlyChanges [.reports] s (reportTrFromRc s) := by
  intro p hp; cases p <;> first | rfl | simp at hp

theorem setConfirmed_frame (d : Nat) (v : Option Nat) (s : State) : OnlyChanges [.rc, .reports] s (setConfirmed d v s).1 := by
  unfold setConfirmed; dsimp only; split
  · exact .refl _ _
  · intro p hp; cases p <;> first | rfl | simp at hp

theorem setPending_frame (d : Nat) (v : Option Nat) (s : State) : OnlyChanges [.rc] s (setPending d v s).1 := by
  unfold setPending; dsimp only; split
  · exact .refl _ _
  · intro p hp; cases p <;> first | rfl | simp at hp

theorem setProtect_frame (d : Nat) (v : Option Protect) (s : State) : OnlyChanges [.rc, .reports] s (setProtect d v s) := by
  unfold setProtect; dsimp only; split
  · exact .refl _ _
  · intro p hp; cases p <;> first | rfl | simp at hp

theorem toggleProtect_frame (d n : Nat) (s : State) : OnlyChanges [.rc, .reports] s (toggleProtect d n s).1 := by
  unfold toggleProtect
  split
  · exact setProtect_frame _ _ _
  · split
    · exact setProtect_frame _ _ _
    · exact .refl _ _
  · exact .refl _ _

theorem releaseProtects_frame (n : Nat) (s : State) : OnlyChanges [.rc, .reports] s (releaseProtects n s) :=
  .foldl (fun t kv => by split <;> first | exact setProtect_frame _ _ _ | exact .refl _ _) _ s

theorem deferredReply_frame (tag kind : Byte) (c : Code) (l : List Byte) (s : State) :
    OnlyChanges [.cp] s (deferredReply tag kind c l s) := by
  unfold deferredReply; split
  · intro p hp; cases p <;> first | rfl | simp at hp
  · exact .refl _ _

theorem completeFire_frame (f : Fire) (s : State) : OnlyChanges [.cp, .rc, .reports] s (completeFire f s) := by
  unfold completeFire; dsimp only
  split
  · refine OnlyChanges.trans ?_ ((deferredReply_frame _ _ _ _ _).mono (by simp))
    intro p hp; cases p <;> first | rfl | simp at hp
  · intro p hp; cases p <;> first | rfl | simp at hp

theorem countFire_frame (n : Nat) (o : TakeOutcome) (s : State) : OnlyChanges [.cp, .rc, .reports] s (countFire n o s) := by
  unfold countFire; split
  · exact .refl _ _
  · dsimp only; split
    · exact completeFire_frame _ _
    · intro p hp; cases p <;> first | rfl | simp at hp

theorem deliver_frame (r : Requester) (o : TakeOutcome) (c : List Byte) (l : List ImageReport) (s : State) :
    OnlyChanges [.cp, .rc, .reports] s (deliver r o c l s) := by
  unfold deliver; split
  · exact ((reportKd_frame l s).mono (by simp)).trans ((deferredReply_frame _ _ _ _ _).mono (by simp))
  · intro p hp; cases p <;> first | rfl | simp at hp
  · exact ((reportKd_frame l s).mono (by simp)).trans (countFire_frame _ _ _)

theorem setQueue_frame (q : List TakeEntry) (s : State) : OnlyChanges [.cp, .rc, .reports] s { s with rc := { s.rc with queue := q } } := by
  intro p hp; cases p <;> first | rfl | simp at hp

theorem sendEntry_frame (e : TakeEntry) (l : List TakeEntry) (s : State) :
    OnlyChanges [.cp, .rc, .reports] s (sendEntry e l s) := by
  unfold sendEntry; split
  · exact (setQueue_frame l s).trans (deliver_frame _ _ _ _ _)
  · dsimp only
    refine ((setPending_frame e.dest (some e.source) s).mono (by simp)).trans
      (((reportKd_frame (setPending e.dest (some e.source) s).2 _).mono (by simp)).trans ?_)
    intro p hp; cases p <;> first | rfl | simp at hp

theorem fillPlace_frame {s t : State} (h : fillPlace s = some t) : OnlyChanges [.cp, .rc, .reports] s t := by
  unfold fillPlace at h
  split at h
  · cases h
  · split at h
    · cases h; exact sendEntry_frame _ _ _
    · cases hq : s.rc.nextQuery with
      | none => rw [hq] at h; cases h
      | some d =>
        rw [hq] at h; cases h
        intro p hp; cases p <;> first | rfl | simp at hp

theorem fillLoop_frame (n : Nat) (s : State) : OnlyChanges [.cp, .rc, .reports] s (fillLoop n s) := by
  induction n generalizing s with
  | zero => exact .refl _ _
  | succ n ih =>
    unfold fillLoop
    cases h : fillPlace s with
    | none => exact .refl _ _
    | some t => exact (fillPlace_frame h).trans (ih t)

theorem fillWindow_frame (s : State) : OnlyChanges [.cp, .rc, .reports] s (fillWindow s) := fillLoop_frame _ s

theorem enqueue_frame (d x : Nat) (r : Requester) (s : State) : OnlyChanges [.cp, .rc, .reports] s (enqueue d x r s) := by
  unfold enqueue
  refine OnlyChanges.trans ?_ (fillWindow_frame _)
  split
  · exact (setQueue_frame _ s).trans (deliver_frame _ _ _ _ _)
  · exact (setQueue_frame _ s).trans ((reportKd_frame _ _).mono (by simp))

theorem startFire_frame (n : Nat) (p : Party) (s : State) : OnlyChanges [.cp, .rc, .reports] s (startFire n p s) := by
  unfold startFire; dsimp only
  generalize hf : ({ serial := s.rc.nextSerial, salvo := n, party := p, awaiting := _, done := 0, other := 0, skipped := _ } : Fire) = f
  have h0 : OnlyChanges [.cp, .rc, .reports] s
      (reportKd [.fire n p.identity] { s with rc := { s.rc with fires := s.rc.fires ++ [f], nextSerial := s.rc.nextSerial + 1 } }) := by
    intro p hp; cases p <;> first | rfl | simp at hp
  split
  · exact h0.trans (completeFire_frame _ _)
  · exact h0.trans (.foldl (fun t q => enqueue_frame _ _ _ t) _ _)

theorem setFlag_frame (f : Flag) (s : State) : OnlyChanges [.cp] s (setFlag f s) := by
  intro p hp; cases p <;> first | rfl | simp at hp

theorem setFlagIf_frame (c : Bool) (f : Flag) (s : State) : OnlyChanges [.cp] s (setFlagIf c f s) := by
  unfold setFlagIf; split
  · exact setFlag_frame f s
  · exact .refl _ _

theorem announce_frame (s : State) : OnlyChanges [.cp] s (announce s) := by
  unfold announce; split
  · exact .refl _ _
  · intro p hp; cases p <;> first | rfl | simp at hp

theorem routerDown_frame (s : State) : OnlyChanges [.cp, .rc, .reports] s (routerDown s) := by
  unfold routerDown; dsimp only
  refine OnlyChanges.trans ?_ ((setFlag_frame _ _).mono (by simp))
  refine OnlyChanges.trans ?_ (.foldl (fun t q => deliver_frame _ _ _ _ t) _ _)
  intro p hp; cases p <;> first | rfl | simp at hp

theorem routerTimeout_frame (s : State) : OnlyChanges [.cp, .rc, .reports] s (routerTimeout s) := by
  unfold routerTimeout; dsimp only
  have h0 : OnlyChanges [.cp, .rc, .reports] s { s with rc := { s.rc with consecutive := bump s.rc.consecutive } } := by
    intro p hp; cases p <;> first | rfl | simp at hp
  split
  · exact h0.trans (routerDown_frame _)
  · exact h0

theorem routerUp_frame (s : State) : OnlyChanges [.cp, .rc, .reports] s (routerUp s) := by
  unfold routerUp; split
  · intro p hp; cases p <;> first | rfl | simp at hp
  · exact .refl _ _

theorem endEntry_frame (e : TakeEntry) (l : List TakeEntry) (o : TakeOutcome) (c : List Byte) (r : List ImageReport) (s : State) :
    OnlyChanges [.cp, .rc, .reports] s (endEntry e l o c r s) := by
  unfold endEntry; dsimp only
  exact (setQueue_frame l s).trans (((setPending_frame _ _ _).mono (by simp)).trans (deliver_frame _ _ _ _ _))

theorem confirm_frame (d x : Nat) (s : State) : OnlyChanges [.rc, .reports] s (confirm d x s) := by
  unfold confirm; dsimp only
  exact (setConfirmed_frame _ _ s).trans ((reportKd_frame _ _).mono (by simp))

theorem relearn_frame (d : Nat) (c : Bool) (s : State) : OnlyChanges [.cp, .rc, .reports] s (relearn d c s) := by
  unfold relearn; dsimp only
  refine OnlyChanges.trans ?_ (fillWindow_frame _)
  have h0 : OnlyChanges [.cp, .rc, .reports] s { s with rc := { s.rc with querySet := insertAsc s.rc.querySet d } } := by
    intro p hp; cases p <;> first | rfl | simp at hp
  split
  · exact h0.trans (((setConfirmed_frame _ _ _).mono (by simp)).trans ((reportKd_frame _ _).mono (by simp)))
  · exact h0

/-! ### TR -/

theorem reports_frame (r : Reports) (s : State) : OnlyChanges [.reports] s { s with reports := r } := by
  intro p hp; cases p <;> first | rfl | simp at hp

theorem reportResolution_frame (old : Tr) (s : State) : OnlyChanges [.reports] s (reportResolution old s) := by
  unfold reportResolution; dsimp only; exact reports_frame _ s

theorem recompute_frame (s : State) : OnlyChanges [.cp, .tr, .reports] s (recompute s) := by
  unfold recompute; dsimp only
  generalize resolve s.rc (contributionsOf s.mm) s.tr = tr
  refine OnlyChanges.trans ?_ ((setFlagIf_frame _ _ _).mono (by simp))
  refine OnlyChanges.trans (t := { s with tr := tr }) ?_ ((reportResolution_frame _ _).mono (by simp))
  intro p hp; cases p <;> first | rfl | simp at hp

theorem changeCalls_frame (p : Nat) (f : Position → Position) (s : State) :
    OnlyChanges [.tr, .reports] s (changeCalls p f s) := by
  unfold changeCalls; dsimp only; split
  · intro q hq; cases q <;> first | rfl | simp at hq
  · intro q hq; cases q <;> first | rfl | simp at hq

/-! ### TE and ML -/

theorem requeue_frame (k : Nat) (g : Gain) (s : State) : OnlyChanges [.ml] s (requeue k g s) := by
  unfold requeue; split
  · split
    · intro p hp; cases p <;> first | rfl | simp at hp
    · intro p hp; cases p <;> first | rfl | simp at hp
  · exact .refl _ _

theorem setEntry_frame (k : Nat) (e : PathEntry) (s : State) : OnlyChanges [.te] s (setEntry k e s) := by
  intro p hp; cases p <;> first | rfl | simp at hp

theorem setCurrent_frame (k : Nat) (g : Gain) (s : State) : OnlyChanges [.te, .ml] s (setCurrent k g s) := by
  unfold setCurrent; split
  · exact .refl _ _
  · split
    · exact .refl _ _
    · split
      · exact (setEntry_frame _ _ _).mono (by simp)
      · exact ((setEntry_frame _ _ _).mono (by simp)).trans ((requeue_frame _ _ _).mono (by simp))

theorem retarget_frame (s : State) (k : Nat) : OnlyChanges [.te, .ml] s (retarget s k) := by
  unfold retarget; split
  · exact .refl _ _
  · dsimp only; split
    · exact .refl _ _
    · split
      · exact ((setEntry_frame _ _ _).mono (by simp)).trans (setCurrent_frame _ _ _)
      · exact (setEntry_frame _ _ _).mono (by simp)

theorem sendOneGain_frame {s t : State} (h : sendOneGain s = some t) : OnlyChanges [.te, .ml] s t := by
  unfold sendOneGain at h
  dsimp only at h
  split at h
  · cases h
  · split at h
    · cases h; split <;> (intro p hp; cases p <;> first | rfl | simp at hp)
    · cases h; split <;> (intro p hp; cases p <;> first | rfl | simp at hp)
    · cases h

theorem gainLoop_frame (n : Nat) (s : State) : OnlyChanges [.te, .ml] s (gainLoop n s) := by
  induction n generalizing s with
  | zero => exact .refl _ _
  | succ n ih =>
    unfold gainLoop
    cases h : sendOneGain s with
    | none => exact .refl _ _
    | some t => exact (sendOneGain_frame h).trans (ih t)

theorem sendGains_frame (s : State) : OnlyChanges [.te, .ml] s (sendGains s) := gainLoop_frame _ s

theorem reportRemoval_frame (k : Nat) (s : State) : OnlyChanges [.reports] s (reportRemoval k s) := by
  intro p hp; cases p <;> first | rfl | simp at hp

theorem closedEntry_frame (s : State) (k : Nat) : OnlyChanges [.reports] s (closedEntry s k) := by
  unfold closedEntry; split
  · exact .refl _ _
  · split
    · exact reportRemoval_frame _ _
    · split
      · exact reportRemoval_frame _ _
      · exact .refl _ _
    · exact .refl _ _

theorem te_reports_frame (te : Te) (r : Reports) (s : State) : OnlyChanges [.te, .ml, .reports] s { s with te := te, reports := r } := by
  intro p hp; cases p <;> first | rfl | simp at hp

theorem te_ml_reports_frame (te : Te) (ml : Ml) (r : Reports) (s : State) :
    OnlyChanges [.te, .ml, .reports] s { s with te := te, ml := ml, reports := r } := by
  intro p hp; cases p <;> first | rfl | simp at hp

theorem moveCauses_frame (gone : Nat → Cause → Bool) (news : List NewCause) (s : State) :
    OnlyChanges [.te, .ml, .reports] s (moveCauses gone news s) := by
  unfold moveCauses; dsimp only
  refine OnlyChanges.trans ?_ (.foldl (fun t k => (closedEntry_frame t k).mono (by simp)) _ _)
  refine OnlyChanges.trans ?_ (.foldl (fun t k => (retarget_frame t k).mono (by simp)) _ _)
  exact te_reports_frame _ _ s

theorem applyCauses_frame (gone : Nat → Cause → Bool) (news : List NewCause) (s : State) :
    OnlyChanges [.te, .ml, .reports] s (applyCauses gone news s) :=
  (moveCauses_frame gone news s).trans ((sendGains_frame _).mono (by simp))

theorem recordCauses_frame (news : List NewCause) (s : State) :
    OnlyChanges [.cp, .te, .ml, .reports] s (recordCauses news s).1 := by
  unfold recordCauses; split
  · exact (applyCauses_frame _ _ _).mono (by simp)
  · intro p hp; cases p <;> first | rfl | simp at hp

theorem matrixDown_frame (s : State) : OnlyChanges [.cp, .te, .ml, .reports] s (matrixDown s) := by
  unfold matrixDown; dsimp only
  refine OnlyChanges.trans ?_ ((setFlag_frame _ _).mono (by simp))
  refine OnlyChanges.trans ?_ (.foldl (fun t k => (reportRemoval_frame k t).mono (by simp)) _ _)
  intro p hp; cases p <;> first | rfl | simp at hp

theorem matrixTimeout_frame (s : State) : OnlyChanges [.cp, .te, .ml, .reports] s (matrixTimeout s) := by
  unfold matrixTimeout; dsimp only
  have h0 : OnlyChanges [.cp, .te, .ml, .reports] s
      { s with ml := { s.ml with timeouts := bump s.ml.timeouts, consecutive := bump s.ml.consecutive } } := by
    intro p hp; cases p <;> first | rfl | simp at hp
  split
  · exact h0.trans (matrixDown_frame _)
  · exact h0

theorem clearPaths_frame (s : State) : OnlyChanges [.te, .ml, .reports] s (clearPaths s) := by
  unfold clearPaths; dsimp only; exact te_ml_reports_frame _ _ _ s

theorem retargetGuarded_frame (l : List Nat) (s : State) : OnlyChanges [.te, .ml] s (retargetGuarded l s) :=
  .foldl (fun t k => retarget_frame t k) _ s

theorem guardTargets_frame (l : List (Nat × Bool)) (s : State) : OnlyChanges [.te, .ml] s (guardTargets l s) := by
  refine OnlyChanges.trans ?_ (retargetGuarded_frame _ _)
  intro p hp; cases p <;> first | rfl | simp at hp

theorem retargetPort_frame (p : Nat) (s : State) : OnlyChanges [.te, .ml] s (retargetPort p s) :=
  .foldl (fun t k => retarget_frame t k) _ s

/-! ### KD -/

theorem setKeyCtx_frame (n k : Nat) (f : KeyCtx → KeyCtx) (s : State) : OnlyChanges [.kd] s (setKeyCtx n k f s) := by
  intro p hp; cases p <;> first | rfl | simp at hp

theorem markDirty_frame (n k : Nat) (s : State) : OnlyChanges [.pbc] s (markDirty n k s) := by
  intro p hp; cases p <;> first | rfl | simp at hp

theorem refreshKey_frame (s : State) (n k : Nat) : OnlyChanges [.pbc, .kd] s (refreshKey s n k) := by
  unfold refreshKey; split
  · exact .refl _ _
  · split
    · exact .refl _ _
    · dsimp only; split
      · exact .refl _ _
      · exact ((setKeyCtx_frame _ _ _ s).mono (by simp)).trans ((markDirty_frame _ _ _).mono (by simp))

theorem refreshPanel_frame (q : KeyEntry → Bool) (n : Nat) (s : State) : OnlyChanges [.pbc, .kd] s (refreshPanel q n s) := by
  unfold refreshPanel; split
  · exact .refl _ _
  · exact .foldl (fun t kv => refreshKey_frame t _ _) _ s

theorem takeImageReport_frame (s : State) (r : ImageReport) : OnlyChanges [.pbc, .kd] s (takeImageReport s r) :=
  .foldl (fun t _ => refreshPanel_frame _ _ t) _ s

theorem refuseKey_frame (n k : Nat) (s : State) : OnlyChanges [.kd] s (refuseKey n k s) := setKeyCtx_frame _ _ _ _

theorem indicate_frame (n k : Nat) (s : State) : OnlyChanges [.pbc, .kd] s (indicate n k s) := by
  unfold indicate; split
  · exact .refl _ _
  · exact ((refuseKey_frame n k s).mono (by simp)).trans (refreshKey_frame _ _ _)

theorem withdrawKey_frame (n k : Nat) (s : State) : OnlyChanges [.te, .ml, .reports] s (withdrawKey n k s) := applyCauses_frame _ _ _

theorem deactivateKey_frame (n k : Nat) (s : State) : OnlyChanges [.kd, .tr, .te, .ml, .reports] s (deactivateKey n k s) := by
  unfold deactivateKey; dsimp only
  refine OnlyChanges.trans ?_ ((setKeyCtx_frame _ _ _ _).mono (by simp))
  split
  · exact (changeCalls_frame _ _ _).mono (by simp)
  · exact (withdrawKey_frame _ _ _).mono (by simp)
  · exact (withdrawKey_frame _ _ _).mono (by simp)
  · exact .refl _ _

theorem deactivateIfActive_frame (n k : Nat) (s : State) :
    OnlyChanges [.kd, .tr, .te, .ml, .reports] s (deactivateIfActive n k s) := by
  unfold deactivateIfActive; split
  · exact .refl _ _
  · exact deactivateKey_frame _ _ _

theorem deactivatePanel_frame (q : KeyEntry → Bool) (n : Nat) (s : State) :
    OnlyChanges [.kd, .tr, .te, .ml, .reports] s (deactivatePanel q n s) := by
  unfold deactivatePanel; split
  · exact .refl _ _
  · dsimp only
    refine OnlyChanges.trans ?_ (.foldl (fun t k => (setKeyCtx_frame _ _ _ t).mono (by simp)) _ _)
    refine OnlyChanges.trans (.foldl (fun t k => ?_) _ _) ((applyCauses_frame _ _ _).mono (by simp))
    split
    · exact (changeCalls_frame _ _ _).mono (by simp)
    · exact .refl _ _

theorem activateKey_frame (n k : Nat) (dst : KeyState) (limit : Nat) (e : KeyEntry) (target : KeyTarget) (s : State) :
    OnlyChanges [.cp, .kd, .te, .ml, .reports] s (activateKey n k dst limit e target s) := by
  unfold activateKey; split
  · exact (refuseKey_frame _ _ _).mono (by simp)
  · dsimp only; split
    · exact ((recordCauses_frame _ _).mono (by simp)).trans ((refuseKey_frame _ _ _).mono (by simp))
    · exact ((recordCauses_frame _ _).mono (by simp)).trans ((setKeyCtx_frame _ _ _ _).mono (by simp))

theorem askTake_frame (n k : Nat) (d x : Option Nat) (s : State) : OnlyChanges [.cp, .kd, .rc, .reports] s (askTake n k d x s) := by
  unfold askTake; split
  · split
    · exact (refuseKey_frame _ _ _).mono (by simp)
    · exact (enqueue_frame _ _ _ _).mono (by simp)
  · exact (refuseKey_frame _ _ _).mono (by simp)

theorem setRouterPanel_frame (n : Nat) (d x : Option Nat) (s : State) : OnlyChanges [.pbc, .kd] s (setRouterPanel n d x s) := by
  unfold setRouterPanel
  refine OnlyChanges.trans ?_ (refreshPanel_frame _ _ _)
  intro p hp; cases p <;> first | rfl | simp at hp

/-- The components one key transition can change. -/
abbrev keyParts : List Part := [.cp, .pbc, .kd, .rc, .tr, .te, .ml, .reports]

theorem keyAct_frame (n k : Nat) (press : Bool) (r : PanelRec) (c : Context) (st : KeyState) (s : State) :
    OnlyChanges keyParts s (keyAct n k press r c st s) := by
  have deact : OnlyChanges keyParts s (deactivateKey n k s) := (deactivateKey_frame n k s).mono (by simp)
  have act (dst lim e t) : OnlyChanges keyParts s (activateKey n k dst lim e t s) := (activateKey_frame n k dst lim e t s).mono (by simp)
  have ask (d x u) : OnlyChanges keyParts u (askTake n k d x u) := (askTake_frame n k d x u).mono (by simp)
  have ref (u) : OnlyChanges keyParts u (refuseKey n k u) := (refuseKey_frame n k u).mono (by simp)
  have key (f) (u) : OnlyChanges keyParts u (setKeyCtx n k f u) := (setKeyCtx_frame n k f u).mono (by simp)
  have panel (d x) : OnlyChanges keyParts s (setRouterPanel n d x s) := (setRouterPanel_frame n d x s).mono (by simp)
  unfold keyAct
  split
  · intro p hp; cases p <;> first | rfl | simp at hp
  · split
    · exact .refl _ _
    · exact act _ _ _ _
    · exact key _ _
    · exact deact
  · split
    · exact .refl _ _
    · split
      · exact act _ _ _ _
      · exact deact
  · split
    · split
      · exact (key _ s).trans ((changeCalls_frame _ _ _).mono (by simp))
      · exact .refl _ _
    · split
      · exact deact
      · exact .refl _ _
  · split
    · exact panel _ _
    · exact .refl _ _
  · split
    · exact .refl _ _
    · dsimp only; split
      · exact (panel _ _).trans (ask _ _ _)
      · exact panel _ _
  · split
    · exact ask _ _ _
    · exact .refl _ _
  · split
    · exact .refl _ _
    · split
      · exact ref _
      · dsimp only; split
        · exact ((toggleProtect_frame _ _ s).mono (by simp)).trans (ref _)
        · exact (toggleProtect_frame _ _ s).mono (by simp)
  · split
    · exact .refl _ _
    · split
      · exact ref _
      · exact (startFire_frame _ _ _).mono (by simp)

theorem takeTransition_frame (n : Nat) (s : State) (t : Nat × Bool) : OnlyChanges keyParts s (takeTransition n s t) := by
  unfold takeTransition; dsimp only
  have ign : OnlyChanges keyParts s { s with kd := { s.kd with unassigned := bump s.kd.unassigned } } := by
    intro p hp; cases p <;> first | rfl | simp at hp
  split
  · exact ign
  · split
    · exact ign
    · split
      · exact ign
      · split
        · exact ign
        · split
          · intro p hp; cases p <;> first | rfl | simp at hp
          · exact ((setKeyCtx_frame _ _ _ s).mono (by simp)).trans
              ((keyAct_frame _ _ _ _ _ _ _).trans ((refreshKey_frame _ _ _).mono (by simp)))

/-! ### PBC -/

theorem pbc_frame (p : Pbc) (s : State) : OnlyChanges [.pbc] s { s with pbc := p } := by
  intro q hq; cases q <;> first | rfl | simp at hq

theorem applyProbe_frame (n : Nat) (r : ProbeResult) (s : State) : OnlyChanges [.pbc, .reports] s (applyProbe n r s) := by
  unfold applyProbe
  repeat' split
  all_goals first
    | exact .refl _ _
    | (intro p hp; cases p <;> first | rfl | simp at hp)

theorem startSweep_frame (s : State) : OnlyChanges [.pbc] s (startSweep s) := pbc_frame _ s

theorem sendAndWait_frame (f : PbFrame) (w : Work) (s : State) : OnlyChanges [.pbc] s (sendAndWait f w s) := pbc_frame _ s

theorem passOn_frame (s : State) : OnlyChanges [.pbc] s (passOn s) := by
  unfold passOn; split <;> exact pbc_frame _ s

theorem onMember_frame (n : Nat) (f : Link → Nat → Option Millis → Presence) (s : State) : OnlyChanges [.pbc] s (onMember n f s) :=
  pbc_frame _ s

theorem nextExchange_frame (s : State) : OnlyChanges [.pbc] s (nextExchange s) := by
  unfold nextExchange; split
  · split
    · exact passOn_frame s
    · dsimp only
      exact (onMember_frame _ _ s).trans ((pbc_frame _ _).trans (sendAndWait_frame _ _ _))
  · exact passOn_frame s

theorem turnSequence_frame (s : State) : OnlyChanges [.pbc] s (turnSequence s) := by
  unfold turnSequence; split
  · dsimp only; split
    · exact (pbc_frame _ s).trans (nextExchange_frame _)
    · exact pbc_frame _ s
  · exact nextExchange_frame s

theorem beginTurn_frame (s : State) : OnlyChanges [.pbc] s (beginTurn s) := by
  unfold beginTurn; dsimp only; split
  · exact pbc_frame _ s
  · exact (pbc_frame _ s).trans (turnSequence_frame _)

theorem sendRing_frame (s : State) : OnlyChanges [.pbc] s (sendRing s) := pbc_frame _ s

theorem completeSweep_frame (s : State) : OnlyChanges [.cp, .pbc, .reports] s (completeSweep s) := by
  unfold completeSweep; dsimp only
  have h0 := OnlyChanges.foldl (f := fun (t : State) (kv : Nat × ProbeResult) => applyProbe kv.1 kv.2 t)
    (fun t kv => (applyProbe_frame kv.1 kv.2 t).mono (qs := [.cp, .pbc, .reports]) (by simp)) s.pbc.results s
  generalize List.foldl (fun (t : State) (kv : Nat × ProbeResult) => applyProbe kv.1 kv.2 t) s s.pbc.results = u at h0 ⊢
  refine h0.trans (OnlyChanges.trans ?_ ((beginTurn_frame _).mono (by simp)))
  refine OnlyChanges.trans ?_ ((sendRing_frame _).mono (by simp))
  exact ((pbc_frame _ u).mono (by simp)).trans ((setFlagIf_frame _ _ _).mono (by simp))

theorem endProbe_frame (r : ProbeResult) (s : State) : OnlyChanges [.cp, .pbc, .reports] s (endProbe r s) := by
  unfold endProbe; split
  · rename_i n heard _
    dsimp only
    refine OnlyChanges.trans ?_ ((nextExchange_frame _).mono (by simp))
    have h0 : OnlyChanges [.cp, .pbc, .reports] s (setFlagIf (probeChanges r (s.pbc.entry n)) .roster (applyProbe n r s)) :=
      ((applyProbe_frame n r s).mono (by simp)).trans ((setFlagIf_frame _ _ _).mono (by simp))
    generalize setFlagIf (probeChanges r (s.pbc.entry n)) .roster (applyProbe n r s) = u at h0 ⊢
    refine h0.trans (((pbc_frame { u.pbc with work := .idle, windowOpen := false } u).mono (by simp)).trans ?_)
    split
    · exact (sendRing_frame _).mono (by simp)
    · exact .refl _ _
  · dsimp only; split
    · exact (pbc_frame _ s).mono (by simp)
    · exact ((pbc_frame _ s).mono (by simp)).trans (completeSweep_frame _)
  · exact .refl _ _

theorem noteActivity_frame (s : State) : OnlyChanges [.pbc] s (noteActivity s) := by
  unfold noteActivity; dsimp only
  repeat' split
  all_goals first
    | exact .refl _ _
    | exact pbc_frame _ s

theorem examine_frame (l : List Byte) (s : State) : OnlyChanges [.cp, .pbc] s (examine l s) := by
  unfold examine; split
  · intro p hp; cases p <;> first | rfl | simp at hp
  · exact .refl _ _

theorem cleanFrame_frame (l : List Byte) (s : State) : OnlyChanges [.cp, .pbc] s (cleanFrame l s) := by
  unfold cleanFrame; split
  · exact .refl _ _
  · exact ((noteActivity_frame s).mono (by simp)).trans (examine_frame _ _)

theorem answerProbe_frame (s : State) : OnlyChanges [.cp, .pbc, .reports] s (answerProbe s) := by
  unfold answerProbe; split
  · exact endProbe_frame _ s
  · exact .refl _ _

theorem badPbFrame_frame (s : State) : OnlyChanges [.pbc] s (badPbFrame s) := by
  unfold badPbFrame; split
  · exact .refl _ _
  · exact (noteActivity_frame s).trans ((pbc_frame _ _).trans (pbc_frame _ _))

theorem leaveBus_frame (s : State) : OnlyChanges [.cp, .pbc, .reports] s (leaveBus s) := by
  unfold leaveBus; dsimp only
  refine OnlyChanges.trans (OnlyChanges.foldl (f := fun (t : State) (n : Nat) => match t.pbc.entry n with
      | some e => departure n (setRoster n { e with presence := .absent s.now } t)
      | none => t) (fun t n => ?_) s.pbc.memberIds s) ?_
  · split
    · intro p hp; cases p <;> first | rfl | simp at hp
    · exact .refl _ _
  · refine OnlyChanges.trans ?_ ((setFlagIf_frame _ _ _).mono (by simp))
    generalize List.foldl _ s s.pbc.memberIds = u
    exact (pbc_frame _ u).mono (by simp)

theorem removeEntry_frame (n : Nat) (s : State) : OnlyChanges [.cp, .pbc, .reports] s (removeEntry n s) := by
  intro p hp; cases p <;> first | rfl | simp at hp

theorem endAbsence_frame (n : Nat) (s : State) : OnlyChanges [.cp, .pbc, .reports] s (endAbsence n s) := by
  unfold endAbsence; split
  · split
    · exact removeEntry_frame n s
    · exact .refl _ _
  · exact .refl _ _

theorem endSilence_frame (s : State) : OnlyChanges [.pbc] s (endSilence s) := by
  unfold endSilence; split
  · exact startSweep_frame s
  · exact .refl _ _

theorem applyStallLimit_frame (s : State) : OnlyChanges [.cp, .pbc] s (applyStallLimit s) := by
  unfold applyStallLimit; dsimp only
  exact ((pbc_frame _ s).mono (by simp)).trans ((setFlagIf_frame _ _ _).mono (by simp))

theorem applyBusTiming_frame (fs : List (Option Nat)) (s : State) : OnlyChanges [.cp, .pbc, .reports] s (applyBusTiming fs s) := by
  unfold applyBusTiming; dsimp only
  refine OnlyChanges.trans ((pbc_frame { s.pbc with timing := s.pbc.timing.update fs } s).mono (by simp)) ?_
  generalize ({ s with pbc := { s.pbc with timing := s.pbc.timing.update fs } } : State) = u
  have h1 : OnlyChanges [.cp, .pbc, .reports] u (if (fieldAt fs 4).isSome = true then applyStallLimit u else u) := by
    split
    · exact (applyStallLimit_frame u).mono (by simp)
    · exact .refl _ _
  refine h1.trans ?_
  generalize (if (fieldAt fs 4).isSome = true then applyStallLimit u else u) = v
  have h2 : OnlyChanges [.cp, .pbc, .reports] v
      (if (fieldAt fs 5).isSome = true then (v.pbc.roster.map (·.1)).foldl (fun t n => endAbsence n t) v else v) := by
    split
    · exact .foldl (fun t n => endAbsence_frame n t) _ _
    · exact .refl _ _
  refine h2.trans ?_
  generalize (if (fieldAt fs 5).isSome = true then (v.pbc.roster.map (·.1)).foldl (fun t n => endAbsence n t) v else v) = w
  split
  · exact (endSilence_frame _).mono (by simp)
  · exact .refl _ _

theorem takeCargo_frame (n q : Nat) (l : List Byte) (s : State) : OnlyChanges [.pbc] s (takeCargo n q l s) := by
  unfold takeCargo; dsimp only
  repeat' split
  all_goals exact pbc_frame _ s

theorem sendLamps_frame (p : Nat) (s : State) : OnlyChanges [.pbc] s (sendLamps p s) := by
  unfold sendLamps; split
  · exact pbc_frame _ s
  · exact .refl _ _

theorem confirmLamps_frame (p : Nat) (l : List (Nat × Image)) (s : State) : OnlyChanges [.pbc] s (confirmLamps p l s) := pbc_frame _ s

theorem stallPanel_frame (p : Nat) (s : State) : OnlyChanges [.cp, .pbc] s (stallPanel p s) := by
  unfold stallPanel; split
  · dsimp only; exact ((pbc_frame _ s).mono (by simp)).trans ((setFlagIf_frame _ _ _).mono (by simp))
  · exact .refl _ _

theorem loseTurn_frame (n : Nat) (s : State) : OnlyChanges [.cp, .pbc, .reports] s (loseTurn n s) := by
  unfold loseTurn; dsimp only
  refine OnlyChanges.trans ?_ (((sendRing_frame _).mono (by simp)).trans ((passOn_frame _).mono (by simp)))
  split
  · split
    · intro p hp; cases p <;> first | rfl | simp at hp
    · exact .refl _ _
  · exact .refl _ _

/-! ### LD -/

theorem ld_frame (l : Ld) (s : State) : OnlyChanges [.ld] s { s with ld := l } := by
  intro q hq; cases q <;> first | rfl | simp at hq

theorem relightAll_frame (s : State) : OnlyChanges [.ld] s (relightAll s) := .foldl (fun t _ => ld_frame _ t) _ s

theorem lampTick_frame (s : State) : OnlyChanges [.ld] s (lampTick s) := by
  unfold lampTick; split
  · exact ld_frame _ s
  · exact .refl _ _

/-! ### TE's gains -/

theorem rampEntry_frame (s : State) (k : Nat) : OnlyChanges [.te, .ml] s (rampEntry s k) := by
  unfold rampEntry
  repeat' split
  all_goals first
    | exact .refl _ _
    | exact setCurrent_frame _ _ _

theorem gainTick_frame (s : State) : OnlyChanges [.te, .ml] s (gainTick s) := by
  unfold gainTick; split
  · dsimp only
    refine OnlyChanges.trans (.foldl (fun t k => rampEntry_frame t k) (s.te.paths.map (·.1)) s) ?_
    refine OnlyChanges.trans ?_ (sendGains_frame _)
    intro p hp; cases p <;> first | rfl | simp at hp
  · exact .refl _ _

end Sys2Proof.Machine
end

