-- ==== Sys2Proof/Laws/PerInstr.lean ====
section
/-! SUPPORT. One lemma per command: the kind, the tag and the body a clean request carries name that request again. -/

namespace Sys2Proof.Laws.RequestKinds

/-- The parts of a well-formed request name it; a command that is no request has none. -/
def Statement (i : Instr) : Prop :=
  i.wellFormed = true → ∀ (kind tag : Byte) (body : List Byte), requestParts i = some (kind, tag, body) → requestOf kind tag body = i

theorem requestOf_unknown {kind tag : Byte} {body : List Byte} (w : (Instr.unknownKind kind tag body).wellFormed = true) :
    requestOf kind tag body = .unknownKind kind tag body := by
  simp only [Instr.wellFormed, knownKind, Bool.and_eq_true, Bool.not_eq_true', Bool.and_eq_false_iff, decide_eq_false_iff_not] at w
  unfold requestOf
  split <;> first | rfl | (exfalso; omega)

theorem powerOn (rateHigh : Bool) (profileSkip : Bool) (unit : BitVec 32) : Statement (.powerOn rateHigh profileSkip unit) := fun _ _ _ _ e => nomatch e
theorem controlFrameDiscard : Statement .controlFrameDiscard := fun _ _ _ _ e => nomatch e
theorem controlGapExpiry : Statement .controlGapExpiry := fun _ _ _ _ e => nomatch e
theorem unknownKind (kind : Byte) (tag : Byte) (body : List Byte) : Statement (.unknownKind kind tag body) := fun w k t b e => by cases e; exact requestOf_unknown w
theorem noticeTransmitStart : Statement .noticeTransmitStart := fun _ _ _ _ e => nomatch e
theorem setNode (tag : Byte) (body : List Byte) : Statement (.setNode tag body) := fun _ _ _ _ e => by cases e; rfl
theorem busEnable (tag : Byte) (body : List Byte) : Statement (.busEnable tag body) := fun _ _ _ _ e => by cases e; rfl
theorem busTiming (tag : Byte) (body : List Byte) : Statement (.busTiming tag body) := fun _ _ _ _ e => by cases e; rfl
theorem sweepNow (tag : Byte) (body : List Byte) : Statement (.sweepNow tag body) := fun _ _ _ _ e => by cases e; rfl
theorem forget (tag : Byte) (body : List Byte) : Statement (.forget tag body) := fun _ _ _ _ e => by cases e; rfl
theorem readRoster (tag : Byte) (body : List Byte) : Statement (.readRoster tag body) := fun _ _ _ _ e => by cases e; rfl
theorem setPanel (tag : Byte) (body : List Byte) : Statement (.setPanel tag body) := fun _ _ _ _ e => by cases e; rfl
theorem setKey (tag : Byte) (body : List Byte) : Statement (.setKey tag body) := fun _ _ _ _ e => by cases e; rfl
theorem keyTiming (tag : Byte) (body : List Byte) : Statement (.keyTiming tag body) := fun _ _ _ _ e => by cases e; rfl
theorem readPanel (tag : Byte) (body : List Byte) : Statement (.readPanel tag body) := fun _ _ _ _ e => by cases e; rfl
theorem setSource (tag : Byte) (body : List Byte) : Statement (.setSource tag body) := fun _ _ _ _ e => by cases e; rfl
theorem setDest (tag : Byte) (body : List Byte) : Statement (.setDest tag body) := fun _ _ _ _ e => by cases e; rfl
theorem protect (tag : Byte) (body : List Byte) : Statement (.protect tag body) := fun _ _ _ _ e => by cases e; rfl
theorem defineSalvo (tag : Byte) (body : List Byte) : Statement (.defineSalvo tag body) := fun _ _ _ _ e => by cases e; rfl
theorem readDest (tag : Byte) (body : List Byte) : Statement (.readDest tag body) := fun _ _ _ _ e => by cases e; rfl
theorem take (tag : Byte) (body : List Byte) : Statement (.take tag body) := fun _ _ _ _ e => by cases e; rfl
theorem takeCancel (tag : Byte) (body : List Byte) : Statement (.takeCancel tag body) := fun _ _ _ _ e => by cases e; rfl
theorem fireSalvo (tag : Byte) (body : List Byte) : Statement (.fireSalvo tag body) := fun _ _ _ _ e => by cases e; rfl
theorem routerTiming (tag : Byte) (body : List Byte) : Statement (.routerTiming tag body) := fun _ _ _ _ e => by cases e; rfl
theorem readQueue (tag : Byte) (body : List Byte) : Statement (.readQueue tag body) := fun _ _ _ _ e => by cases e; rfl
theorem setMixer (tag : Byte) (body : List Byte) : Statement (.setMixer tag body) := fun _ _ _ _ e => by cases e; rfl
theorem readMixer (tag : Byte) (body : List Byte) : Statement (.readMixer tag body) := fun _ _ _ _ e => by cases e; rfl
theorem setBinding (tag : Byte) (body : List Byte) : Statement (.setBinding tag body) := fun _ _ _ _ e => by cases e; rfl
theorem setPosition (tag : Byte) (body : List Byte) : Statement (.setPosition tag body) := fun _ _ _ _ e => by cases e; rfl
theorem call (tag : Byte) (body : List Byte) : Statement (.call tag body) := fun _ _ _ _ e => by cases e; rfl
theorem readTally (tag : Byte) (body : List Byte) : Statement (.readTally tag body) := fun _ _ _ _ e => by cases e; rfl
theorem setHouse (tag : Byte) (body : List Byte) : Statement (.setHouse tag body) := fun _ _ _ _ e => by cases e; rfl
theorem setLamp (tag : Byte) (body : List Byte) : Statement (.setLamp tag body) := fun _ _ _ _ e => by cases e; rfl
theorem lampTiming (tag : Byte) (body : List Byte) : Statement (.lampTiming tag body) := fun _ _ _ _ e => by cases e; rfl
theorem setPort (tag : Byte) (body : List Byte) : Statement (.setPort tag body) := fun _ _ _ _ e => by cases e; rfl
theorem setGroup (tag : Byte) (body : List Byte) : Statement (.setGroup tag body) := fun _ _ _ _ e => by cases e; rfl
theorem addStanding (tag : Byte) (body : List Byte) : Statement (.addStanding tag body) := fun _ _ _ _ e => by cases e; rfl
theorem dropStanding (tag : Byte) (body : List Byte) : Statement (.dropStanding tag body) := fun _ _ _ _ e => by cases e; rfl
theorem readPaths (tag : Byte) (body : List Byte) : Statement (.readPaths tag body) := fun _ _ _ _ e => by cases e; rfl
theorem gainTiming (tag : Byte) (body : List Byte) : Statement (.gainTiming tag body) := fun _ _ _ _ e => by cases e; rfl
theorem readMatrix (tag : Byte) (body : List Byte) : Statement (.readMatrix tag body) := fun _ _ _ _ e => by cases e; rfl
theorem status (tag : Byte) (body : List Byte) : Statement (.status tag body) := fun _ _ _ _ e => by cases e; rfl
theorem identify (tag : Byte) (body : List Byte) : Statement (.identify tag body) := fun _ _ _ _ e => by cases e; rfl
theorem setMask (tag : Byte) (body : List Byte) : Statement (.setMask tag body) := fun _ _ _ _ e => by cases e; rfl
theorem clearFlags (tag : Byte) (body : List Byte) : Statement (.clearFlags tag body) := fun _ _ _ _ e => by cases e; rfl
theorem reset (tag : Byte) (body : List Byte) : Statement (.reset tag body) := fun _ _ _ _ e => by cases e; rfl
theorem blockSoftReset (block : Block) : Statement (.blockSoftReset block) := fun _ _ _ _ e => nomatch e
theorem profileSave (tag : Byte) (body : List Byte) : Statement (.profileSave tag body) := fun _ _ _ _ e => by cases e; rfl
theorem profileLoad (tag : Byte) (body : List Byte) : Statement (.profileLoad tag body) := fun _ _ _ _ e => by cases e; rfl
theorem pbBadFrame : Statement .pbBadFrame := fun _ _ _ _ e => nomatch e
theorem pbGapExpiry : Statement .pbGapExpiry := fun _ _ _ _ e => nomatch e
theorem activity (completes : Option BusOther) : Statement (.activity completes) := fun _ _ _ _ e => nomatch e
theorem pbFrameSent : Statement .pbFrameSent := fun _ _ _ _ e => nomatch e
theorem passReceived (target : Byte) : Statement (.passReceived target) := fun _ _ _ _ e => nomatch e
theorem askReceived (sender : Byte) (target : Byte) : Statement (.askReceived sender target) := fun _ _ _ _ e => nomatch e
theorem cargoReceived (sender : Byte) (target : Byte) (seq : Byte) (payload : List Byte) : Statement (.cargoReceived sender target seq payload) := fun _ _ _ _ e => nomatch e
theorem roomReceived (sender : Byte) (target : Byte) : Statement (.roomReceived sender target) := fun _ _ _ _ e => nomatch e
theorem noroomReceived (sender : Byte) (target : Byte) : Statement (.noroomReceived sender target) := fun _ _ _ _ e => nomatch e
theorem gotReceived (sender : Byte) (target : Byte) : Statement (.gotReceived sender target) := fun _ _ _ _ e => nomatch e
theorem hereReceived (sender : Byte) (kind : Byte) (unit : BitVec 32) (keys : Byte) : Statement (.hereReceived sender kind unit keys) := fun _ _ _ _ e => nomatch e
theorem probeWindowClose : Statement .probeWindowClose := fun _ _ _ _ e => nomatch e
theorem askWindowClose : Statement .askWindowClose := fun _ _ _ _ e => nomatch e
theorem cargoWindowClose : Statement .cargoWindowClose := fun _ _ _ _ e => nomatch e
theorem passWindowClose : Statement .passWindowClose := fun _ _ _ _ e => nomatch e
theorem reservationLapse : Statement .reservationLapse := fun _ _ _ _ e => nomatch e
theorem checkingExpiry : Statement .checkingExpiry := fun _ _ _ _ e => nomatch e
theorem silenceExpiry : Statement .silenceExpiry := fun _ _ _ _ e => nomatch e
theorem censusIntervalExpiry : Statement .censusIntervalExpiry := fun _ _ _ _ e => nomatch e
theorem absenceExpiry (node : Nat) : Statement (.absenceExpiry node) := fun _ _ _ _ e => nomatch e
theorem kdDeparture (node : Nat) : Statement (.kdDeparture node) := fun _ _ _ _ e => nomatch e
theorem kdJoin (node : Nat) : Statement (.kdJoin node) := fun _ _ _ _ e => nomatch e
theorem rcRelease (node : Nat) : Statement (.rcRelease node) := fun _ _ _ _ e => nomatch e
theorem dispatch : Statement .dispatch := fun _ _ _ _ e => nomatch e
theorem tapWindowExpiry (node : Nat) (key : Nat) : Statement (.tapWindowExpiry node key) := fun _ _ _ _ e => nomatch e
theorem latchLimitExpiry (node : Nat) (key : Nat) : Statement (.latchLimitExpiry node key) := fun _ _ _ _ e => nomatch e
theorem refusalIndicationExpiry (node : Nat) (key : Nat) : Statement (.refusalIndicationExpiry node key) := fun _ _ _ _ e => nomatch e
theorem kdTakeOutcome : Statement .kdTakeOutcome := fun _ _ _ _ e => nomatch e
theorem kdFireCompletion : Statement .kdFireCompletion := fun _ _ _ _ e => nomatch e
theorem kdImageReport (source : KdSource) : Statement (.kdImageReport source) := fun _ _ _ _ e => nomatch e
theorem routerBadFrame : Statement .routerBadFrame := fun _ _ _ _ e => nomatch e
theorem routerGapExpiry : Statement .routerGapExpiry := fun _ _ _ _ e => nomatch e
theorem routerFrameSent : Statement .routerFrameSent := fun _ _ _ _ e => nomatch e
theorem xdone (dest : Byte) (source : Byte) : Statement (.xdone dest source) := fun _ _ _ _ e => nomatch e
theorem xfail (dest : Byte) (reason : Byte) : Statement (.xfail dest reason) := fun _ _ _ _ e => nomatch e
theorem xstate (dest : Byte) (source : Byte) : Statement (.xstate dest source) := fun _ _ _ _ e => nomatch e
theorem xmoved (dest : Byte) (source : Byte) : Statement (.xmoved dest source) := fun _ _ _ _ e => nomatch e
theorem takeReplyTimerExpiry (dest : Nat) : Statement (.takeReplyTimerExpiry dest) := fun _ _ _ _ e => nomatch e
theorem queryReplyTimerExpiry (dest : Nat) : Statement (.queryReplyTimerExpiry dest) := fun _ _ _ _ e => nomatch e
theorem routerProbeTimer : Statement .routerProbeTimer := fun _ _ _ _ e => nomatch e
theorem mixerBadFrame (mixer : Mixer) : Statement (.mixerBadFrame mixer) := fun _ _ _ _ e => nomatch e
theorem mixerGapExpiry (mixer : Mixer) : Statement (.mixerGapExpiry mixer) := fun _ _ _ _ e => nomatch e
theorem busRecord (mixer : Mixer) (bus : Byte) (input : Byte) : Statement (.busRecord mixer bus input) := fun _ _ _ _ e => nomatch e
theorem transRecord (mixer : Mixer) (value : Byte) : Statement (.transRecord mixer value) := fun _ _ _ _ e => nomatch e
theorem keyerRecord (mixer : Mixer) (keyer : Byte) (onAir : Byte) (fill : Byte) : Statement (.keyerRecord mixer keyer onAir fill) := fun _ _ _ _ e => nomatch e
theorem aliveRecord (mixer : Mixer) : Statement (.aliveRecord mixer) := fun _ _ _ _ e => nomatch e
theorem staleExpiry (mixer : Mixer) : Statement (.staleExpiry mixer) := fun _ _ _ _ e => nomatch e
theorem withdrawExpiry (mixer : Mixer) : Statement (.withdrawExpiry mixer) := fun _ _ _ _ e => nomatch e
theorem trRecomputation (source : TrSource) : Statement (.trRecomputation source) := fun _ _ _ _ e => nomatch e
theorem hostCallExpiry (position : Nat) : Statement (.hostCallExpiry position) := fun _ _ _ _ e => nomatch e
theorem ldRelight : Statement .ldRelight := fun _ _ _ _ e => nomatch e
theorem ldCallStart (position : Nat) : Statement (.ldCallStart position) := fun _ _ _ _ e => nomatch e
theorem ldCallEnd (position : Nat) : Statement (.ldCallEnd position) := fun _ _ _ _ e => nomatch e
theorem lampTick : Statement .lampTick := fun _ _ _ _ e => nomatch e
theorem phaseExpiry (position : Nat) : Statement (.phaseExpiry position) := fun _ _ _ _ e => nomatch e
theorem teLiveSetReport : Statement .teLiveSetReport := fun _ _ _ _ e => nomatch e
theorem teGuardReport : Statement .teGuardReport := fun _ _ _ _ e => nomatch e
theorem teRemovalReport : Statement .teRemovalReport := fun _ _ _ _ e => nomatch e
theorem gainTick : Statement .gainTick := fun _ _ _ _ e => nomatch e
theorem matrixBadFrame : Statement .matrixBadFrame := fun _ _ _ _ e => nomatch e
theorem matrixGapExpiry : Statement .matrixGapExpiry := fun _ _ _ _ e => nomatch e
theorem matrixFrameSent : Statement .matrixFrameSent := fun _ _ _ _ e => nomatch e
theorem gainOk (listener : Byte) (talker : Byte) : Statement (.gainOk listener talker) := fun _ _ _ _ e => nomatch e
theorem gainReplyExpiry (listener : Nat) (talker : Nat) : Statement (.gainReplyExpiry listener talker) := fun _ _ _ _ e => nomatch e
theorem pingTimer : Statement .pingTimer := fun _ _ _ _ e => nomatch e
theorem pong : Statement .pong := fun _ _ _ _ e => nomatch e
theorem muteAllOk : Statement .muteAllOk := fun _ _ _ _ e => nomatch e
theorem muteAllExpiry : Statement .muteAllExpiry := fun _ _ _ _ e => nomatch e
theorem profileTransferDone : Statement .profileTransferDone := fun _ _ _ _ e => nomatch e
theorem profileAddressRetry : Statement .profileAddressRetry := fun _ _ _ _ e => nomatch e
theorem profileEntryApply : Statement .profileEntryApply := fun _ _ _ _ e => nomatch e
theorem millisecondCountTick : Statement .millisecondCountTick := fun _ _ _ _ e => nomatch e
theorem syncFoundWhileHunting : Statement .syncFoundWhileHunting := fun _ _ _ _ e => nomatch e
theorem writeByteNotAcknowledged (taken : Nat) : Statement (.writeByteNotAcknowledged taken) := fun _ _ _ _ e => nomatch e

end Sys2Proof.Laws.RequestKinds
end

