-- ==== Sys2Proof/Laws/Requests.lean ====
section
/-! SUPPORT. What an admitted request leaves, by what its block answers. -/

namespace Sys2Proof.Machine

theorem taken_frame (tag kind : Byte) (s : State) : OnlyChanges [.cp] s (taken tag kind s) := by
  intro p hp; cases p <;> first | rfl | simp at hp

/-- An answer made at once, in the form of `RepliesIn`. -/
theorem repliesIn_of {i : Instr} {k : ReqKind} {c : Class} {tag : Byte} {body : List Byte} {s u : State} {code : Code}
    {content : List Byte} (own : List Byte → State → Answer) (hi : exec i s = request k c own tag body s)
    (h : Admitted c tag body s) (ho : own body (taken tag k.byte s) = .now code content u) :
    RepliesIn i s tag k code content u := by
  unfold RepliesIn; rw [hi, request_admitted own h, ho]

/-- A request kept for later. -/
theorem endsIn_of_later {i : Instr} {k : ReqKind} {c : Class} {tag : Byte} {body : List Byte} {s u : State}
    (own : List Byte → State → Answer) (hi : exec i s = request k c own tag body s)
    (h : Admitted c tag body s) (ho : own body (taken tag k.byte s) = .later u) : EndsIn i s u := by
  unfold EndsIn; rw [hi, request_admitted own h, ho]

/-- A request answered at once with nothing changed. -/
theorem answers_unchanged {i : Instr} {k : ReqKind} {c : Class} {tag : Byte} {body : List Byte} {s : State} {code : Code}
    {content : List Byte} (own : List Byte → State → Answer) (hi : exec i s = request k c own tag body s)
    (h : Admitted c tag body s) (ho : own body (taken tag k.byte s) = .now code content (taken tag k.byte s)) :
    ∃ t, exec i s = .next t ∧ OnlyChanges [.cp] s t ∧ Answered s t tag k.byte code content 0 := by
  rw [hi, request_admitted own h, ho]
  refine ⟨_, rfl, ?_, ?_⟩
  · refine OnlyChanges.trans ?_ (announce_frame _)
    intro p hp; cases p <;> first | rfl | simp at hp
  · exact answered_of 0 h.2.2.1 (by simp [taken])

/-- A request refused by its block. -/
theorem refuses_of {i : Instr} {k : ReqKind} {c : Class} {tag : Byte} {body : List Byte} {s : State} {code : Code}
    (own : List Byte → State → Answer) (hi : exec i s = request k c own tag body s) (h : Admitted c tag body s)
    (ho : own body (taken tag k.byte s) = .now code [] (taken tag k.byte s)) : Refuses i s tag k.byte code :=
  answers_unchanged own hi h ho

end Sys2Proof.Machine
end

