-- ==== Sys2Proof/Tests/Slice0.lean ====
section
/-! SUPPORT. Tests: the checks of WellFormed, worked examples of the manual, and for each statement states and operands that
meet its hypotheses. -/

-- One theorem at a time: each is a kernel evaluation.
set_option Elab.async false

namespace Sys2Proof.Tests

open Sys2Proof.Machine

/-! ### WellFormed: an ill-formed term for each check -/

theorem test_wf_node : (Instr.passReceived 0).wellFormed = false ∧ (Instr.passReceived 64).wellFormed = false
    ∧ (Instr.askReceived 64 1).wellFormed = false ∧ (Instr.roomReceived 1 0).wellFormed = false
    ∧ (Instr.noroomReceived 0 1).wellFormed = false ∧ (Instr.gotReceived 1 64).wellFormed = false := by decide +kernel
theorem test_wf_node_edges : (Instr.passReceived 1).wellFormed = true ∧ (Instr.passReceived 63).wellFormed = true := by decide +kernel
theorem test_wf_ring : (Instr.activity (some (.ring [5, 5]))).wellFormed = false
    ∧ (Instr.activity (some (.ring []))).wellFormed = false ∧ (Instr.activity (some (.ring [5, 9]))).wellFormed = true := by decide +kernel
theorem test_wf_cargo : (Instr.cargoReceived 1 2 0 []).wellFormed = false
    ∧ (Instr.cargoReceived 1 2 0 (List.replicate 65 0)).wellFormed = false := by decide +kernel
theorem test_wf_here : (Instr.hereReceived 1 0 0 1).wellFormed = false ∧ (Instr.hereReceived 1 4 0 1).wellFormed = false
    ∧ (Instr.hereReceived 1 1 0 33).wellFormed = false := by decide +kernel
theorem test_wf_index : (Instr.absenceExpiry 0).wellFormed = false ∧ (Instr.kdJoin 64).wellFormed = false
    ∧ (Instr.tapWindowExpiry 1 32).wellFormed = false ∧ (Instr.takeReplyTimerExpiry 256).wellFormed = false
    ∧ (Instr.phaseExpiry 24).wellFormed = false ∧ (Instr.gainReplyExpiry 96 0).wellFormed = false
    ∧ (Instr.writeByteNotAcknowledged 64).wellFormed = false := by decide +kernel
theorem test_wf_record : (Instr.busRecord .a 6 0).wellFormed = false ∧ (Instr.transRecord .b 2).wellFormed = false
    ∧ (Instr.keyerRecord .a 4 0 0).wellFormed = false ∧ (Instr.keyerRecord .a 0 2 0).wellFormed = false
    ∧ (Instr.gainOk 96 0).wellFormed = false := by decide +kernel
theorem test_wf_request : (Instr.unknownKind 0x2B 1 []).wellFormed = false ∧ (Instr.unknownKind 0x2C 1 []).wellFormed = true
    ∧ (Instr.status 1 (List.replicate 241 0)).wellFormed = false := by decide +kernel

/-- The table gives no row any bits: no word spells a command. -/
theorem test_table_word : decodeTableWord 16 0x0501 = none := rfl

/-! ### The manual's worked examples -/

/-- 12: the check's own example. -/
theorem test_crc : crc16 [0x31, 0x32, 0x33, 0x34, 0x35, 0x36, 0x37, 0x38, 0x39] = 0x29B1 := by decide +kernel

/-- The table of R163: sums and targets. -/
theorem test_gain_limits : limitGain 68 = .steps 24 ∧ limitGain (-128) = .mute ∧ limitGain (-26) = .steps (-26) := by decide +kernel

/-- The table of R132. -/
theorem test_lamp_targets :
    let f (h t floor : Nat) := Ld.litTarget { Ld.powerOn with house := h, floor := floor, lamps := [(3, ⟨t, none, false, none⟩)] } 3
    f 128 255 16 = 128 ∧ f 200 180 16 = 141 ∧ f 60 180 16 = 42 ∧ f 20 180 16 = 16 ∧ f 255 1 0 = 1 := by decide +kernel

/-- 7.3, worked example: from 141 toward 42 the first tick gives 133 and the thirteenth 42. -/
theorem test_lamp_ramp :
    (stepLevel 8 ⟨true, 42, 141, 141, 0⟩).level = 133 ∧ (stepLevel 8 ⟨true, 42, 45, 45, 0⟩).level = 42 := by decide +kernel

/-- 6, worked example: the router of the resolution through a tie and a loop. -/
def loopRc : Rc :=
  { Rc.powerOn with
    sources := [(20, ⟨some 5, none⟩), (30, ⟨none, some 40⟩), (31, ⟨some 2, none⟩), (51, ⟨none, some 52⟩), (53, ⟨some 7, some 50⟩)]
    dests := [(10, ⟨some 30, none, none⟩), (40, ⟨some 31, none, none⟩), (50, ⟨some 51, none, none⟩), (52, ⟨some 53, none, none⟩)] }

theorem test_walks : (walk loopRc (.dest 10)).visited = [2] ∧ (walk loopRc (.source 20)).visited = [5]
    ∧ (walk loopRc (.dest 50)) = ⟨[7], some (.loop, 50), false⟩ ∧ (walk loopRc .internal).unbound = false := by decide +kernel

/-! ### States the witnesses stand on -/

/-- RUN, nothing configured, the clock at 5,000 ms. -/
def run : State := { State.powerOn { rateHigh := false, profileSkip := true, unit := 7 } [] [] with now := 5000 }
def withCp (f : Cp → Cp) : State := { run with cp := f run.cp }
def withPbc (p : Pbc) : State := { run with pbc := p }
def withRc (r : Rc) : State := { run with rc := r }
def withTe (t : Te) : State := { run with te := t }
def withMl (m : Ml) : State := { run with ml := m }
def withPm (p : Pm) : State := { run with pm := p }
def withReports (r : Reports) : State := { run with reports := r }

/-- A panel of 8 keys at ID 9. -/
def info9 : PanelInfo := ⟨.intercom, 77, 8⟩
def link9 : Link := ⟨List.replicate 8 none, [0, 3], 255, some 4⟩
def member9 : RosterEntry := ⟨some info9, .member link9 0 none⟩
def absent9 : RosterEntry := ⟨some info9, .absent 1000⟩
/-- A path entry, OPEN by standing path 0 or CLOSING. -/
def path (t l : Nat) (opened : Bool) (cur : Gain) (sync : Sync) : PathEntry :=
  { talker := t, listener := l, opened := opened, level := 0, causes := if opened then [⟨.standing 0, 0⟩] else [], target := cur
    current := cur, sentValue := .mute, sync := sync }
/-- A hub at ID 5 of a bus with panel 9, without and with the turn. -/
def hub : Pbc := { run.pbc with node := .member, id := 5, roster := [(9, member9)] }
def hubTurn : Pbc := { hub with turn := { hub.turn with holds := true } }
def lone : Pbc := { run.pbc with node := .listening, id := 5 }

/-- Panel 9 with a record and a context: AUTO talk on key 0 from port 7 to port 40, a DEST key, a CALL key. -/
def talk0 : KeyEntry := .talk (.port 40) .auto false 0 60
def panel9 : PanelRec := { port := some 7, mode := .direct, keys := [(0, talk0), (1, .dest 3), (2, .call 23), (3, .take)] }
def ctx9 : Context := { keys := (List.range 8).map fun k => (k, freshKey ⟨.off, .steady⟩), dest := some 3, preset := some 255 }
def desk (c : Context) : State := { withPbc hub with kd := { run.kd with records := [(9, panel9)], contexts := [(9, c)] } }
def deskKey (x : KeyCtx) : State := desk { ctx9 with keys := (0, x) :: ctx9.keys.drop 1 }

/-- 2.5, worked example (panel 9, key 0 here): PRESS gives TIMING with the tap window to run, RELEASE latches to 60,120. -/
theorem test_auto_talk :
    let s := { desk ctx9 with now := 0 }
    let t := takeTransition 9 s (0, true)
    let u := takeTransition 9 { t with now := 120 } (0, false)
    ((t.kd.key 9 0).map fun x => (x.state, x.tapExpiry, x.image)) = some (.timing, some 300, ⟨.green, .steady⟩)
    ∧ t.te.isOpen 7 40 = true
    ∧ ((u.kd.key 9 0).map fun x => (x.state, x.latchExpiry)) = some (.latched, some 60120) := by decide +kernel

/-- 4.9, worked example: 29 entries and a WAITING one for 42 leave room for the fire of salvo 3 by panel 12, 30 do not. -/
def fireRc (used : Nat) : Rc :=
  { Rc.powerOn with
    salvos := [(3, [(40, 10), (41, 11), (42, 12), (43, 13), (44, 14)])]
    dests := [(41, ⟨none, none, some ⟨some 7, .protect⟩⟩), (43, ⟨none, none, some ⟨some 12, .protect⟩⟩)]
    queue := ⟨42, 1, .party (.host 5), .waiting⟩ :: (List.range (used - 1)).map fun d => ⟨d, 0, .party (.host 5), .waiting⟩ }

theorem test_fire_room : fireTest (fireRc 29) 3 (some 12) = none ∧ fireTest (fireRc 30) 3 (some 12) = some .full := by decide +kernel

/-- R78: a frame chosen for the router before RC's soft reset is sent before those chosen after it. -/
theorem test_router_reset_sends_what_was_chosen :
    (softReset .rc (withRc { run.rc with tx := [.xset 1 2, .xset 3 4] })).rc.tx
      = [.xset 1 2, .xset 3 4, .xask 0 false, .xask 1 false] := by decide +kernel

/-- R6, R191: PBC's soft reset sets ROSTER where it removes an entry, and not where the roster is empty. -/
theorem test_roster_flag_at_reset :
    (softReset .pbc (withPbc { run.pbc with roster := [(9, ⟨none, .contested⟩)] })).cp.flags = run.cp.flags ||| 1
    ∧ (softReset .pbc run).cp.flags = run.cp.flags := by decide +kernel

/-- R202: both times of a roster entry are given in every state, 0xFFFFFFFF where not present. -/
theorem test_roster_times :
    rosterBytes (10, ⟨none, .absent 0x01020304⟩) = [10, 1, 0xFF, 0xFF, 0xFF, 0xFF, 0xFF, 1, 2, 3, 4]
    ∧ rosterBytes (10, ⟨none, .contested⟩) = [10, 2, 0xFF, 0xFF, 0xFF, 0xFF, 0xFF, 0xFF, 0xFF, 0xFF, 0xFF] := by decide +kernel

/-! ### Witnesses: states and operands that meet the hypotheses of each statement -/

theorem witness_StepRunsTheQueue :
    (withCp fun c => { c with tx := [.reply 1 [0x26, 0]] }).pending = []
    ∧ (withCp fun c => { c with tx := [.reply 1 [0x26, 0]] }).cp.tx = .reply 1 [0x26, 0] :: [] ∧ run.pending = [] ∧ run.cp.tx = [] := by
  decide +kernel

/-- A request waits, and the step answers with a next state. -/
def asked : State := { run with pending := [.setNode 1 [5]] }
theorem witness_ControlPortInvariantKept : CpInv asked ∧ ∃ t, step asked = .next t :=
  ⟨⟨by decide +kernel, by decide +kernel, by decide +kernel, by decide +kernel⟩, _, rfl⟩
/-- The settings of a small state lie in their ranges, field by field. -/
theorem witness_SettingsStayInRange : SettingsInRange asked ∧ ∃ t, step asked = .next t :=
  ⟨by constructor <;> decide +kernel, _, rfl⟩
/-- The fourth section of a save, its last byte but one being written, over records of most of its kinds. -/
def imaged : State :=
  { desk ctx9 with
    rc := { fireRc 29 with dests := [(41, ⟨none, none, some ⟨some 7, .protect⟩⟩), (255, ⟨none, none, some ⟨none, .lock⟩⟩)] }
    te := { run.te with groups := [(31, List.range 32)], standing := [(127, ⟨1, 2, 0⟩)] }
    pm := { run.pm with op := .saving ⟨3, .sect 3 [7] 40, 9⟩, transfer := some (.write 39 [1]) }
    pending := [.profileTransferDone] }
theorem imageInv_imaged : ImageInv imaged where
  records := by decide +kernel
  salvos := by decide +kernel
  dests := by decide +kernel
  groups := by decide +kernel
  standing := by decide +kernel
  save := fun _ _ _ _ h e => by cases h; cases e; decide +kernel
  transfer := by decide +kernel
theorem witness_ProfileMemoryFormKept :
    Memory.wf imaged.pm.memory = true ∧ ImageInv imaged ∧ ∃ t, step imaged = .next t := ⟨rfl, imageInv_imaged, _, rfl⟩
/-- R195, R198: the longest image has room in the memory. -/
theorem test_longest_image : sectionEnd 11 ≤ 32768 := by decide +kernel
/-- Panel 9 has stalled once, panel 10 has been ABSENT since 1000. -/
def overdue : Pbc := { hub with roster := [(9, ⟨some info9, .member link9 1 none⟩), (10, absent9)] }
theorem tableInv_overdue : TableInv (withPbc overdue) where
  sorted := rfl
  ids := by decide +kernel
  results := fun _ h => nomatch h
  probe := fun _ _ _ e => nomatch e
  pointer := Nat.zero_le _
  dests := rfl
theorem tableInv_hub : TableInv (withPbc { hub with work := .probe true 63 false, censusPtr := 63 }) where
  sorted := rfl
  ids := by decide +kernel
  results := by decide +kernel
  probe := fun _ _ _ e => by cases e; decide +kernel
  pointer := by decide +kernel
  dests := rfl
theorem witness_TableFormsKept : TableInv (withPbc { hub with work := .probe true 63 false, censusPtr := 63 })
    ∧ ∃ t, step (withPbc { hub with work := .probe true 63 false, censusPtr := 63 }) = .next t := ⟨tableInv_hub, _, rfl⟩

theorem witness_LineFramesAreHeard :
    (∀ b ∈ ([0x00, 0x7D, 0xFF] : List Byte), b ≠ 0x7E)
    ∧ (Instr.xdone 255 255).wellFormed = true ∧ (lineFrame (.xdone 255 255)).isSome = true
    ∧ (Instr.cargoReceived 63 1 255 [0]).wellFormed = true ∧ (lineFrame (.cargoReceived 63 1 255 [0])).isSome = true
    ∧ (Instr.status 255 []).wellFormed = true ∧ (lineFrame (.status 255 [])).isSome = true
    ∧ (Instr.busRecord .b 5 64).wellFormed = true ∧ (lineFrame (.busRecord .b 5 64)).isSome = true
    ∧ (Instr.gainOk 95 95).wellFormed = true ∧ (lineFrame (.gainOk 95 95)).isSome = true := by decide +kernel
theorem witness_LineFramesAreHeard_discards :
    ([5, 6] : List Byte).length = (2 : Byte).toNat ∧ (2 : Byte).toNat ≤ 240 ∧ ([0x62, 0xCD] : List Byte).length = 2
    ∧ ([0x62, 0xCD] : List Byte) ≠ crcBytes ([0, 0x26, 0x11] ++ []) ∧ ([0, 0] : List Byte) ≠ crcBytes ([2, 1, 1] ++ [5, 6])
    ∧ 240 < (241 : Byte).toNat := by decide +kernel
/-- R180: a frame with a wrong check, SYNC included, counts one error from a HUNTING receiver and sets LINK. -/
theorem test_bad_frame_counts :
    (match hear .control [0x7E, 0x00, 0x26, 0x11, 0x62, 0xCD] with
      | [a, b] => match exec a run with
        | .next s => match exec b s with
          | .next u => some (u.cp.linkErrors, u.cp.inFrame, u.cp.flags)
          | _ => none
        | _ => none
      | _ => none) = some (1, false, 0x200) := by decide +kernel

def eight : State := withCp fun c => { c with outstanding := (List.range 8).map fun i => ⟨BitVec.ofNat 8 (i + 2), 0x10⟩ }
theorem witness_RequestChecksInOrder :
    (requestParts (.take 0 [0, 1, 0, 2]) = some (0x10, 0, [0, 1, 0, 2]) ∧ (Instr.take 0 [0, 1, 0, 2]).wellFormed = true)
    ∧ (∃ o ∈ eight.cp.outstanding, o.tag = 9)
    ∧ ((∀ o ∈ eight.cp.outstanding, o.tag ≠ 1) ∧ 8 ≤ eight.cp.outstanding.length)
    ∧ (requestParts (.unknownKind 0x2C 1 []) = some (0x2C, 1, []) ∧ run.cp.outstanding.length < 8 ∧ knownKind 0x2C = false)
    ∧ (requestParts (.setNode 1 [5]) = some (0x01, 1, [5]) ∧ knownKind 0x01 = true
      ∧ admits State.reset (requestClass (.setNode 1 [5])) = false)
    ∧ (knownKind 0 = false ∧ knownKind 0xFF = false ∧ Admitted .always 255 (List.replicate 240 0) run) := by decide +kernel

theorem witness_RequestChecksInOrder_classes :
    (∀ i ∈ [Instr.status 1 [], .identify 1 [], .readRoster 1 [], .readMatrix 1 [], .sweepNow 1 [], .clearFlags 1 [0, 0], .setNode 1 [5],
        .dropStanding 1 [0], .profileSave 1 [], .profileLoad 1 [], .reset 1 []],
      (requestParts i).isSome = true ∧ i.wellFormed = true)
    ∧ (requestParts (.lampTiming 1 [1, 40]) = some (0x1D, 1, [1, 40]) ∧ requestParts (.gainTiming 1 []) = some (0x23, 1, [])
      ∧ requestParts (.setLamp 1 [3, 0]) = some (0x1C, 1, [3, 0])) := by decide +kernel

def flagged : State := withCp fun c => { c with flags := 0x240, mask := 0x3FF, announced := 0x200 }
theorem witness_AttnFollowsFlagsAndMask :
    flagged.cp.flags &&& ~~~allFlags = 0 ∧ Admitted .live 1 [0x03, 0xFF] flagged
    ∧ ((0x03 : Byte) ++ (0xFF : Byte) : FlagSet) &&& ~~~allFlags = 0
    ∧ flagged.cp.flags &&& flagged.cp.mask &&& ~~~((0x03 : Byte) ++ (0xFF : Byte) : FlagSet) = 0 ∧ flagged.cp.attn = true := by
  decide +kernel
theorem witness_ControlLineEvents_announced :
    run.cp.due = 0 ∧ (flagged.cp.due ≠ 0 ∧ ∀ f ∈ flagged.cp.tx, f.isNotice = false)
    ∧ (withCp fun c => { flagged.cp with tx := c.tx ++ [.reply 1 [0x10, 0], .notice 0x200 none] }).cp.tx
        = [.reply 1 [0x10, 0]] ++ .notice 0x200 none :: [] := by decide +kernel

theorem witness_ControlPortRequestsTakeEffect :
    Admitted .live 1 [0x03, 0xFF] flagged ∧ ((0x03 : Byte) ++ (0xFF : Byte) : FlagSet) &&& ~~~allFlags = 0
    ∧ Admitted .always 255 [] flagged ∧ Admitted .always 1 [] State.reset := by decide +kernel

theorem witness_WrongBodiesAreRefused :
    Admitted .live 1 [0] run ∧ Admitted .read 1 [0] run ∧ Admitted .always 1 [0] run ∧ Admitted .reset 1 [0] run
      ∧ Admitted .profile 1 [0] run := by decide +kernel
theorem witness_WrongBodiesAreRefused_indexes :
    (63 < (64 : Byte).toNat ∧ Admitted .config 1 [64] run ∧ Admitted .live 1 [64] run)
    ∧ (23 < (24 : Byte).toNat ∧ Admitted .live 1 [24, 5] run)
    ∧ (127 < (128 : Byte).toNat ∧ Admitted .config 1 [128] run) ∧ Admitted .live 1 [1, 0, 0] run := by decide +kernel
theorem witness_WrongBodiesAreRefused_fields :
    Admitted .live 1 [1, 0, 0, 0] run ∧ (Admitted .live 1 [0] run ∧ Admitted .config 1 [24, 5] run)
    ∧ (presence [1, 2, 1] [0] = some [none, none, none] ∧ Admitted (readbackClass 1 [24, 0]) 1 [24, 0] run
      ∧ presence [1, 2, 1] [4, 1] = some [none, none, some 1] ∧ okIf (· ≤ 1) (some 1) = true
      ∧ Admitted (readbackClass 1 [24, 4, 1]) 1 [24, 4, 1] run)
    ∧ (skipOf [] = some 0 ∧ Admitted .read 1 [0] run ∧ Admitted .read 1 [64] run) := by decide +kernel

theorem witness_ControlLineEvents :
    ((withCp fun c => { c with inFrame := true }).cp.inFrame = true ∧ run.cp.inFrame = false)
    ∧ (withCp fun c => { c with tx := [.reply 1 [0x10, 0], .notice 0x40 none, .reply 2 [0x10, 0]] }).cp.due = 0
    ∧ (withCp fun c => { c with tx := [.reply 1 [0x10, 0], .notice 0x40 none, .reply 2 [0x10, 0]] }).cp.tx
        = [.reply 1 [0x10, 0]] ++ .notice 0x40 none :: [.reply 2 [0x10, 0]]
    ∧ (∀ f ∈ run.cp.tx, f.isNotice = false) := by decide +kernel

def resetting (left : List Block) : State := withCp fun c => { c with resetting := some ⟨3, left⟩, outstanding := [⟨3, 0x29⟩] }
theorem witness_ResetRunsThroughTheBlocks :
    (Admitted .reset 3 [] run ∧ run.cp.due = 0)
    ∧ (Block.te ∈ [Block.te, .pm] ∧ [Block.te, .pm].filter (· != .te) ≠ [])
    ∧ ((resetting [.pm]).cp.resetting = some ⟨3, [.pm]⟩ ∧ [Block.pm].filter (· != .pm) = []
      ∧ (resetting [.pm]).cp.outstanding = [⟨3, 0x29⟩])
    ∧ run.cp.resetting = none := by decide +kernel

theorem witness_SoftResetOfEachBlock : (withPbc { hub with busAuto := true }).pbc.id ≠ 0
    ∧ (withPbc { hub with busAuto := true }).pbc.busAuto = true
    ∧ ((resetting [.mm, .tr, .ld, .te]).cp.resetting = some ⟨3, [.mm, .tr, .ld, .te]⟩ ∧ run.cp.resetting = none)
    ∧ run.ml.line ≠ .up ∧ (withMl { run.ml with line := .up }).ml.line = .up
    ∧ ({ path 1 2 true (.steps 0) .sent with level := 3 } : PathEntry).sync = .sent := by decide +kernel
/-- R175, R179: TE's soft reset zeroes the timeouts in a row of an UP line, and ML's makes a SENT entry DIRTY. -/
theorem test_soft_resets_of_the_matrix :
    (softReset .te (withMl { run.ml with line := .up, consecutive := 3 })).ml.consecutive = 0
    ∧ (softReset .ml (withTe { run.te with paths := [(193, path 1 2 true (.steps 0) .sent)] })).te.paths
        = [(193, path 1 2 true (.steps 0) .dirty)] := by decide +kernel

theorem witness_ReadRequestsAnswer_longLists : (List.replicate 234 (0 : Byte)).length + 6 ≤ 240 := by decide +kernel

theorem witness_ReadRequestsAnswer :
    (Admitted .read 1 [] run ∧ skipOf [] = some 0 ∧ Admitted .read 1 [255, 255] run ∧ skipOf [255, 255] = some 65535)
    ∧ (Admitted .read 1 [63] run ∧ 1 ≤ (63 : Byte).toNat ∧ (63 : Byte).toNat ≤ 63)
    ∧ (Admitted .read 1 [0, 0, 255, 32] run ∧ 1 ≤ (32 : Byte).toNat ∧ (32 : Byte).toNat ≤ 32)
    ∧ (Admitted .read 1 [1, 63, 0, 1] run ∧ skipOf [0, 1] = some 1) := by decide +kernel
theorem witness_ReadRequestsAnswer_mixersAndPaths :
    (Admitted .read 1 [0] run ∧ Admitted .read 1 [2] run) ∧ Admitted .read 1 [1, BitVec.ofNat 8 (mixerCode .b)] run
    ∧ (Admitted .read 1 [1, 95] run ∧ Admitted .read 1 [2, 95, 0] run ∧ Admitted .read 1 [4, 127, 32] run) := by decide +kernel
/-- READ-DEST out of range: a first index of 256, and counts of 0 and 33. -/
theorem witness_ReadRequestsAnswer_range :
    skipOf [] = some 0 ∧ (Admitted .read 1 [0, 1, 0, 1] run ∧ (1 : Byte) ≠ 0) ∧ Admitted .read 1 [0, 0, 0, 0] run
    ∧ (Admitted .read 1 [0, 0, 255, 33] run ∧ 32 < (33 : Byte).toNat) := by decide +kernel
theorem witness_ReadRequestsAnswer_layouts :
    (member9.presence = .member link9 0 none ∧ absent9.presence = .absent 1000
      ∧ (⟨none, .contested⟩ : RosterEntry).presence = .contested ∧ tsorted hub.roster = true)
    ∧ (tfind (desk ctx9).kd.records 9 = some panel9 ∧ tfind run.kd.records 9 = none)
    ∧ (let e (r : Requester) : TakeEntry := ⟨255, 0, r, .sent (some 5003)⟩
      let f : Fire := { serial := 6, salvo := 63, party := .panel 9 3, awaiting := 1, done := 0, other := 0, skipped := 0 }
      (e (.party (.host 255))).requester = .party (.host 255) ∧ (e (.party (.panel 63 31))).requester = .party (.panel 63 31)
      ∧ (e (.fire 6)).requester = .fire 6 ∧ [f].find? (·.serial == 6) = some f)
    ∧ (run.rc.fires.map fireBytes = [] ++ [] ∧ run.rc.queries.length ≤ 2)
    ∧ ((⟨.key 9 0, 0⟩ : Cause).origin = .key 9 0 ∧ (⟨.live 9 0, 0⟩ : Cause).origin = .live 9 0
      ∧ (⟨.standing 127, 0⟩ : Cause).origin = .standing 127)
    ∧ (tfind run.te.standing 127 = none ∧ tfind [(127, (⟨1, 2, 0⟩ : Standing))] 127 = some ⟨1, 2, 0⟩) := by decide +kernel

/-! The Panel Bus -/

theorem witness_NodeAndEnableByState :
    (Admitted .config 1 [0] run ∧ run.pbc.node = .asleep)
    ∧ (Admitted .config 1 [63] (withPbc lone) ∧ lone.node = .listening ∧ lone.entry 63 = none)
    ∧ ((withPbc { lone with node := .conflict }).pbc.node = .conflict)
    ∧ (({ lone with roster := [(9, absent9)] } : Pbc).entry 9).isSome = true
    ∧ (withPbc hub).pbc.node = .member
    ∧ (Admitted .config 1 [1, 0] (withPbc lone) ∧ flagOf (1 : Byte).toNat = some true)
    ∧ (Admitted .config 1 [0, 1, 1] (withPbc hub) ∧ flagOf (0 : Byte).toNat = some false)
    ∧ (hub.node ≠ .asleep ∧ hub.node ≠ .listening) := by decide +kernel
theorem witness_NodeAndEnableByState_roster : TableInv (withPbc { hub with work := .probe true 63 false, censusPtr := 63 }) := tableInv_hub
/-- Stall limit 1 and release interval 0 carried, and neither: what stands overdue for each. -/
theorem witness_BusTimingSweepNowAndForget_overdue : TableInv (withPbc overdue)
    ∧ (presence [2, 2, 1, 2, 1, 1] [0x30, 1, 0] = some [none, none, none, none, some 1, some 0]
      ∧ overdue.presence 9 = some (.member link9 1 none) ∧ overdue.presence 10 = some (.absent 1000))
    ∧ presence [2, 2, 1, 2, 1, 1] [0x10, 2] = some [none, none, none, none, some 2, none]
    ∧ presence [2, 2, 1, 2, 1, 1] [0x20, 255] = some [none, none, none, none, none, some 255]
    ∧ presence [2, 2, 1, 2, 1, 1] [0] = some [none, none, none, none, none, none] :=
  ⟨tableInv_overdue, by decide +kernel⟩

theorem witness_BusTimingSweepNowAndForget :
    (Admitted .config 1 [0x3F, 0, 0, 0xFF, 0xFF, 8, 0x13, 0x88, 1, 255] (withPbc hub)
      ∧ presence [2, 2, 1, 2, 1, 1] [0x3F, 0, 0, 0xFF, 0xFF, 8, 0x13, 0x88, 1, 255]
          = some [some 0, some 65535, some 8, some 5000, some 1, some 255])
    ∧ (presence [2, 2, 1, 2, 1, 1] [0x10, 1] = some [none, none, none, none, some 1, none])
    ∧ (hub.presence 9 = some (.member link9 0 none))
    ∧ (({ hub with roster := [(9, ⟨some info9, .member link9 1 (some 7)⟩)] } : Pbc).presence 9 = some (.member link9 1 (some 7)))
    ∧ (({ hub with roster := [(9, absent9)] } : Pbc).presence 9 = some (.absent 1000)
      ∧ (0 : Nat) * 1000 ≤ (run.now - (1000 : Millis)).toNat ∧ presence [2, 2, 1, 2, 1, 1] [0x20, 0] = some [none, none, none, none, none, some 0])
    ∧ (({ hub with silentSince := some 4999 } : Pbc).turn.holds = false ∧ (1 : Nat) ≤ (run.now - (4999 : Millis)).toNat)
    ∧ (Admitted .live 1 [] (withPbc hub) ∧ Admitted .live 1 [] (withPbc hubTurn) ∧ hub.node = .member ∧ lone.node ≠ .member)
    ∧ (Admitted .live 1 [63] (withPbc hub) ∧ hub.entry 63 = none ∧ Admitted .live 1 [9] (withPbc hub)
      ∧ hub.entry 9 = some member9 ∧ member9.isMember = true ∧ absent9.isMember = false) := by decide +kernel

def probing (heard : Bool) : Pbc := { hubTurn with work := .probe true 20 heard, windowOpen := true }
def passing (again : Bool) : Pbc := { hubTurn with work := .pass 9 again, windowOpen := true }
def checking : Pbc := { lone with node := .checking, checkingExpiry := some 5000 }
theorem witness_ActivityAndCheckingByState :
    run.pbc.node = .asleep ∧ lone.node = .listening ∧ checking.node = .checking
    ∧ (hub.node = .member ∧ hub.windowOpen = false)
    ∧ ((passing false).windowOpen = true ∧ (passing false).work = .pass 9 false)
    ∧ ((probing false).windowOpen = true ∧ (probing false).work = .probe true 20 false)
    ∧ ((Instr.passReceived 5).wellFormed = true ∧ checking.windowOpen = false ∧ (5 : Byte).toNat = checking.id)
    ∧ ((Instr.activity (some (.probe 5))).wellFormed = true ∧ (Instr.hereReceived 5 1 0 32).wellFormed = true
      ∧ (Instr.activity (some .sweep)).wellFormed = true ∧ (Instr.activity (some (.ring [5]))).wellFormed = true
      ∧ (Instr.cargoReceived 9 5 0 [1, 1, 0, 1]).wellFormed = true ∧ (Instr.noroomReceived 5 9).wellFormed = true)
    ∧ ((Instr.askReceived 9 5).wellFormed = true ∧ ∃ x ∈ ([9, 5] : List Byte), x.toNat = checking.id)
    ∧ (∀ x ∈ ([1, 63] : List Byte), x.toNat ≠ checking.id) := by decide +kernel

theorem witness_WindowsAndTimersOfTheBus :
    (hub.txEnable = false ∧ ({ hub with tx := [.sweep] } : Pbc).txEnable = true)
    ∧ run.pbc.tx = [] ∧ ({ hub with tx := [.room 5 9], reserved := some (9, .sending) } : Pbc).tx = .room 5 9 :: []
    ∧ ({ hubTurn with tx := [.ask 5 9], work := .ask 9 } : Pbc).tx = .ask 5 9 :: []
    ∧ (({ hubTurn with work := .ask 9, windowOpen := true } : Pbc).windowOpen = true)
    ∧ (({ hubTurn with work := .cargo 9 [], windowOpen := true } : Pbc).work = .cargo 9 [])
    ∧ ((passing false).work = .pass 9 false ∧ (passing true).work = .pass 9 true ∧ (passing true).entry 9 = some member9
      ∧ member9.isMember = true)
    ∧ hub.windowOpen = false := by decide +kernel

theorem witness_TurnSequenceInOrder :
    ({ hub with sweepPending := true } : Pbc).sweepPending = true
    ∧ (hub.sweepPending = false ∧ ((5000 : Millis) - 4501).toNat < hub.timing.census)
    ∧ (hub.timing.census ≤ ((5000 : Millis) - hub.lastCensus).toNat
      ∧ (idsAfter hub.censusPtr).find? (fun n => n != hub.id && !(hub.entry n).any (·.isMember)) = some 1)
    ∧ (let full : Pbc := { hub with roster := (List.range' 1 63).map fun n => (n, member9) }
      (idsAfter full.censusPtr).find? (fun n => n != full.id && !(full.entry n).any (·.isMember)) = none)
    ∧ ((withPbc hubTurn).pbc.turn.made < hubTurn.turn.budget
      ∧ (idsAfter hubTurn.rotationPtr).find? (eligible (withPbc hubTurn)) = some 9
      ∧ hubTurn.presence 9 = some (.member link9 0 none))
    ∧ (let done : Pbc := { hubTurn with turn := { hubTurn.turn with made := 4 } }
      done.turn.budget ≤ done.turn.made)
    ∧ (eligible (withPbc hubTurn) 9 = true ∧ 9 ∉ hubTurn.turn.chosen ∧ link9.dirty ≠ []) := by decide +kernel
/-- R19: a STALLED panel is eligible a census interval after its stalled-ask time. -/
theorem test_stalled_eligible :
    let s (ask : Millis) := withPbc { hubTurn with roster := [(9, ⟨some info9, .member link9 32 (some ask)⟩)] }
    eligible (s 4500) 9 = true ∧ eligible (s 4501) 9 = false := by decide +kernel

theorem witness_PassAndAskAreTaken :
    (nodeByte 63 = true ∧ lone.node = .listening ∧ lone.windowOpen = false)
    ∧ (hub.node = .member ∧ (5 : Byte).toNat = hub.id ∧ hub.turn.holds = false)
    ∧ ((passing true).windowOpen = true ∧ (passing true).work = .pass 9 true)
    ∧ ((9 : Byte).toNat ≠ hub.id ∧ probeOpen hub = false)
    ∧ (run.pbc.node = .asleep ∧ probeOpen run.pbc = false) ∧ (nodeByte 0 = false ∧ nodeByte 64 = false)
    ∧ (hub.windowOpen = false ∧ hub.entry 9 = some member9 ∧ member9.isMember = true ∧ hub.inbound.length < 4)
    ∧ (let p : Pbc := { hub with inbound := List.replicate 3 ⟨9, []⟩, reserved := some (20, .window) }
      p.windowOpen = false ∧ p.turn.holds = false ∧ p.inbound.length < 4 ∧ p.entry 9 = some member9)
    ∧ (let p : Pbc := { lone with node := .conflict }
      p.node = .conflict ∧ p.windowOpen = false ∧ nodeByte 5 = true ∧ (5 : Byte).toNat = p.id)
    ∧ (hub.entry 63 = none)
    ∧ (4 ≤ ({ hub with inbound := List.replicate 4 ⟨9, []⟩ } : Pbc).inbound.length)
    ∧ hubTurn.turn.holds = true := by decide +kernel
theorem witness_PassAndAskAreTaken_asks :
    (probeOpen (passing true) = false ∧ (passing true).node = .member ∧ (passing true).id = (5 : Byte).toNat
      ∧ (passing true).entry 9 = some member9 ∧ (passing true).inbound.length < 4)
    ∧ (probeOpen hubTurn = false ∧ hubTurn.windowOpen = false)
    ∧ (lone.node = .listening ∧ probeOpen lone = false ∧ nodeByte 9 = true ∧ nodeByte 5 = true)
    ∧ (({ lone with node := .conflict } : Pbc).node = .conflict ∧ probeOpen { lone with node := .conflict } = false)
    ∧ (let p : Pbc := { hubTurn with node := .sweeping, work := .probe false 4 false }
      p.node = .sweeping ∧ probeOpen p = false)
    ∧ (run.pbc.node = .asleep ∧ nodeByte 64 = false) := by decide +kernel
/-- R17, R23: an ASK that answers the hub's own PASS takes the turn away and is answered ROOM. -/
theorem test_ask_answers_pass :
    (match exec (.askReceived 9 5) (withPbc (passing false)) with
      | .next u => some (u.pbc.tx, u.pbc.turn.holds, u.pbc.reserved)
      | _ => none) = some ([.room 5 9], false, some (9, .sending)) := by decide +kernel

theorem witness_CargoByItsTable :
    (cargoClean 9 5 [0x01, 0x01, 0x00, 0x01] = true ∧ hub.node = .member ∧ (5 : Byte).toNat = hub.id ∧ probeOpen hub = false)
    ∧ hub.entry 20 = none ∧ hub.presence 9 = some (.member link9 0 none)
    ∧ (link9.lastIn = some (4 : Byte).toNat ∧ link9.lastIn ≠ some (5 : Byte).toNat)
    ∧ (keysPayload [0xFF] = none ∧ (keysPayload [0x01, 0x01, 0x00, 0x01]).isSome = true)
    ∧ (({ hub with reserved := some (9, .window) } : Pbc).reserved = some (9, .window))
    ∧ (hub.reserved = none ∧ hub.inbound.length < 4)
    ∧ (let p : Pbc := { hub with reserved := some (20, .window), inbound := List.replicate 2 ⟨9, []⟩ }
      p.inbound.length < 3 ∧ p.presence 9 = some (.member link9 0 none))
    ∧ (cargoClean 9 5 [] = false ∧ cargoClean 9 9 [0x01] = true ∧ (9 : Byte).toNat ≠ hub.id)
    ∧ (run.pbc.node = .asleep ∧ probeOpen run.pbc = false ∧ lone.node = .listening ∧ probeOpen lone = false)
    ∧ (let p : Pbc := { hub with reserved := some (20, .window), inbound := List.replicate 3 ⟨9, []⟩ }
      4 ≤ p.inbound.length + (if p.reserved.isSome then 1 else 0)) := by decide +kernel

theorem witness_ExchangeAnswers :
    (nodeByte 9 = true ∧ nodeByte 5 = true ∧ (5 : Byte).toNat = hub.id)
    ∧ (let p : Pbc := { hubTurn with work := .ask 9, windowOpen := true }
      p.node = .member ∧ p.turn.holds = true ∧ p.windowOpen = true ∧ p.work = .ask (9 : Byte).toNat
      ∧ p.presence 9 = some (.member link9 0 none))
    ∧ (let p : Pbc := { hubTurn with work := .cargo 9 [(0, ⟨.red, .steady⟩)], windowOpen := true }
      p.work = .cargo (9 : Byte).toNat [(0, ⟨.red, .steady⟩)])
    ∧ ([((0 : Nat), (⟨.red, .steady⟩ : Image))].map (·.1)).Nodup := by decide +kernel
/-- A ROOM, NOROOM or GOT that nothing awaits, in each state of the node, with a PASS sent and without; and one that is not clean. -/
theorem witness_ExchangeAnswers_late :
    let swept : Pbc := { hub with node := .sweeping, turn := { hub.turn with holds := true }, work := .probe false 4 false }
    let passed : Pbc := { hubTurn with work := .pass 9 false, windowOpen := true }
    let asking : Pbc := { hubTurn with work := .ask 9 }
    (nodeByte 1 = true ∧ nodeByte 63 = true ∧ nodeByte 0 = false ∧ nodeByte 64 = false)
    ∧ (run.pbc.node = .asleep ∧ probeOpen run.pbc = false) ∧ (lone.node = .listening ∧ probeOpen lone = false)
    ∧ (({ lone with node := .conflict } : Pbc).node = .conflict ∧ probeOpen { lone with node := .conflict } = false)
    ∧ (swept.node = .sweeping ∧ probeOpen swept = false ∧ swept.windowOpen = false)
    ∧ (hub.node = .member ∧ probeOpen hub = false ∧ hub.windowOpen = false)
    ∧ (passed.node = .member ∧ probeOpen passed = false ∧ passed.windowOpen = true ∧ passed.work = .pass 9 false)
    ∧ (asking.node = .member ∧ probeOpen asking = false ∧ asking.windowOpen = false ∧ asking.work = .ask (9 : Byte).toNat) := by
  decide +kernel

theorem witness_ProbesAreClassifiedAndEnd :
    ((BusOther.sweep).clean = true ∧ (BusOther.probe 63).clean = true ∧ (BusOther.ring [1, 63]).clean = true
      ∧ nodeByte 1 = true ∧ nodeByte 63 = true ∧ (probing false).turn.holds = true ∧ cargoClean 9 5 [1, 1, 0, 1] = true
      ∧ (5 : Byte).toNat = (probing false).id ∧ cargoClean 9 63 [1] = true)
    ∧ (hereClean 20 1 32 = true ∧ (probing true).node = .member ∧ (probing true).work = .probe true 20 true
      ∧ (probing true).windowOpen = true)
    ∧ ((20 : Byte).toNat = 20 ∧ (9 : Byte).toNat ≠ 20) ∧ probeOpen hub = false
    ∧ (let p : Pbc := { hubTurn with node := .sweeping, work := .probe false 4 false }
      p.work = .probe false 4 false ∧ (List.range' (4 + 1) (63 - 4)).find? (· != p.id) = some 6)
    ∧ (List.range' (63 + 1) (63 - 63)).find? (· != hub.id) = none
    ∧ probeChanges .absent (hub.entry 9) = true ∧ probeChanges (.present info9) (hub.entry 9) = false := by decide +kernel

def contested9 : RosterEntry := ⟨some info9, .contested⟩
theorem witness_ProbeResultTable :
    hub.entry 20 = none ∧ (hub.entry 9 = some member9 ∧ member9.isMember = true ∧ member9.info = some info9)
    ∧ (member9.info ≠ some { info9 with keys := 32 } ∧ info9.unit = ({ info9 with keys := 32 } : PanelInfo).unit)
    ∧ info9.unit ≠ ({ info9 with unit := 78 } : PanelInfo).unit
    ∧ (({ hub with roster := [(9, absent9)] } : Pbc).entry 9 = some absent9 ∧ absent9.presence = .absent 1000)
    ∧ (({ hub with roster := [(9, contested9)] } : Pbc).entry 9 = some contested9 ∧ contested9.presence = .contested) := by
  decide +kernel

theorem witness_WindowsAndTimersOfTheBus_timers :
    (checking.node = .checking ∧ checking.checkingExpiry = some 5000 ∧ (run.now - (5000 : Millis)).toNat < 2 ^ 31)
    ∧ run.pbc.node ≠ .checking
    ∧ (({ checking with checkingExpiry := some 5001 } : Pbc).node = .checking ∧ 2 ^ 31 ≤ (run.now - (5001 : Millis)).toNat)
    ∧ (({ hub with silentSince := some 4996 } : Pbc).silentSince = some 4996 ∧ hub.timing.silence ≤ (run.now - (4996 : Millis)).toNat)
    ∧ hub.silentSince = none
    ∧ (let p : Pbc := { hubTurn with roster := [] }
      p.work = .idle ∧ p.successor = p.id ∧ p.node = .member ∧ p.turn.holds = true)
    ∧ hubTurn.successor ≠ hubTurn.id
    ∧ ({ hub with roster := [(9, absent9)] } : Pbc).presence 9 = some (.absent 1000)
    ∧ hub.presence 20 = none := by decide +kernel

/-! Panels and keys -/

theorem witness_PanelsKeysAndTimingsAreSet_timings : Admitted .config 1 [0, 0] run ∧ Admitted .config 1 [255, 255] run := by decide +kernel

theorem witness_PanelsKeysAndTimingsAreSet :
    (Admitted .config 1 [63, 0, 95, 1] run ∧ (63 : Byte).toNat ≤ 63 ∧ tfind run.kd.records 63 = none)
    ∧ (Admitted .config 1 [9, 0, 255, 0] (desk ctx9) ∧ tfind (desk ctx9).kd.records 9 = some panel9 ∧ panel9.port ≠ none
      ∧ talkOrListen (tget .none panel9.keys 0) = true)
    ∧ (Admitted .config 1 [9, 1] (desk ctx9) ∧ tfind (desk ctx9).kd.records 20 = none)
    ∧ (keyForm [4, 0, 255] = some (.dest 255) ∧ keyInRange (.dest 255) = true
      ∧ Admitted .config 1 [9, 31, 4, 0, 255] (desk ctx9)) := by decide +kernel

theorem witness_NoticesAndReportsReachKd :
    (takeFirst (fun (x : PanelNotice) => x.node == 9) [.join 20 4, .departure 9, .join 9 8] = some (.departure 9, [.join 20 4, .join 9 8]))
    ∧ (takeFirst (fun (x : PanelNotice) => x.node == 9) [.join 9 8] = some (.join 9 8, []))
    ∧ (hub.presence 9 = some (.member link9 0 none))
    ∧ ((deskKey { freshKey ⟨.off, .steady⟩ with state := .held }).kd.keyState 9 0 ≠ .idle) := by decide +kernel
theorem witness_NoticesAndReportsReachKd_reports :
    let r : Reports := { Reports.empty with
      kdOutcomes := [⟨9, 3, .failed, []⟩], kdFires := [⟨9, 1, 0, 1, 0, 0⟩], kdFromTr := [.live []], kdFromTe := [.group 1]
      kdFromRc := [.protect 3] }
    (withReports r).reports.kdOutcomes = ⟨9, 3, .failed, []⟩ :: [] ∧ (withReports r).reports.kdFires = ⟨9, 1, 0, 1, 0, 0⟩ :: []
    ∧ (withReports r).reports.kdFromTr = .live [] :: [] ∧ (withReports r).reports.kdFromTe = .group 1 :: []
    ∧ (withReports r).reports.kdFromRc = .protect 3 :: [] ∧ run.reports.kdOutcomes = [] ∧ run.reports.kdFires = [] := by
  decide +kernel

/-- A report of each kind touches a key of panel 9, and one of another kind does not. -/
theorem witness_NoticesAndReportsReachKd_touched :
    let s := desk ctx9
    tfind s.kd.contexts 9 = some ctx9 ∧ tfind s.kd.contexts 10 = none
    ∧ affects s 9 ctx9 (.path 3 7) talk0 = true ∧ affects s 9 ctx9 (.path 7 3) talk0 = false
    ∧ affects s 9 ctx9 (.positionPort (some 3) (some 40)) talk0 = true
    ∧ affects s 9 ctx9 (.crosspoint 3 [1, 255]) (.source 255) = true ∧ affects s 9 ctx9 (.crosspoint 0 [255]) (.source 255) = false
    ∧ affects s 9 ctx9 (.protect 3) .protect = true ∧ affects s 9 ctx9 (.takes 3 [9]) .take = true
    ∧ affects s 9 ctx9 (.takes 3 [10]) .take = false ∧ affects s 9 ctx9 (.fire 0 none) (.salvo 0) = false := by decide +kernel
theorem witness_NoticesAndReportsReachKd_dispatch : run.pbc.inbound = []
    ∧ ({ hub with inbound := [⟨9, [(0, true), (0, false)]⟩] } : Pbc).inbound = ⟨9, [(0, true), (0, false)]⟩ :: [] := by decide +kernel

theorem witness_TransitionsByEntry :
    tfind run.kd.records 9 = none ∧ rosterKeys (desk ctx9).pbc 9 ≤ 8
    ∧ (tfind (desk ctx9).kd.records 9 = some panel9 ∧ 7 < rosterKeys (desk ctx9).pbc 9
      ∧ tfind (desk ctx9).kd.contexts 9 = some ctx9 ∧ tfind ctx9.keys 0 = some (freshKey ⟨.off, .steady⟩))
    ∧ (tget KeyEntry.none panel9.keys 0 = talk0 ∧ tget KeyEntry.none panel9.keys 1 = .dest 3
      ∧ tget KeyEntry.none panel9.keys 2 = .call 23 ∧ tget KeyEntry.none panel9.keys 3 = .take
      ∧ tget KeyEntry.none panel9.keys 7 = .none) := by decide +kernel

/-- Panel 9 with the entry `e` on key 0, that key in the state `st`. -/
def deskEntry (e : KeyEntry) (st : KeyState) (pressed : Bool) : State :=
  let s := deskKey { freshKey ⟨.off, .steady⟩ with state := st, pressed := pressed }
  { s with kd := { s.kd with records := [(9, { panel9 with keys := [(0, e)] })] } }
/-- Every kind of entry meets every key state, pressed and released. -/
theorem witness_NoticesAndReportsReachKd_call :
    (deskEntry (.call 23) .held true).kd.keyState 9 0 ≠ .idle ∧ (deskEntry (.call 23) .held true).kd.entry 9 0 = .call 23 := by
  decide +kernel
theorem witness_TransitionsByEntry_states :
    ∀ e ∈ ([.none, talk0, .talk .live .momentary false 0 0, .talk (.group 31) .latch true 24 255, .listen (.port 95) (-80),
        .source 255, .dest 255, .take, .protect, .salvo 63, .call 23] : List KeyEntry),
      ∀ st ∈ [KeyState.idle, .timing, .held, .latched, .unlatching, .active], ∀ pressed ∈ [true, false],
        let s := deskEntry e st pressed
        (tfind s.kd.records 9).map (fun r => tget .none r.keys 0) = some e ∧ 0 < rosterKeys s.pbc 9
          ∧ ((tfind s.kd.contexts 9).bind fun c => tfind c.keys 0).map (fun x => (x.state, x.pressed)) = some (st, pressed) := by
  decide +kernel
/-- A take queue with the WAITING entries of `ds`, the host's. -/
def queueing (ds : List Nat) (p : Option Protect) (down : Bool) : Rc :=
  { run.rc with
    queue := ds.map fun d => ⟨d, 1, .party (.host 5), .waiting⟩, dests := [(3, ⟨none, none, p⟩)], down := down }
theorem witness_TransitionsByEntry_takes :
    let waits (rc : Rc) : Bool := rc.queue.any fun e => e.dest == 3 && e.isWaiting
    holdsAgainst ((queueing [] (some ⟨some 7, .protect⟩) false).dest 3).protect (some 9) ≠ none
    ∧ holdsAgainst ((queueing [] (some ⟨some 9, .protect⟩) false).dest 3).protect (some 9) = none
    ∧ (queueing [] none true).down = true
    ∧ (waits (queueing (List.range' 4 32) none false) = false ∧ (queueing (List.range' 4 32) none false).queue.length = 32)
    ∧ (waits (queueing (List.range' 4 31) none false) = false ∧ (queueing (List.range' 4 31) none false).queue.length < 32)
    ∧ waits (queueing [4, 3] none false) = true
    ∧ (tfind (desk ctx9).kd.contexts 9 = some ctx9 ∧ tfind ctx9.keys 7 = some (freshKey ⟨.off, .steady⟩)
      ∧ tfind run.kd.contexts 9 = none)
    ∧ (fireTest (queueing [] none false) 3 (some 9) ≠ none ∧ fireTest (fireRc 29) 3 (some 12) = none) := by decide +kernel

/-- Every one of the 2,048 causes is in the pool. -/
def fullTe : Te :=
  { run.te with
    paths := [(0, ⟨0, 0, true, 0, List.replicate 2048 ⟨.standing 0, 0⟩, .mute, .mute, .mute, .clean⟩)] }
theorem witness_ActivationAndDeactivation :
    (desk ctx9).kd.key 9 0 = some (freshKey ⟨.off, .steady⟩)
    ∧ ({ desk ctx9 with kd := { (desk ctx9).kd with records := [] } }.kd.key 9 0 = some (freshKey ⟨.off, .steady⟩))
    ∧ (tfind (desk ctx9).kd.records 9).bind (·.port) = some 7
    ∧ hasRoom fullTe 0 (causesOfKey fullTe 9 0 7 [40] talk0) = false
    ∧ hasRoom run.te 0 (causesOfKey run.te 9 0 7 [40] talk0) = true
    ∧ fullTe.freedBy (renewed (causesOfKey fullTe 9 0 7 [40] talk0)) = 0
    ∧ run.te.freedBy (renewed (causesOfKey run.te 9 0 7 [40] talk0)) = 0
    ∧ talkOrListen ((desk ctx9).kd.entry 9 0) = true ∧ (desk ctx9).kd.entry 9 2 = .call 23 := by decide +kernel

theorem witness_KeyTimersAndImages :
    (composeImage (desk ctx9) 9 0 ctx9 (freshKey ⟨.off, .steady⟩) = ⟨.off, .steady⟩)
    ∧ (composeImage (desk ctx9) 9 1 ctx9 (freshKey ⟨.off, .steady⟩) ≠ ⟨.off, .steady⟩)
    ∧ (let x : KeyCtx := { freshKey ⟨.off, .steady⟩ with state := .timing, tapExpiry := some 5000 }
      (deskKey x).kd.key 9 0 = some x ∧ ((deskKey x).now - (5000 : Millis)).toNat < 2 ^ 31)
    ∧ (let x : KeyCtx := { freshKey ⟨.off, .steady⟩ with state := .latched, latchExpiry := some 4999, refusalExpiry := some 5000 }
      (deskKey x).kd.key 9 0 = some x) ∧ 2 ^ 31 ≤ (run.now - (5001 : Millis)).toNat := by decide +kernel

/-- Panel 9 with one entry on key 0: port 40 open toward its port 7, port 40's position RED, source 5 confirmed and 6 pending at
its destination 3, which panel 9 protects, source 8 its preset. -/
def shown (e : KeyEntry) (st : KeyState) : State :=
  let s := deskEntry e st false
  { s with
    te := { s.te with paths := [(7 * 96 + 40, path 40 7 true (.steps 0) .clean)] }
    tr := { s.tr with positions := [(23, ⟨some 41, ⟨true, false, false⟩, none, []⟩)] }
    rc := { s.rc with
      sources := [(6, ⟨some 23, none⟩), (9, ⟨some 23, none⟩)]
      dests := [(3, ⟨some 5, some 6, some ⟨some 9, .protect⟩⟩), (4, ⟨none, none, some ⟨none, .lock⟩⟩)]
      queue := [⟨3, 6, .party (.panel 9 2), .waiting⟩], fires := [⟨0, 63, .panel 9 5, 1, 0, 0, 0⟩], nextSerial := 1 } }
def shownCtx (dest : Option Nat) : Context := { ctx9 with dest := dest, preset := some 8 }
def shows (e : KeyEntry) (st : KeyState) (dest : Option Nat) : Image :=
  composeImage (shown e st) 9 0 (shownCtx dest) { freshKey ⟨.off, .steady⟩ with state := st }
/-- R53 to R55, a row each, the images as the tables give them. -/
theorem witness_KeyTimersAndImages_rows :
    let talk (p : Nat) : KeyEntry := .talk (.port p) .auto false 0 60
    (shows talk0 .idle none = ⟨.amber, .slow⟩ ∧ shows (talk 41) .idle none = ⟨.red, .wink⟩ ∧ shows (talk 42) .idle none = ⟨.off, .steady⟩
      ∧ shows talk0 .timing none = ⟨.green, .steady⟩ ∧ shows talk0 .unlatching none = ⟨.green, .slow⟩)
    ∧ (shows (.listen .live 0) .active none = ⟨.amber, .steady⟩ ∧ shows (.call 23) .held none = ⟨.amber, .fast⟩)
    ∧ (shows (.source 5) .idle (some 3) = ⟨.white, .steady⟩ ∧ shows (.source 6) .idle (some 3) = ⟨.red, .slow⟩
      ∧ shows (.source 8) .idle none = ⟨.white, .slow⟩ ∧ shows (.source 9) .idle none = ⟨.red, .wink⟩
      ∧ shows (.source 10) .idle (some 3) = ⟨.off, .steady⟩) := by decide +kernel
theorem witness_KeyTimersAndImages_routing :
    (shows (.dest 3) .idle (some 3) = ⟨.amber, .steady⟩ ∧ shows (.dest 4) .idle (some 3) = ⟨.red, .wink⟩
      ∧ shows (.dest 255) .idle (some 255) = ⟨.white, .steady⟩ ∧ shows (.dest 255) .idle none = ⟨.off, .steady⟩)
    ∧ (shows .take .idle (some 3) = ⟨.green, .slow⟩ ∧ shows .take .idle none = ⟨.off, .steady⟩)
    ∧ (shows .protect .idle (some 3) = ⟨.amber, .steady⟩ ∧ shows .protect .idle (some 4) = ⟨.red, .steady⟩
      ∧ shows .protect .idle (some 255) = ⟨.off, .steady⟩ ∧ shows .protect .idle none = ⟨.off, .steady⟩)
    ∧ (shows (.salvo 63) .idle none = ⟨.green, .slow⟩ ∧ shows (.salvo 0) .idle none = ⟨.off, .steady⟩) := by decide +kernel

/-! Routing -/

theorem witness_RoutingTablesAreSet :
    (Admitted .config 1 [0, 255, 3, 23, 0, 255] run ∧ presence [1, 2] [3, 23, 0, 255] = some [some 23, some 255])
    ∧ (okIf (fun p => p ≤ 23 || p == 255) (some 255) = true ∧ okIf (fun t => t ≤ 255 || t == 65535) (some 65535) = true)
    ∧ Admitted .live 1 [0, 255, 2] run ∧ flagOf (1 : Byte).toNat = some true := by decide +kernel
theorem witness_RoutingTablesAreSet_salvos :
    (Admitted .config 1 [63, 2, 1, 10, 2, 11] run ∧ [1, 10, 2, 11].length = 2 * (2 : Byte).toNat
      ∧ ((bytePairs [1, 10, 2, 11]).map (·.1)).Nodup)
    ∧ ¬ ((bytePairs [1, 10, 1, 11]).map (·.1)).Nodup ∧ Admitted .config 1 [64, 0] run ∧ run.rc.fires = []
    ∧ (∃ f ∈ [(⟨0, 63, .host 1, 1, 0, 0, 0⟩ : Fire)], f.salvo = 63)
    ∧ (let rc : Rc := { run.rc with salvos := [(0, List.replicate 1024 (0, 0))] }
      1024 + (rc.salvo 63).length < rc.poolUsed + 1) := by decide +kernel

theorem witness_RoutingTablesAreSet_protects :
    (Admitted .live 1 [0, 255, 1] run ∧ flagOf (0 : Byte).toNat = some false ∧ Admitted .live 1 [0, 0, 0] run)
    ∧ (let rc : Option Protect → Rc := fun p => { run.rc with dests := [(255, ⟨some 7, none, p⟩)] }
      (rc none).dest 255 = ⟨some 7, none, none⟩ ∧ ((rc (some ⟨some 9, .protect⟩)).dest 255).protect = some ⟨some 9, .protect⟩
        ∧ ((rc (some ⟨none, .protect⟩)).dest 255).protect ≠ some ⟨some 9, .protect⟩) := by decide +kernel

theorem tableInv_run (r : Reports) : TableInv (withReports r) where
  sorted := rfl
  ids := fun _ h => nomatch h
  results := fun _ h => nomatch h
  probe := fun _ _ _ e => nomatch e
  pointer := Nat.zero_le _
  dests := rfl
theorem witness_RoutingTablesAreSet_release :
    TableInv (withReports { Reports.empty with rcReleases := [12, 9] })
    ∧ 9 ∈ (withReports { Reports.empty with rcReleases := [12, 9] }).reports.rcReleases ∧ 9 ∉ run.reports.rcReleases :=
  ⟨tableInv_run _, by decide +kernel, by decide +kernel⟩

def waiting (d : Nat) : TakeEntry := ⟨d, 1, .party (.host 5), .waiting⟩
def sent (d : Nat) (e : Option Millis) : TakeEntry := ⟨d, 1, .party (.host 5), .sent e⟩
def queued (q : List TakeEntry) : Rc := { run.rc with queue := q }
theorem witness_TakesAreQueuedAndCancelled :
    (Admitted .live 1 [0, 255, 0, 255] run ∧ holdsAgainst (run.rc.dest 255).protect none = none ∧ run.rc.down = false)
    ∧ (holdsAgainst (some ⟨some 9, .protect⟩) none = some .protectHeld)
    ∧ ((queued ((List.range 32).map waiting)).queue.find? (fun e => e.dest == 255 && e.isWaiting) = none
      ∧ 32 ≤ (queued ((List.range 32).map waiting)).queue.length)
    ∧ ((queued [sent 3 none, waiting 3]).queue = [sent 3 none] ++ waiting 3 :: []
      ∧ (∀ y ∈ [sent 3 none], (y.dest == 3 && y.isWaiting) = false) ∧ (waiting 3).isWaiting = true)
    ∧ Admitted .live 1 [] run := by decide +kernel

theorem witness_FiresStartOrAreRefused :
    (Admitted .live 1 [63] run ∧ (63 : Byte).toNat ≤ 63 ∧ run.rc.salvo 63 = [])
    ∧ ((fireRc 29).salvo 3 ≠ [] ∧ (fireRc 29).down = false)
    ∧ (let all := (fireRc 30).salvo 3
      let pairs := all.filter fun p => (holdsAgainst ((fireRc 30).dest p.1).protect none).isNone
      pairs ≠ [] ∧ 32 - (fireRc 31).queue.length
        < (pairs.filter fun p => !((fireRc 31).queue.any fun e => e.dest == p.1 && e.isWaiting)).length) := by decide +kernel

/-- Salvo 3 defined, its one pair held back by a LOCK. -/
def lockedRc : Rc := { run.rc with salvos := [(3, [(40, 10)])], dests := [(40, ⟨none, none, some ⟨some 9, .lock⟩⟩)] }
theorem witness_FiresStartOrAreRefused_skipped :
    Admitted .live 1 [3] (withRc lockedRc) ∧ lockedRc.salvo 3 ≠ [] ∧ lockedRc.down = false
    ∧ ((lockedRc.salvo 3).filter fun p => (holdsAgainst (lockedRc.dest p.1).protect none).isNone) = []
    ∧ (∀ g ∈ lockedRc.fires, g.serial ≠ lockedRc.nextSerial) := by decide +kernel

theorem witness_FiresStartOrAreRefused_panel :
    run.rc.salvo 63 = []
    ∧ ((fireRc 29).salvo 3 ≠ [] ∧ { fireRc 29 with down := true }.down = true ∧ (fireRc 30).down = false)
    ∧ (let fresh := (((fireRc 29).salvo 3).filter fun p => (holdsAgainst ((fireRc 29).dest p.1).protect (some 12)).isNone).filter
          fun p => !(fireRc 29).queue.any fun e => e.dest == p.1 && e.isWaiting
      32 - (fireRc 30).queue.length < fresh.length ∧ fresh.length ≤ 32 - (fireRc 29).queue.length)
    ∧ (((lockedRc.salvo 3).filter fun p => (holdsAgainst (lockedRc.dest p.1).protect (some 9)).isNone) = []
      ∧ ∀ g ∈ lockedRc.fires, g.serial ≠ lockedRc.nextSerial)
    ∧ (∀ e ∈ (queued [sent 7 none]).queue, (e.dest == 7 && e.isWaiting) = false)
    ∧ ((queued [sent 7 none, waiting 7]).queue = [sent 7 none] ++ waiting 7 :: [] ∧ (waiting 7).isWaiting = true
      ∧ ∀ y ∈ [sent 7 none], (y.dest == 7 && y.isWaiting) = false)
    ∧ ([(⟨0, 3, .panel 9 5, 1, 0, 0, 0⟩ : Fire)].find? (·.serial == 0)).map (·.party) = some (.panel 9 5)
    ∧ ([(⟨0, 3, .host 6, 1, 0, 0, 0⟩ : Fire)].find? (·.serial == 0)).map (·.party) = some (.host 6) := by decide +kernel
/-- R48, R95: a panel's fire whose one pair a LOCK holds completes at its start, with that pair skipped. -/
theorem test_panel_fire_of_skipped_pairs :
    (startFire 3 (.panel 9 5) (withRc lockedRc)).reports.kdFires = [⟨9, 5, 3, 0, 0, 1⟩] := by decide +kernel

theorem witness_WindowAndOutcomes :
    (run.rc.down = false ∧ ({ queued [waiting 7] with queries := [] } : Rc).windowUsed < 2
      ∧ (queued [waiting 7]).sendable (waiting 7) = true ∧ (queued [sent 7 none, waiting 7]).sendable (waiting 7) = false ∧ holdsAgainst ((queued [waiting 7]).dest 7).protect none = none)
    ∧ (∀ y ∈ (queued []).queue, (queued []).sendable y = false) ∧ 2 ≤ (queued [sent 1 none, sent 2 none]).windowUsed
    ∧ (⟨5, 0x10⟩ ∈ [(⟨5, 0x10⟩ : Outstanding)])
    ∧ ([(⟨0, 3, .host 6, 1, 0, 0, 0⟩ : Fire)].find? (·.serial == 0) = some ⟨0, 3, .host 6, 1, 0, 0, 0⟩) := by decide +kernel

theorem witness_WindowAndOutcomes_choices :
    (fillPlace (withRc { queued [waiting 7] with queries := [] })).isSome = true
    ∧ (fillPlace (withRc (queued [sent 1 none, sent 2 none]))).isSome = false := by decide +kernel

def awaiting (q : List TakeEntry) (qs : List Query) (down : Bool) : Rc := { run.rc with queue := q, queries := qs, down := down }
theorem witness_RouterFramesAreTaken :
    (awaiting [] [] true).down = true ∧ run.rc.down = false
    ∧ ((awaiting [waiting 255, sent 255 none] [] false).queue = [waiting 255] ++ sent 255 none :: []
      ∧ (∀ y ∈ [waiting 255], (y.dest == (255 : Byte).toNat && y.isSent) = false)
      ∧ ((sent 255 none).dest == (255 : Byte).toNat && (sent 255 none).isSent) = true)
    ∧ (∃ q ∈ (awaiting [] [⟨0, none⟩] false).queries, q.dest = (0 : Byte).toNat)
    ∧ (∀ q ∈ (awaiting [] [⟨0, none⟩] false).queries, q.dest ≠ (255 : Byte).toNat) := by decide +kernel

theorem witness_RouterLineAndTimeouts :
    (({ queued [] with tx := [] } : Rc).tx = [])
    ∧ (let rc : Rc := { queued [sent 7 none] with tx := [.xset 7 1] }
      rc.tx = .xset 7 1 :: [] ∧ rc.queue = [] ++ sent 7 none :: [] ∧ (sent 7 none).state = .sent none)
    ∧ (run.rc.tx = .xask 0 false :: [.xask 1 false] ∧ RouterFrame.xask 0 false ∉ [RouterFrame.xask 1 false]
      ∧ run.rc.queries = [] ++ ⟨0, none⟩ :: [⟨1, none⟩])
    ∧ (let rc : Rc := { queued [] with down := true, nextProbe := some 5000, tx := [.xask 0 true] }
      rc.tx = .xask 0 true :: [] ∧ rc.nextProbe = some 5000)
    ∧ run.rc.nextProbe = none
    ∧ ((queued [sent 7 (some 4990)]).queue = [] ++ sent 7 (some 4990) :: [] ∧ (run.now - (4990 : Millis)).toNat < 2 ^ 31)
    ∧ (⟨7, some 4990⟩ ∈ (awaiting [] [⟨7, some 4990⟩] false).queries)
    ∧ (run.rc.consecutive < 2 ∧ 2 ≤ ({ run.rc with consecutive := 2 } : Rc).consecutive) := by decide +kernel

/-! Mixers, tally, lamps -/

/-- Five ties in a row, the fifth past the hop limit, and the met destination of a loop. -/
def tiedRc : Rc :=
  { run.rc with
    sources := [(0, ⟨some 23, some 1⟩), (7, ⟨none, some 2⟩)]
    dests := [(1, ⟨some 7, none, none⟩), (255, ⟨some 0, none, none⟩)] }
theorem witness_ResolutionGivesColours :
    ((run.mm.a.line = .silent) ∧ ({ run.mm.a with line := .stale } : MixerRec).line = .stale)
    ∧ ((tiedRc.dest 255).confirmed = some 0 ∧ (tiedRc.dest 2).confirmed = none ∧ (tiedRc.source 0).tie = some 1
      ∧ (tiedRc.source 9).tie = none ∧ (1 : Nat) ∉ [255] ∧ (255 : Nat) ∈ [1, 255])
    ∧ walk tiedRc (.dest 255) = ⟨[23], none, false⟩ := by decide +kernel
theorem witness_LitChannelsAndTargets :
    let ld : Ld := { run.ld with lamps := [(0, ⟨1, none, true, none⟩), (23, ⟨255, some 0, false, none⟩)] }
    (ld.lamp 0).exclusive = true ∧ (ld.lamp 0).manual = none ∧ (ld.lamp 23).manual = some 0 ∧ (ld.lamp 23).exclusive = false
    ∧ ((relightWith ⟨true, true, true⟩ ld 0).channel 0).lit = true ∧ ((relightWith ⟨true, true, true⟩ ld 0).channel 2).lit = false
    ∧ ((relightWith ⟨false, false, true⟩ ld 23).channel 70).lit = true ∧ (ld.house * 1 + 127) / 255 < ld.floor := by decide +kernel

def mixer (line : MixerLine) (stale wd : Option Millis) : State :=
  { run with mm := { run.mm with a := { run.mm.a with line := line, lastRecord := some 4000, staleExpiry := stale, withdrawExpiry := wd } } }
theorem witness_MixerRecordsAreTaken :
    5 < (6 : Byte).toNat ∧ ¬ 5 < (5 : Byte).toNat ∧ 1 < (2 : Byte).toNat ∧ ¬ 1 < (1 : Byte).toNat ∧ 3 < (4 : Byte).toNat
    ∧ ¬ 3 < (3 : Byte).toNat := by decide +kernel
/-- R100: a record with a flag of 2 is a bad frame. -/
theorem test_unclean_record :
    (match exec (.keyerRecord .a 3 2 7) run with
      | .next t => some (t.mm.a.badFrames, t.mm.a.records)
      | _ => none) = some (1, 0) := by decide +kernel
theorem witness_MixerLinesGoStaleAndWithdraw :
    ((mixer .current (some 5000) (some 9000)).mm.a.line = .current ∧ (run.now - (5000 : Millis)).toNat < 2 ^ 31
      ∧ 2 ^ 31 ≤ (run.now - (9000 : Millis)).toNat)
    ∧ ((mixer .stale none (some 5000)).mm.a.line = .stale) ∧ run.mm.a.line = .silent
    ∧ (Admitted .live 1 [BitVec.ofNat 8 (mixerCode .a), 7, 1, 0, 100, 1] (mixer .current (some 5000) (some 9000))
      ∧ presence [1, 2, 1] [7, 1, 0, 100, 1] = some [some 1, some 100, some 1] ∧ okIf (· ≤ 1) (some 1) = true
      ∧ presence [1, 2, 1] [1, 0] = some [some 0, none, none] ∧ presence [1, 2, 1] [0] = some [none, none, none]) := by decide +kernel

theorem witness_TallyCommandsAndReports :
    (Admitted .config 1 [BitVec.ofNat 8 (mixerCode .b), 64, 1, 0, 255] run ∧ bindingForm [1, 0, 255] = some (.dest 255)
      ∧ bindingInRange (.dest 255) = true ∧ run.tr.binding .b 64 ≠ .dest 255)
    ∧ (bindingForm [0] = some .none ∧ run.tr.binding .a 1 = .none)
    ∧ (Admitted .config 1 [23, 95] run ∧ (run.tr.position 23).port = none) ∧ Admitted .live 1 [23, 0] run
    ∧ (withReports { Reports.empty with trFromMm := [.b] }).reports.trFromMm = .b :: []
    ∧ (withReports { Reports.empty with trFromRc := 1 }).reports.trFromRc = 0 + 1
    ∧ run.reports.trFromMm = [] ∧ run.reports.trFromRc = 0
    ∧ (({ run.tr with positions := [(23, ⟨none, noColours, some 5000, []⟩)] } : Tr).position 23).hostCall = some 5000
    ∧ (run.tr.position 23).hostCall = none := by decide +kernel

/-- R125: the first key cause begins the call, the second reports nothing, the last removed ends it. -/
theorem test_key_calls :
    (addKeyCall 23 9 2 run).reports.ldCalls = [(23, true)]
    ∧ (addKeyCall 23 9 3 (addKeyCall 23 9 2 run)).reports.ldCalls = [(23, true)]
    ∧ (removeKeyCall 23 9 2 (addKeyCall 23 9 2 run)).reports.ldCalls = [(23, true), (23, false)] := by decide +kernel

theorem witness_RelightingAndLampSettings :
    (Admitted .live 1 [1, 255] run ∧ presence [1] [1, 255] = some [some 255])
    ∧ (Admitted (readbackClass 1 [23, 7, 255, 255, 255, 1]) 1 [23, 7, 255, 255, 255, 1] run
      ∧ presence [1, 2, 1] [7, 255, 255, 255, 1] = some [some 255, some 65535, some 1])
    ∧ (Admitted (readbackClass 0 [0]) 1 [0] run ∧ presence [1, 1, 1] [0] = some [none, none, none])
    ∧ (Admitted (readbackClass 0 [7, 0, 0, 0]) 1 [7, 0, 0, 0] run
      ∧ presence [1, 1, 1] [7, 0, 0, 0] = some [some 0, some 0, some 0]) := by decide +kernel

theorem witness_LampEventsTakeEffect :
    (withReports { Reports.empty with ldRelights := [[(0, noColours), (23, noColours)]] }).reports.ldRelights
        = [(0, noColours), (23, noColours)] :: [] ∧ run.reports.ldRelights = []
    ∧ takeFirst (fun (x : Nat × Bool) => x.1 == 23) [(0, true), (23, true)] = some ((23, true), [(0, true)])
    ∧ takeFirst (fun (x : Nat × Bool) => x.1 == 23) [(23, false)] = some ((23, false), [])
    ∧ ((({ run.ld with lamps := [(23, ⟨255, none, false, some (true, 5000)⟩)] } : Ld).lamp 23).phase = some (true, 5000)
      ∧ (run.now - (5000 : Millis)).toNat < 2 ^ 31)
    ∧ (run.ld.lamp 23).phase = none ∧ (run.now - run.ld.nextTick).toNat < 2 ^ 31
    ∧ 2 ^ 31 ≤ (run.now - ({ run.ld with nextTick := 5001 } : Ld).nextTick).toNat := by decide +kernel

/-! Talk paths and gains -/

theorem witness_PortsGroupsAndStandingPaths :
    (Admitted .config 1 [95, 3, 3, 24] run ∧ presence [1, 1, 1, 1, 1, 1, 1, 1] [3, 3, 24] = some [some 3, some 24, none, none, none, none, none, none]
      ∧ fieldAt [some 3, some 24, none, none, none, none, none, none] 6 ≠ some 95
      ∧ fieldAt [some 3, some 24, none, none, none, none, none, none] 7 = none)
    ∧ (Admitted .config 1 [95, 0x41, 2, 4] run
      ∧ presence [1, 1, 1, 1, 1, 1, 1, 1] [0x41, 2, 4] = some [some 2, none, none, none, none, none, some 4, none]
      ∧ PortKind.ofCode 2 ≠ .ifb ∧ fieldAt [some 2, none, none, none, none, none, some 4, none] 6 = some 4)
    ∧ (Admitted .config 1 [0, 0x41, 3, 0] run
      ∧ presence [1, 1, 1, 1, 1, 1, 1, 1] [0x41, 3, 0] = some [some 3, none, none, none, none, none, some 0, none]
      ∧ fieldAt [some 3, none, none, none, none, none, some 0, none] 6 = some (0 : Byte).toNat)
    ∧ okIf (· ≤ 4) (some 5) = false
    ∧ (Admitted .config 1 [31, BitVec.ofNat 8 [(95 : Byte), 0].length, 95, 0] run ∧ [(95 : Byte), 0].Nodup
      ∧ sortAsc [95, 0] ≠ run.te.group 31 ∧ sortAsc [] = run.te.group 31 ∧ hasRoom run.te 0 [] = true
      ∧ tsorted run.te.paths = true) := by decide +kernel
/-- A LATCHED talk key of panel 9 to group 0. -/
def groupKey : State :=
  let x : KeyCtx := { freshKey ⟨.off, .steady⟩ with state := .latched }
  { deskKey x with
    te := fullTe
    kd := { (deskKey x).kd with records := [(9, { panel9 with keys := [(0, .talk (.group 0) .latch false 0 0)] })] } }
theorem witness_PortsGroupsAndStandingPaths_checks :
    (Admitted .config 1 [100] run ∧ Admitted .config 1 [100, 1] run ∧ 95 < (100 : Byte).toNat)
    ∧ (Admitted .config 1 [95] run ∧ Admitted .config 1 [95, 1] run ∧ ([1] : List Byte) ≠ [0] ∧ ([] : List Byte) ≠ [0])
    ∧ (presence [1, 1, 1, 1, 1, 1, 1, 1] [0x40, 96] = some [none, none, none, none, none, none, some 96, none]
      ∧ okIf (indexUpTo 95) (some 96) = false ∧ okIf (indexUpTo 23) (some 24) = false ∧ okIf (indexUpTo 23) (some 255) = true)
    ∧ (Admitted .config 1 [1, 1, 5] run ∧ presence [1, 1, 1, 1, 1, 1, 1, 1] [1, 5] = some [some 5, none, none, none, none, none, none, none])
    ∧ tsorted [(193, path 1 2 true (.steps 0) .clean), (196, path 4 2 true (.steps 0) .clean)] = true := by decide +kernel
/-- A talk key of panel 9 from port 7 holds the cause of (7, 40), whose level is port 40's receive level. -/
def receiving : State :=
  { desk ctx9 with te := { run.te with paths := [(3847, { path 7 40 true (.steps 0) .clean with causes := [⟨.key 9 0, 0⟩] })] } }
theorem witness_PortsGroupsAndStandingPaths_update :
    (Admitted .config 1 [40, 2, 9] receiving
      ∧ presence [1, 1, 1, 1, 1, 1, 1, 1] [2, 9] = some [none, some 9, none, none, none, none, none, none])
    ∧ ((receiving.te.port 40).update [none, some 9, none, none, none, none, none, none]).receive ≠ (receiving.te.port 40).receive
    ∧ readsReceive receiving.kd 7 ⟨.key 9 0, 0⟩ = true ∧ readsReceive receiving.kd 8 ⟨.key 9 0, 0⟩ = false
    ∧ tfind receiving.te.paths 3847 = some { path 7 40 true (.steps 0) .clean with causes := [⟨.key 9 0, 0⟩] } := by decide +kernel
/-- R150: a key whose cause stands over a RESET records one cause on that pair, its new one. -/
theorem test_one_cause_of_an_origin :
    let s := { receiving with te := { receiving.te with ports := [(40, { plainPort with receive := 9 })] } }
    ((tfind (activateKey 9 0 .latched 60 talk0 (.port 40) s).te.paths 3847).map fun e => (e.causes, e.level))
      = some ([⟨.key 9 0, 9⟩], 9) := by decide +kernel
/-- R143, R144: levels, trims and depths are clamped, and a port that is no longer IFB has duck 0 and no program port. -/
theorem test_port_update :
    ({ plainPort with kind := .ifb, duck := .full, program := some 4 } : PortRec).update
      [some 1, some 0x80, some 0x7F, some 0x80, some 61, none, none, none]
        = { kind := .headset, receive := -80, inTrim := 24, outTrim := -24, dim := 60, duck := .steps 0, program := none, guardPos := none }
    ∧ (plainPort.update [some 3, none, none, none, none, some 81, some 255, none]).duck = .steps 80 := by decide +kernel
theorem witness_PortsGroupsAndStandingPaths_group :
    hasRoom groupKey.te ((groupKey.te.paths.map fun kv => kv.2.causes.countP (groupGone (groupWould groupKey 0 [40]) kv.1)).sum)
      ((groupWould groupKey 0 [40]).flatMap fun w => lacking groupKey.te (ofKey w.1 w.2.1) w.2.2) = false := by decide +kernel
theorem witness_PortsGroupsAndStandingPaths_keys :
    tsorted groupKey.kd.contexts = true ∧ (∀ kv ∈ groupKey.kd.contexts, tsorted kv.2.keys = true)
    ∧ (groupWould groupKey 0 [40]).map (fun w => (w.1, w.2.1)) = [(9, 0)] ∧ groupWould groupKey 1 [40] = [] := by decide +kernel
theorem witness_PortsGroupsAndStandingPaths_refused :
    (Admitted .config 1 [32, 1, 5] run ∧ 31 < (32 : Byte).toNat) ∧ (Admitted .config 1 [31, 1, 96] run ∧ 95 < (96 : Byte).toNat)
    ∧ (Admitted .config 1 [31, 2, 5] run ∧ [(5 : Byte)].length ≠ (2 : Byte).toNat)
    ∧ (Admitted .config 1 [31, 2, 5, 5] run ∧ ¬ [(5 : Byte), 5].Nodup)
    ∧ (Admitted .config 1 (31 :: 33 :: (List.range 33).map (BitVec.ofNat 8)) run
      ∧ ((List.range 33).map (BitVec.ofNat 8)).length = (33 : Byte).toNat)
    ∧ (Admitted .config 1 [96, 0, 0] run ∧ Admitted .config 1 [0, 96, 0] run) := by decide +kernel
theorem witness_PortsGroupsAndStandingPaths_standing :
    (Admitted .config 1 [95, 0, 0x80] run ∧ (95 : Byte) ≠ 0)
    ∧ (tfind run.te.standing 0 = none ∧ hasRoom run.te 0 [⟨95, 0, .standing 0, -80⟩] = true
      ∧ hasRoom fullTe 0 [⟨95, 0, .standing 0, -80⟩] = false)
    ∧ (∀ k < 128, (tfind (List.range' 0 128 |>.map fun k => (k, (⟨1, 2, 0⟩ : Standing))) k).isSome = true)
    ∧ (Admitted .config 1 [127] run ∧ tfind run.te.standing 127 = none)
    ∧ (tfind [(127, (⟨1, 2, 0⟩ : Standing))] 127).isSome = true := by decide +kernel

/-- Program 4 into the IFB port 2, with a second open path from port 1. -/
def ifbTe (duck : Duck) : Te :=
  { run.te with
    ports := [(2, { plainPort with kind := .ifb, duck := duck, program := some 4 })]
    paths := [(2 * 96 + 1, path 1 2 true (.steps 0) .clean), (2 * 96 + 4, path 4 2 true (.steps 0) .clean)] }
/-- What a table finds stands in it. -/
theorem mem_of_tfind {α : Type} {t : Tab α} {i : Nat} {x : α} (h : tfind t i = some x) : (i, x) ∈ t := by
  induction t with
  | nil => cases h
  | cons kv t ih =>
    simp only [tfind] at h
    obtain ⟨k, v⟩ := kv
    split at h <;> simp_all

/-- An UP line with the GAIN of the SENT entry of pair (4, 2) outstanding, the DIRTY entry of pair (1, 2) in its queue, and the removal
report of pair (8, 2) waiting. -/
def pathInv : State :=
  { run with
    te := { run.te with
      standing := [(0, ⟨1, 2, 0⟩)]
      paths := [(193, path 1 2 true (.steps 0) .dirty), (196, path 4 2 false .mute .sent), (200, path 8 2 false .mute .clean)] }
    reports := { Reports.empty with teFromMl := [⟨200, false⟩] }
    ml := { run.ml with line := .up, muteAll := none, levelQueue := [193], outstanding := [⟨4, 2, .mute, some 5010⟩], tx := [] } }
theorem pathTableInv_pathInv : PathTableInv pathInv where
  sorted := rfl
  pairs := by decide +kernel
  causes := by decide +kernel
  entries := by decide +kernel
  opened := by decide +kernel
  standing := by decide +kernel
  slots := by decide +kernel
  outstanding := by decide +kernel
  muteAll := by decide +kernel
  queued := fun _ k e h =>
    (by decide +kernel : ∀ kv ∈ pathInv.te.paths, kv.2.sync = .dirty →
      if kv.2.current = .mute then kv.1 ∈ pathInv.ml.muteQueue ∧ kv.1 ∉ pathInv.ml.levelQueue
      else kv.1 ∈ pathInv.ml.levelQueue ∧ kv.1 ∉ pathInv.ml.muteQueue) (k, e) (mem_of_tfind h)
  idle := by decide +kernel
  sent := by decide +kernel
  removals := by decide +kernel
theorem witness_PathTableInvariantKept : PathTableInv pathInv ∧ ∃ t, step pathInv = .next t :=
  ⟨pathTableInv_pathInv, _, rfl⟩

/-- The same with a SET-PORT of the output trim of the listener waiting. -/
def trimming : State := { pathInv with pending := [.setPort 1 [2, 8, 5]] }
theorem witness_TargetsFollowTheirInputs :
    SettingsInRange trimming ∧ PathTableInv trimming ∧ TargetInv trimming ∧ ∃ t, step trimming = .next t :=
  ⟨by constructor <;> decide +kernel,
   { sorted := pathTableInv_pathInv.sorted, pairs := pathTableInv_pathInv.pairs, causes := pathTableInv_pathInv.causes
     entries := pathTableInv_pathInv.entries, opened := pathTableInv_pathInv.opened, standing := pathTableInv_pathInv.standing
     slots := pathTableInv_pathInv.slots, outstanding := pathTableInv_pathInv.outstanding, muteAll := pathTableInv_pathInv.muteAll
     queued := pathTableInv_pathInv.queued, idle := pathTableInv_pathInv.idle, sent := pathTableInv_pathInv.sent
     removals := pathTableInv_pathInv.removals },
   by constructor <;> decide +kernel, _, rfl⟩
theorem witness_OneCauseOfAnOrigin :
    SettingsInRange trimming ∧ PathTableInv trimming ∧ TargetInv trimming ∧ CauseInv trimming ∧ ∃ t, step trimming = .next t :=
  let ⟨settings, table, targets, _⟩ := witness_TargetsFollowTheirInputs
  ⟨settings, table, targets, by constructor <;> decide +kernel, _, rfl⟩
/-- R162, R163: the trim moves the target of the OPEN entry at the event of the SET-PORT. -/
theorem test_target_follows_trim :
    (match step trimming with
      | .next t => (tfind t.te.paths 193).map (·.target)
      | _ => none) = some (.steps 5) := by decide +kernel

/-- Panel 9, its keys 0 and 3 dirty with one of them carried, three cargos stored and a reservation held. -/
def busInv : State :=
  let s := desk ctx9
  let l : Link := ⟨none :: List.replicate 7 (some ⟨.off, .steady⟩), [0, 3], 255, some 4⟩
  { s with
    pbc := { hubTurn with
      roster := [(9, ⟨some info9, .member l 0 none⟩)], work := .cargo 9 [(3, ⟨.off, .steady⟩)]
      inbound := List.replicate 3 ⟨9, []⟩, reserved := some (9, .window) } }
theorem witness_PanelBusInvariantKept : PanelBusInv busInv ∧ ∃ t, step busInv = .next t := by
  refine ⟨?_, _, rfl⟩
  refine
    { tables :=
        { sorted := rfl, ids := by decide +kernel, results := (fun _ h => nomatch h), probe := (fun _ _ _ e => nomatch e)
          pointer := Nat.zero_le _, dests := rfl }
      own := by decide +kernel, ownResult := (fun _ h => nomatch h), ownProbe := (fun _ _ _ e => nomatch e)
      quiet := by decide +kernel, slots := by decide +kernel, links := ?_ }
  intro n e link stall ask he hp
  have hm := mem_of_tfind he
  simp only [busInv, List.mem_singleton, Prod.mk.injEq] at hm
  obtain ⟨rfl, rfl⟩ := hm
  cases hp
  refine
    { keys := ⟨info9, rfl, rfl⟩, ascending := by decide +kernel, below := by decide +kernel, carried := ?_, dirty := ?_ }
  · intro c hc
    cases hc
    decide +kernel
  · intro _ k x hx hk hne
    have all : ∀ k < 8, ∀ i, (busInv.kd.key 9 k).map (·.image) = some i →
        (none :: List.replicate 7 (some (⟨.off, .steady⟩ : Image)))[k]? ≠ some (some i) → k ∈ [0, 3] := by
      have image : ∀ k < 8, (busInv.kd.key 9 k).map (·.image) = some ⟨.off, .steady⟩ := by decide +kernel
      intro k hk i hi
      rw [image k hk] at hi
      cases hi
      revert k
      decide +kernel
    exact all k hk x.image (by rw [hx]; rfl) hne

/-- Two takes SENT, one WAITING for a destination of theirs, one a fire's. -/
def queueInv : State :=
  withRc { run.rc with
    dests := [(1, ⟨none, some 1, none⟩), (2, ⟨some 9, some 1, none⟩)]
    queue := [sent 1 none, sent 2 (some 5050), waiting 1, ⟨7, 3, .fire 4, .waiting⟩]
    fires := [⟨4, 63, .panel 9 5, 1, 0, 0, 0⟩], nextSerial := 5, queries := [] }
theorem witness_RouterQueueInvariantKept : RouterQueueInv queueInv ∧ ∃ t, step queueInv = .next t :=
  ⟨{ length := by decide +kernel
     waiting := by decide +kernel
     sent := by decide +kernel
     pending := by decide +kernel
     window := by decide +kernel
     filled := by decide +kernel
     serials := by decide +kernel
     distinct := by decide +kernel
     ascending := by decide +kernel
     requesters := by
      intro e he n hn
      have : ∀ e ∈ queueInv.rc.queue, (match e.requester with
        | .fire m => decide (m < queueInv.rc.nextSerial)
        | .party _ => true) = true := by decide +kernel
      have h := this e he
      rw [hn] at h
      simpa using h }, _, rfl⟩

theorem witness_TargetGainBySteps :
    (((ifbTe (.steps 24)).port 2).kind = .ifb ∧ ((ifbTe (.steps 24)).port 2).program = some 4
      ∧ ∃ kv ∈ (ifbTe (.steps 24)).paths, kv.2.listener = 2 ∧ kv.2.talker ≠ 4 ∧ kv.2.opened = true)
    ∧ ((ifbTe .full).port 2).duck = .full ∧ (path 4 2 true .mute .clean).opened = true ∧ (path 4 2 false .mute .clean).opened = false
    ∧ (let te : Te := { run.te with ports := [(3, { plainPort with kind := .speaker, guardPos := some 23 })], guards := [23] }
      (te.port 3).kind = .speaker ∧ (te.port 3).guardPos = some 23 ∧ 23 ∈ te.guards) := by decide +kernel

theorem witness_PathEntriesFollowTheirCauses :
    tfind (ifbTe .full).paths 193 = some (path 1 2 true (.steps 0) .clean) ∧ tfind (ifbTe .full).paths 5 = none
    ∧ (([⟨1, 2, .standing 7, 3⟩] : List NewCause).filter (·.key == 193)).map (·.cause) ≠ [] := by decide +kernel

theorem witness_PathEntriesFollowTheirCauses_reports : tsorted pathInv.te.paths = true := by decide +kernel
/-- R158, R173: on a DOWN line an entry that loses its cause is reported to KD as no longer OPEN and to TE as removed. -/
theorem test_closing_is_reported :
    let t := moveCauses (fun _ _ => true) [] { pathInv with ml := { pathInv.ml with line := .down } }
    t.reports.kdFromTe = [.path 1 2] ∧ t.reports.teFromMl = [⟨200, false⟩, ⟨193, false⟩] := by decide +kernel

/-- A LATCHED talk key of panel 9 to LIVE. -/
def liveKey : State :=
  { groupKey with kd := { groupKey.kd with records := [(9, { panel9 with keys := [(0, .talk .live .auto false 0 60)] })] } }
theorem witness_ReportsToTeAreTaken_keys :
    tsorted liveKey.kd.contexts = true ∧ (∀ kv ∈ liveKey.kd.contexts, tsorted kv.2.keys = true)
    ∧ liveKeys liveKey.kd = [(9, 0, 7, .talk .live .auto false 0 60)] ∧ liveKeys groupKey.kd = [] := by decide +kernel

theorem witness_ReportsToTeAreTaken :
    let at' (r : Reports) : Reports := (withReports r).reports
    (at' { Reports.empty with teFromTr := [⟨some [95], []⟩] }).teFromTr = ⟨some [95], []⟩ :: []
    ∧ (at' { Reports.empty with teFromTr := [⟨none, [(23, true), (0, false)]⟩] }).teFromTr = ⟨none, [(23, true), (0, false)]⟩ :: []
    ∧ ([(23, true), (0, false)].map (·.1)).Nodup ∧ run.reports.teFromTr = [] ∧ run.reports.teFromMl = []
    ∧ (at' { Reports.empty with teFromMl := [⟨193, false⟩] }).teFromMl = ⟨193, false⟩ :: []
    ∧ (at' { Reports.empty with teFromMl := [⟨193, true⟩] }).teFromMl = ⟨193, true⟩ :: []
    ∧ (tfind [(193, path 1 2 false .mute .clean)] 193 = some (path 1 2 false .mute .clean)
      ∧ (path 1 2 false .mute .clean).opened = false) := by decide +kernel
/-- A removal report of the CLOSED pair (1, 2) waits, and the pair gets a cause again. -/
def reopening : State :=
  { withTe { run.te with paths := [(193, path 1 2 false .mute .clean)] } with
    reports := { Reports.empty with teFromMl := [⟨193, false⟩] } }
theorem witness_ReportsToTeAreTaken_reopened :
    (⟨193, false⟩ : Removal) ∈ reopening.reports.teFromMl
    ∧ (tfind (changeCauses (fun _ _ => false) [⟨1, 2, ⟨.standing 0, 0⟩⟩] reopening.te.paths) 193).any (·.opened) = true
    ∧ (hasRoom fullTe 0 [⟨3, 4, ⟨.live 9 0, 0⟩⟩] = false ∧ hasRoom run.te 0 [⟨3, 4, ⟨.live 9 0, 0⟩⟩] = true) := by decide +kernel

/-- The pair (1, 2), its target gain 0 by R163, with the target, the current gain and the synchronisation given. -/
def retargeting (target cur : Gain) (sync : Sync) : State :=
  withTe { run.te with paths := [(193, { path 1 2 true cur sync with target := target })] }
theorem witness_GainsRampAndAreSent_retarget :
    (∀ target ∈ [Gain.mute, .steps 0, .steps 24], ∀ cur ∈ [Gain.mute, .steps 0, .steps (-80)], ∀ sync ∈ [Sync.clean, .dirty, .sent],
      let s := retargeting target cur sync
      (tfind s.te.paths 193).map (fun e => (targetGain s.te e, e.target, e.current, e.sync)) = some (.steps 0, target, cur, sync))
    ∧ (let s := withTe { run.te with paths := [(193, path 1 2 false (.steps 0) .clean)] }
      (tfind s.te.paths 193).map (fun e => (targetGain s.te e, e.current)) = some (.mute, .steps 0))
    ∧ (withMl { run.ml with line := .up }).ml.line = .up ∧ run.ml.line ≠ .up := by decide +kernel

theorem witness_GainsRampAndAreSent :
    (run.now - run.te.nextTick).toNat < 2 ^ 31 ∧ 2 ^ 31 ≤ (run.now - ({ run.te with nextTick := 5001 } : Te).nextTick).toNat
    ∧ (let e : PathEntry := { path 1 2 true (.steps 0) .clean with target := .steps 24 }
      tfind [(193, e)] 193 = some e ∧ e.current = .steps 0 ∧ e.target = .steps 24)
    ∧ (tfind pathInv.te.paths 192 = none ∧ (tfind pathInv.te.paths 196).map (·.current) = some .mute ∧ (196 : Nat) ≠ 193)
    ∧ (Admitted (readbackClass 0 [7, 0, 255, 0]) 1 [7, 0, 255, 0] run
      ∧ presence [1, 1, 1] [7, 0, 255, 0] = some [some 0, some 255, some 0])
    ∧ run.ml.line ≠ .up
    ∧ (let ml : Ml := { run.ml with line := .up, levelQueue := [193] }
      ml.line = .up ∧ ml.outstanding.length < 4 ∧ ml.muteQueue = [] ∧ ml.levelQueue = 193 :: []) := by decide +kernel

theorem witness_GainsRampAndAreSent_sends :
    (sendOneGain { pathInv with ml := { pathInv.ml with outstanding := [] } }).isSome = true
    ∧ (sendOneGain { pathInv with ml := { pathInv.ml with levelQueue := [] } }).isSome = false := by decide +kernel

def gaining : Ml := { run.ml with line := .up, muteAll := none, outstanding := [⟨1, 2, .steps 0, some 5000⟩], tx := [] }
theorem witness_MatrixFramesAreTaken :
    (95 < (96 : Byte).toNat) ∧ ((95 : Byte).toNat ≤ 95 ∧ ∀ o ∈ gaining.outstanding, o.is 95 95 = false)
    ∧ (gaining.outstanding.find? (·.is (2 : Byte).toNat (1 : Byte).toNat) = some ⟨1, 2, .steps 0, some 5000⟩
      ∧ tfind (ifbTe .full).paths ((2 : Byte).toNat * 96 + (1 : Byte).toNat) = some (path 1 2 true (.steps 0) .clean)
      ∧ (path 1 2 true (.steps 0) .clean).current = .steps 0 ∧ (path 1 2 true (.steps 9) .clean).current ≠ .steps 0)
    ∧ ({ gaining with line := .down } : Ml).line = .down ∧ gaining.line ≠ .down
    ∧ gaining.muteAll = none ∧ run.ml.muteAll ≠ none := by decide +kernel

theorem witness_MatrixTimersAndSending :
    gaining.tx = [] ∧ ({ gaining with tx := [.ping] } : Ml).tx = .ping :: []
    ∧ (({ gaining with tx := [.gain 2 1 (.steps 0), .gain 2 3 .mute] } : Ml).tx = .gain 2 1 (.steps 0) :: [.gain 2 3 .mute]
      ∧ ∀ f ∈ [MatrixFrame.gain 2 3 .mute], f.isGain 2 1 = false)
    ∧ (run.ml.tx = .muteAll :: [] ∧ run.ml.muteAll = some none)
    ∧ (gaining.outstanding.find? (·.is 2 1) = some ⟨1, 2, .steps 0, some 5000⟩ ∧ (run.now - (5000 : Millis)).toNat < 2 ^ 31)
    ∧ (∀ o ∈ gaining.outstanding, o.is 2 9 = true → o.expiry = none)
    ∧ (gaining.consecutive < 7 ∧ 7 ≤ ({ gaining with consecutive := 7 } : Ml).consecutive ∧ gaining.line = .up)
    ∧ (let ml : Ml := { run.ml with line := .down, nextPing := some 5000 }
      ml.line = .down ∧ ml.nextPing = some 5000)
    ∧ (({ run.ml with muteAll := some (some 5000) } : Ml).muteAll = some (some 5000)) := by decide +kernel

/-! The profile -/

theorem witness_ProfileOperationsStart :
    Admitted .profile 1 [] run ∧ imageLength run ≤ 32768 ∧ run.pbc.node = .asleep
    ∧ (Admitted .profile 1 [] (withPbc hub) ∧ hub.node ≠ .asleep ∧ hub.node ≠ .listening) := by decide +kernel
theorem witness_ProfileOperationsStart_departed :
    let s : State := { deskEntry (.call 23) .held true with
      pbc := lone, reports := { Reports.empty with kdPanels := [.departure 9] } }
    Admitted .profile 1 [] s ∧ s.pbc.node = .listening ∧ (tfind s.kd.contexts 9).isSome = true
    ∧ s.kd.keyState 9 0 ≠ .idle ∧ s.kd.entry 9 0 = .call 23 ∧ run.reports.kdPanels = [] := by decide +kernel
/-- Records past what a run can hold, for the refusal of R198. -/
def crowded : State := { run with kd := { run.kd with records := [(1, ⟨none, .direct, List.replicate 4100 (0, talk0)⟩)] } }
theorem witness_ProfileOperationsStart_long : Admitted .profile 1 [] crowded ∧ 32768 < imageLength crowded := by decide +kernel

def walk0 (phase : WalkPhase) : Walk := ⟨none, phase, 0, 0, 0, 0⟩
def walking (phase : WalkPhase) (t : Option Transfer) : Pm := { run.pm with op := .walking (walk0 phase), transfer := t }
def saving (phase : SavePhase) (t : Option Transfer) : Pm := { run.pm with op := .saving ⟨3, phase, 9⟩, transfer := t }
theorem witness_RequestChecksInOrder_modes :
    State.reset.cp.mode = .loading ∧ (resetting [.pm]).cp.resetting ≠ none ∧ (run.cp.mode = .run ∧ run.cp.resetting = none)
    ∧ (withPm (saving .header none)).pm.op = .saving ⟨3, .header, 9⟩
    ∧ (withPm { run.pm with op := .walking { walk0 .header with request := some 3 } }).pm.op
        = .walking { walk0 .header with request := some 3 }
    ∧ ({ walk0 .header with request := some 3 } : Walk).request ≠ none ∧ run.pm.op = .idle := by decide +kernel
theorem witness_TransfersCompleteOrFail_retries :
    (({ saving .header (some (.write 0 [1, 2])) with tried := 5000 } : Pm).tried = run.now
      ∧ ({ saving .header (some (.write 0 [1, 2])) with tried := 4999 } : Pm).tried ≠ run.now)
    ∧ ([1, 2].length ≤ 2 ∧ 1 < [1, 2].length ∧ (Transfer.read 32759 9).outside = false) := by decide +kernel
theorem witness_TransfersCompleteOrFail :
    run.pm.transfer = none
    ∧ ((walking .header (some (.read 32760 9))).transfer = some (.read 32760 9) ∧ (Transfer.read 32760 9).outside = true)
    ∧ ((walking .header (some (.read 0 9))).op = .walking (walk0 .header) ∧ 0 + 9 ≤ 32768
      ∧ headerOffset (readBytes run.pm.memory 0 9) = none
      ∧ headerOffset (readBytes (writeBytes [] 0 goodHeader) 0 9) = some 9)
    ∧ ((walking (.head 9) (some (.read 9 7))).op = .walking (walk0 (.head 9)) ∧ (walking (.body 9 []) none).op = .walking (walk0 (.body 9 [])))
    ∧ ((saving .spoil (some (.write 32767 [0]))).transfer = some (.write 32767 [0]) ∧ 32767 + [(0 : Byte)].length ≤ 32768)
    ∧ ((saving (.sect 11 [] 40) none).op = .saving ⟨3, .sect 11 [] 40, 9⟩ ∧ (saving (.sect 10 [7] 40) none).op = .saving ⟨3, .sect 10 [7] 40, 9⟩)
    ∧ ((saving .header none).op = .saving ⟨3, .header, 9⟩ ∧ (⟨3, 0x2A⟩ : Outstanding) ∈ [(⟨3, 0x2A⟩ : Outstanding)])
    ∧ (run.pm.unacked < 20 ∧ 20 ≤ ({ run.pm with unacked := 20 } : Pm).unacked) := by decide +kernel

theorem witness_WalkGoesOnAndEnds_reports :
    (withReports { Reports.empty with trFromRc := 1 }).reports.trFromRc = 0 + 1 ∧ run.reports.trFromRc = 0
    ∧ (withReports { Reports.empty with trFromMm := [.a] }).reports.trFromMm = .a :: [] ∧ run.reports.trFromMm = [] := by decide +kernel
theorem witness_EntriesAreApplied_forms :
    (entryLength 1 0 [] = some 26 ∧ entryLength 10 0 [23] = some 2) ∧ (0xFE : Byte) ≠ 0xFF ∧ (2 : Byte) ≠ 3 ∧ (0 : Byte) ≠ 1
    ∧ (3 : Byte) ≠ 7 := by decide +kernel
theorem witness_WalkGoesOnAndEnds :
    (walk0 .header).request = none ∧ ({ walk0 .header with request := some 3 } : Walk).request = some 3
    ∧ (32 ≤ ({ walk0 .header with reached := 32 } : Walk).reached ∧ (walk0 .header).reached < 32)
    ∧ (8 < 9 ∧ 32768 < 32762 + 7 ∧ 32761 + 7 ≤ 32768)
    ∧ 32768 < 9 + 7 + beNat (([5, 0xFF, 0xFF, 0, 0, 0, 0].drop 1).take 2)
    ∧ (32752 + 7 + beNat (([5, 0, 9, 0, 0, 0, 0].drop 1).take 2) ≤ 32768 ∧ beNat (([5, 0, 9, 0, 0, 0, 0].drop 1).take 2) ≠ 0)
    ∧ (32761 + 7 ≤ 32768 ∧ beNat (([5, 0, 0, 0, 0, 0, 0].drop 1).take 2) = 0)
    ∧ (let head : List Byte := [12, 0, 0, 0, 0] ++ crcBytes [12, 0, 0, 0, 0]
      head.drop 5 = crcBytes (head.take 5 ++ []) ∧ beNat (head.take 1) = 12)
    ∧ (let head : List Byte := [5, 0, 1, 0, 0] ++ crcBytes [5, 0, 1, 0, 0, 9]
      head.drop 5 = crcBytes (head.take 5 ++ [9]) ∧ head.drop 5 ≠ crcBytes (head.take 5 ++ [8]) ∧ beNat (head.take 1) = 5)
    ∧ (entryLength 10 0 [23, 95] = some 2 ∧ entryLength 2 0 [] = none ∧ entryLength 4 0 [1] = some 4)
    ∧ (walk0 (.entries 10 [23, 95] 0 0)).phase = .entries 10 [23, 95] 0 0 := by decide +kernel

/-- R128: where LOADING ends, TR has taken MM's report that waits. -/
theorem test_walk_end_takes_mixer_reports :
    (endWalk (walk0 .header) .course (withReports { Reports.empty with trFromMm := [.a] })).reports.trFromMm = []
    ∧ (endWalk (walk0 .header) .course (withReports { Reports.empty with trFromMm := [.a] })).tr.resolutions = 1 := by decide +kernel

/-- R206: the offsets of a save's first two sections, and the SETTINGS record of power-on. -/
theorem test_settings_section :
    sectionBody run 1 = [0, 0, 0, 200, 0, 4, 4, 1, 0xF4, 32, 30, 1, 0x2C, 0, 50, 0, 1, 0xF4, 5, 0, 1, 0xF4, 5, 20, 6, 10]
    ∧ (match (beginSection 0 9 ⟨3, .spoil, 9⟩ run).pm.transfer with
        | some (.write a b) => some (a, b.take 5)
        | _ => none) = some (9, [1, 0, 26, 0, 42]) := by decide +kernel

theorem witness_EntriesAreApplied_requests :
    (Admitted .config 1 [95, 0xFF, 0, 0, 0, 0, 0, 0, 0xFF, 0xFF] run ∧ ([95, 0xFF] : List Byte)[1]? = some 0xFF)
    ∧ (Admitted .config 1 [31, 1, 95] run ∧ Admitted .config 1 [63, 0, 95, 1] run ∧ Admitted .config 1 [9, 31, 0] run)
    ∧ (Admitted .config 1 [0, 255, 3, 255, 255, 255] run ∧ ([0, 255, 3] : List Byte)[2]? = some 3)
    ∧ (Admitted .live 1 [0, 255, 1] run ∧ (1 : Byte).toNat ≤ 1 ∧ 1 < (2 : Byte).toNat) := by decide +kernel
theorem witness_EntriesAreApplied_lamps :
    (Admitted .config 1 [1, 64, 3] run ∧ Admitted .config 1 [23, 255] run ∧ Admitted .config 1 [63, 0] run)
    ∧ (Admitted .live 1 [1, 255] run ∧ ([1, 255] : List Byte)[0]? = some 1)
    ∧ (Admitted .config 1 [7, 0, 0, 0] run ∧ Admitted .config 1 [23, 7, 0, 0, 0, 1] run ∧ ([23, 7] : List Byte)[1]? = some 7) := by
  decide +kernel
theorem witness_EntriesAreApplied_records :
    (([95, 0] : List Byte).Nodup ∧ (∀ m ∈ ([95, 0] : List Byte), m.toNat ≤ 95) ∧ (31 : Byte).toNat ≤ 31
      ∧ hasRoom run.te ((run.te.paths.map fun kv => kv.2.causes.countP (groupGone (groupWould run 31 [0, 95]) kv.1)).sum)
        ((groupWould run 31 [0, 95]).flatMap fun w => lacking run.te (ofKey w.1 w.2.1) w.2.2) = true)
    ∧ (1 ≤ (63 : Byte).toNat ∧ (63 : Byte).toNat ≤ 63 ∧ (95 : Byte).toNat ≤ 95)
    ∧ (keyForm [8, 23] = some (.call 23) ∧ keyInRange (.call 23) = true ∧ tfind run.kd.records 9 = none
      ∧ (tfind (desk ctx9).kd.records 9).isSome = true)
    ∧ (bindingForm [1, 0, 255] = some (.dest 255) ∧ bindingInRange (.dest 255) = true ∧ (64 : Byte).toNat ≤ 64)
    ∧ ((bytePairs [1, 10, 2, 11]).length ≤ 64 ∧ [1, 10, 2, 11].length = 2 * (bytePairs [1, 10, 2, 11]).length
      ∧ ((bytePairs [1, 10, 2, 11]).map (·.1)).Nodup ∧ run.rc.fires = []
      ∧ run.rc.poolUsed + (bytePairs [1, 10, 2, 11]).length ≤ 1024 + (run.rc.salvo 63).length) := by decide +kernel
theorem witness_EntriesAreApplied_port :
    let fs := [some 0, some 0, some 0, some 0, some 0, some 0, some 255, some 255]
    presence [1, 1, 1, 1, 1, 1, 1, 1] [0xFF, 0, 0, 0, 0, 0, 0, 255, 255] = some fs ∧ portFits 95 .panel fs = true
    ∧ okIf (indexUpTo 95) (fieldAt fs 6) = true ∧ okIf (indexUpTo 23) (fieldAt fs 7) = true
    ∧ okIf (· ≤ 4) (fieldAt fs 0) = true := by decide +kernel
theorem witness_EntriesAreApplied_standing :
    (127 < (128 : Byte).toNat ∧ (127 : Byte).toNat ≤ 127 ∧ (95 : Byte).toNat ≤ 95 ∧ (95 : Byte) ≠ 0)
    ∧ hasRoom run.te 0 [⟨95, 0, { origin := .standing 127, level := -80 }⟩] = true
    ∧ hasRoom fullTe 0 [⟨95, 0, { origin := .standing 127, level := -80 }⟩] = false := by decide +kernel
/-- R196: a SETTINGS record loaded in ASLEEP, and one with an unknown mode of mixer A. -/
theorem witness_EntriesAreApplied_settings :
    let b (mode : Byte) : List Byte :=
      [63, 1, 0, 0, 0, 0, 0, 0, 0, 0, 255, 0, 0, 0, 0, mode, 0, 0, 0, 0, 255, 255, 255, 0, 255, 255]
    (b 2).length = 26 ∧ (applyEntry 1 0 (b 1) run).2 = true ∧ (applyEntry 1 0 (b 2) run).2 = false
    ∧ (applyEntry 1 0 (b 2) run).1.mm.b.stale = 5000 ∧ (applyEntry 1 0 (b 2) run).1.pbc.node = .listening := by decide +kernel

end Sys2Proof.Tests
end

section
/-! SUPPORT. What every operation keeps of the settings, of the tables' order and of PBC's notices to KD: the relation `Kept`, and
one rule for each shared operation. -/

namespace Sys2Proof.Machine

/-! ### Tables -/

section
variable {α : Type}

theorem mem_of_tfind {t : Tab α} {i : Nat} {v : α} (h : tfind t i = some v) : (i, v) ∈ t := by
  induction t with
  | nil => simp [tfind] at h
  | cons kv t ih =>
    obtain ⟨k, w⟩ := kv
    simp only [tfind] at h
    split at h
    · subst_vars; cases h; exact List.mem_cons_self ..
    · exact List.mem_cons_of_mem _ (ih h)

/-- What every listed value has, and the default too, the value of a key has. -/
theorem tget_of_forall {P : α → Prop} {t : Tab α} {d : α} (h : ∀ kv ∈ t, P kv.2) (hd : P d) (i : Nat) : P (tget d t i) := by
  unfold tget
  cases e : tfind t i with
  | none => exact hd
  | some v => exact h _ (mem_of_tfind e)

theorem forall_tput {P : Nat × α → Prop} {t : Tab α} {i : Nat} {x : α} (h : ∀ kv ∈ t, P kv) (hx : P (i, x)) :
    ∀ kv ∈ tput t i x, P kv := fun _ hkv => (mem_tput hkv).elim (fun e => e ▸ hx) (h _)

theorem forall_tdel {P : Nat × α → Prop} {t : Tab α} {i : Nat} (h : ∀ kv ∈ t, P kv) : ∀ kv ∈ tdel t i, P kv :=
  fun _ hkv => h _ (mem_of_mem_tdel hkv)

theorem forall_tset [DecidableEq α] {P : Nat × α → Prop} {t : Tab α} {d : α} {i : Nat} {x : α} (h : ∀ kv ∈ t, P kv)
    (hx : P (i, x)) : ∀ kv ∈ tset d t i x, P kv := by
  unfold tset; split
  · exact forall_tdel h
  · exact forall_tput h hx

theorem forall_tmodify {P : Nat × α → Prop} {t : Tab α} {i : Nat} {f : α → α} (h : ∀ kv ∈ t, P kv)
    (hf : ∀ v, P (i, v) → P (i, f v)) : ∀ kv ∈ tmodify t i f, P kv := by
  intro kv hkv
  obtain ⟨⟨k, v⟩, hx, rfl⟩ := List.mem_map.1 hkv
  dsimp only
  split
  · subst_vars; exact hf v (h _ hx)
  · exact h _ hx

end

/-- A fold keeps what each of its steps keeps. -/
theorem foldl_keeps {σ α : Type} {P : σ → Prop} {f : σ → α → σ} (h : ∀ s a, P s → P (f s a)) (l : List α) (s : σ) (hs : P s) :
    P (l.foldl f s) := by
  induction l generalizing s with
  | nil => exact hs
  | cons a l ih => exact ih _ (h s a hs)

/-! ### The settings -/

/-- The settings and configuration records whose ranges `SettingsInRange` states, but for the two tables that also hold live state. -/
structure Settings where
  node : Nat
  timing : BusTimings
  records : Tab PanelRec
  tapWindow : Nat
  sources : Tab SourceRec
  replyTimer : Nat
  mixerA : Nat × Nat
  mixerB : Nat × Nat
  house : Nat
  floor : Nat
  step : Nat
  lampTick : Nat
  gainTick : Nat
  rampStep : Nat
  replyTimeout : Nat
  ports : Tab PortRec
  groups : Tab (List Nat)
  standing : Tab Standing
  bindingsA : Tab Binding
  bindingsB : Tab Binding

/-- The settings a state holds. -/
def settingsOf (s : State) : Settings :=
  { node := s.pbc.id, timing := s.pbc.timing, records := s.kd.records, tapWindow := s.kd.tapWindow, sources := s.rc.sources,
    replyTimer := s.rc.replyTimer, mixerA := (s.mm.a.stale, s.mm.a.withdraw), mixerB := (s.mm.b.stale, s.mm.b.withdraw),
    house := s.ld.house, floor := s.ld.floor, step := s.ld.step, lampTick := s.ld.tick, gainTick := s.te.gainTick,
    rampStep := s.te.rampStep, replyTimeout := s.ml.replyTimeout, ports := s.te.ports, groups := s.te.groups,
    standing := s.te.standing, bindingsA := s.tr.bindingsA, bindingsB := s.tr.bindingsB }

/-- Every listed position's intercom port is a port (R122). -/
def PortsOk (t : Tab Position) : Prop := ∀ kv ∈ t, ∀ p ∈ kv.2.port, p ≤ 95

/-- Every listed lamp's trim and manual level lie in their ranges (R130). -/
def LampsOk (t : Tab Lamp) : Prop := ∀ kv ∈ t, kv.2.trim ≤ 255 ∧ ∀ m ∈ kv.2.manual, m ≤ 255

/-- An operation leaves the settings as they are, the two tables within their ranges and the destination records in order. -/
structure ConfigKept (s t : State) : Prop where
  settings : settingsOf t = settingsOf s
  positions : PortsOk s.tr.positions → PortsOk t.tr.positions
  lamps : LampsOk s.ld.lamps → LampsOk t.ld.lamps
  dests : tsorted s.rc.dests = true → tsorted t.rc.dests = true

/-- An operation keeps the configuration, and PBC's notices to KD wait as they did. -/
structure Kept (s t : State) : Prop extends ConfigKept s t where
  notices : t.reports.kdPanels = s.reports.kdPanels

/-- An operation of another block than PBC and KD: it keeps the configuration, and all that is PBC's and KD's stands. -/
structure Apart (s t : State) : Prop extends Kept s t where
  pbc : t.pbc = s.pbc
  kd : t.kd = s.kd

theorem ConfigKept.refl (s : State) : ConfigKept s s := ⟨rfl, id, id, id⟩

theorem ConfigKept.trans {s t u : State} (h : ConfigKept s t) (k : ConfigKept t u) : ConfigKept s u :=
  ⟨k.settings.trans h.settings, k.positions ∘ h.positions, k.lamps ∘ h.lamps, k.dests ∘ h.dests⟩

theorem ConfigKept.after {s t u : State} (k : ConfigKept t u) (h : ConfigKept s t) : ConfigKept s u := h.trans k

theorem Kept.refl (s : State) : Kept s s := ⟨.refl s, rfl⟩

theorem Kept.trans {s t u : State} (h : Kept s t) (k : Kept t u) : Kept s u :=
  ⟨h.toConfigKept.trans k.toConfigKept, k.notices.trans h.notices⟩

/-- Composition, the last operation first: read along the term from the outside in. -/
theorem Kept.after {s t u : State} (k : Kept t u) (h : Kept s t) : Kept s u := h.trans k

theorem Kept.foldl {α : Type} {f : State → α → State} (h : ∀ s a, Kept s (f s a)) (l : List α) (s : State) :
    Kept s (l.foldl f s) :=
  foldl_keeps (P := Kept s) (fun _ a hs => hs.trans (h _ a)) l s (.refl s)

theorem ConfigKept.foldl {α : Type} {f : State → α → State} (h : ∀ s a, ConfigKept s (f s a)) (l : List α) (s : State) :
    ConfigKept s (l.foldl f s) :=
  foldl_keeps (P := ConfigKept s) (fun _ a hs => hs.trans (h _ a)) l s (.refl s)

theorem Apart.refl (s : State) : Apart s s := ⟨.refl s, rfl, rfl⟩

theorem Apart.trans {s t u : State} (h : Apart s t) (k : Apart t u) : Apart s u :=
  ⟨h.toKept.trans k.toKept, k.pbc.trans h.pbc, k.kd.trans h.kd⟩

theorem Apart.after {s t u : State} (k : Apart t u) (h : Apart s t) : Apart s u := h.trans k

theorem Apart.foldl {α : Type} {f : State → α → State} (h : ∀ s a, Apart s (f s a)) (l : List α) (s : State) :
    Apart s (l.foldl f s) :=
  foldl_keeps (P := Apart s) (fun _ a hs => hs.trans (h _ a)) l s (.refl s)

/-- Settings in their ranges stay so under what keeps the configuration. -/
theorem SettingsInRange.of_kept {s t : State} (h : SettingsInRange s) (k : ConfigKept s t) : SettingsInRange t := by
  have e := k.settings
  have at' {P : Settings → Prop} (hp : P (settingsOf s)) : P (settingsOf t) := e ▸ hp
  exact
    { node := at' (P := fun x => x.node ≤ 63) h.node
      reply := at' (P := fun x => 50 ≤ x.timing.replyWindow ∧ x.timing.replyWindow ≤ 1000) h.reply
      silence := at' (P := fun x => 1 ≤ x.timing.silence ∧ x.timing.silence ≤ 50) h.silence
      budget := at' (P := fun x => 1 ≤ x.timing.turnBudget ∧ x.timing.turnBudget ≤ 8) h.budget
      census := at' (P := fun x => 100 ≤ x.timing.census ∧ x.timing.census ≤ 5000) h.census
      stall := at' (P := fun x => 1 ≤ x.timing.stallLimit ∧ x.timing.stallLimit ≤ 255) h.stall
      release := at' (P := fun x => x.timing.release ≤ 255) h.release
      tap := at' (P := fun x => 100 ≤ x.tapWindow ∧ x.tapWindow ≤ 1000) h.tap
      router := at' (P := fun x => 10 ≤ x.replyTimer ∧ x.replyTimer ≤ 1000) h.router
      mixers := at' (P := fun x =>
        (100 ≤ x.mixerA.1 && x.mixerA.1 ≤ 5000 && 1 ≤ x.mixerA.2 && x.mixerA.2 ≤ 60) = true
          ∧ (100 ≤ x.mixerB.1 && x.mixerB.1 ≤ 5000 && 1 ≤ x.mixerB.2 && x.mixerB.2 ≤ 60) = true) h.mixers
      lamp := at' (P := fun x => x.house ≤ 255 ∧ x.floor ≤ 255 ∧ (1 ≤ x.step ∧ x.step ≤ 255)
        ∧ (10 ≤ x.lampTick ∧ x.lampTick ≤ 250)) h.lamp
      lamps := k.lamps h.lamps
      gain := at' (P := fun x => (5 ≤ x.gainTick ∧ x.gainTick ≤ 100) ∧ (1 ≤ x.rampStep ∧ x.rampStep ≤ 40)) h.gain
      matrix := at' (P := fun x => 2 ≤ x.replyTimeout ∧ x.replyTimeout ≤ 100) h.matrix
      ports := at' (P := fun x => ∀ kv ∈ x.ports, kv.2.inRange = true) h.ports
      groups := at' (P := fun x => ∀ kv ∈ x.groups, kv.2.length ≤ 32 ∧ ∀ p ∈ kv.2, p ≤ 95) h.groups
      standing := at' (P := fun x => ∀ kv ∈ x.standing, kv.2.talker ≤ 95 ∧ kv.2.listener ≤ 95 ∧ kv.2.talker ≠ kv.2.listener
        ∧ -80 ≤ kv.2.level ∧ kv.2.level ≤ 24) h.standing
      panels := at' (P := fun x => ∀ r ∈ x.records, (∀ p ∈ r.2.port, p ≤ 95) ∧ ∀ k ∈ r.2.keys, k.2.inRange = true) h.panels
      sources := at' (P := fun x => ∀ kv ∈ x.sources, (∀ p ∈ kv.2.position, p ≤ 23) ∧ ∀ d ∈ kv.2.tie, d ≤ 255) h.sources
      positions := k.positions h.positions
      bindings := at' (P := fun x => ∀ kv ∈ x.bindingsA ++ x.bindingsB, bindingInRange kv.2 = true) h.bindings }

/-- What changes CP, PM, the straps and the queue alone keeps all the rest. -/
theorem Apart.of_rest {s t : State} (h : OnlyChanges [.straps, .cp, .pm, .pending] s t) : Apart s t := by
  have hpbc : t.pbc = s.pbc := h .pbc (by simp)
  have hkd : t.kd = s.kd := h .kd (by simp)
  have hrc : t.rc = s.rc := h .rc (by simp)
  have hmm : t.mm = s.mm := h .mm (by simp)
  have htr : t.tr = s.tr := h .tr (by simp)
  have hld : t.ld = s.ld := h .ld (by simp)
  have hte : t.te = s.te := h .te (by simp)
  have hml : t.ml = s.ml := h .ml (by simp)
  have hr : t.reports = s.reports := h .reports (by simp)
  refine ⟨⟨⟨?_, by rw [htr]; exact id, by rw [hld]; exact id, by rw [hrc]; exact id⟩, by rw [hr]⟩, hpbc, hkd⟩
  simp only [settingsOf, hpbc, hkd, hrc, hmm, htr, hld, hte, hml]

theorem Apart.of_cp {s t : State} (h : OnlyChanges [.cp] s t) : Apart s t := .of_rest (h.mono (by simp))

/-! ### CP -/

theorem setFlag_apart (f : Flag) (s : State) : Apart s (setFlag f s) := ⟨⟨⟨rfl, id, id, id⟩, rfl⟩, rfl, rfl⟩

theorem setFlagIf_apart (c : Bool) (f : Flag) (s : State) : Apart s (setFlagIf c f s) := .of_cp (setFlagIf_frame c f s)

theorem announce_apart (s : State) : Apart s (announce s) := .of_cp (announce_frame s)

theorem deferredReply_apart (tag kind : Byte) (c : Code) (l : List Byte) (s : State) : Apart s (deferredReply tag kind c l s) :=
  .of_cp (deferredReply_frame tag kind c l s)

/-! ### RC -/

theorem reportKd_apart (l : List ImageReport) (s : State) : Apart s (reportKd l s) := ⟨⟨⟨rfl, id, id, id⟩, rfl⟩, rfl, rfl⟩

theorem setConfirmed_apart (d : Nat) (v : Option Nat) (s : State) : Apart s (setConfirmed d v s).1 := by
  unfold setConfirmed; dsimp only; split
  · exact .refl s
  · exact ⟨⟨⟨rfl, id, id, fun h => tsorted_tset _ _ _ h⟩, rfl⟩, rfl, rfl⟩

theorem setPending_apart (d : Nat) (v : Option Nat) (s : State) : Apart s (setPending d v s).1 := by
  unfold setPending; dsimp only; split
  · exact .refl s
  · exact ⟨⟨⟨rfl, id, id, fun h => tsorted_tset _ _ _ h⟩, rfl⟩, rfl, rfl⟩

theorem setProtect_apart (d : Nat) (v : Option Protect) (s : State) : Apart s (setProtect d v s) := by
  unfold setProtect; dsimp only; split
  · exact .refl s
  · exact ⟨⟨⟨rfl, id, id, fun h => tsorted_tset _ _ _ h⟩, rfl⟩, rfl, rfl⟩

theorem toggleProtect_apart (d n : Nat) (s : State) : Apart s (toggleProtect d n s).1 := by
  unfold toggleProtect
  split
  · exact setProtect_apart _ _ _
  · split
    · exact setProtect_apart _ _ _
    · exact .refl s
  · exact .refl s

theorem releaseProtects_apart (n : Nat) (s : State) : Apart s (releaseProtects n s) :=
  .foldl (fun t kv => by
    split
    · exact setProtect_apart _ _ _
    · exact .refl t) _ s

theorem completeFire_apart (f : Fire) (s : State) : Apart s (completeFire f s) := by
  unfold completeFire; dsimp only
  split
  · exact (deferredReply_apart _ _ _ _ _).after ⟨⟨⟨rfl, id, id, id⟩, rfl⟩, rfl, rfl⟩
  · exact ⟨⟨⟨rfl, id, id, id⟩, rfl⟩, rfl, rfl⟩

theorem countFire_apart (n : Nat) (o : TakeOutcome) (s : State) : Apart s (countFire n o s) := by
  unfold countFire; split
  · exact .refl s
  · dsimp only; split
    · exact completeFire_apart _ _
    · exact ⟨⟨⟨rfl, id, id, id⟩, rfl⟩, rfl, rfl⟩

theorem deliver_apart (r : Requester) (o : TakeOutcome) (c : List Byte) (l : List ImageReport) (s : State) :
    Apart s (deliver r o c l s) := by
  unfold deliver; split
  · exact (reportKd_apart l s).trans (deferredReply_apart _ _ _ _ _)
  · exact ⟨⟨⟨rfl, id, id, id⟩, rfl⟩, rfl, rfl⟩
  · exact (reportKd_apart l s).trans (countFire_apart _ _ _)

theorem setQueue_apart (q : List TakeEntry) (s : State) : Apart s { s with rc := { s.rc with queue := q } } :=
  ⟨⟨⟨rfl, id, id, id⟩, rfl⟩, rfl, rfl⟩

theorem sendEntry_apart (e : TakeEntry) (l : List TakeEntry) (s : State) : Apart s (sendEntry e l s) := by
  unfold sendEntry; split
  · exact (setQueue_apart l s).trans (deliver_apart _ _ _ _ _)
  · exact ((setPending_apart e.dest (some e.source) s).trans (reportKd_apart _ _)).trans ⟨⟨⟨rfl, id, id, id⟩, rfl⟩, rfl, rfl⟩

theorem fillPlace_apart {s t : State} (h : fillPlace s = some t) : Apart s t := by
  unfold fillPlace at h
  split at h
  · cases h
  · split at h
    · cases h; exact sendEntry_apart _ _ _
    · obtain ⟨d, -, rfl⟩ := Option.map_eq_some_iff.1 h
      exact ⟨⟨⟨rfl, id, id, id⟩, rfl⟩, rfl, rfl⟩

theorem fillLoop_apart (n : Nat) (s : State) : Apart s (fillLoop n s) := by
  induction n generalizing s with
  | zero => exact .refl s
  | succ n ih =>
    unfold fillLoop
    cases h : fillPlace s with
    | none => exact .refl s
    | some t => exact (fillPlace_apart h).trans (ih t)

theorem fillWindow_apart (s : State) : Apart s (fillWindow s) := fillLoop_apart _ s

theorem enqueue_apart (d x : Nat) (r : Requester) (s : State) : Apart s (enqueue d x r s) := by
  unfold enqueue
  refine Apart.trans ?_ (fillWindow_apart _)
  split
  · exact (setQueue_apart _ s).trans (deliver_apart _ _ _ _ _)
  · exact (setQueue_apart _ s).trans (reportKd_apart _ _)

theorem startFire_apart (n : Nat) (p : Party) (s : State) : Apart s (startFire n p s) := by
  unfold startFire; dsimp only
  generalize ({ serial := s.rc.nextSerial, salvo := n, party := p, awaiting := _, done := 0, other := 0, skipped := _ } : Fire) = f
  have h0 : Apart s (reportKd [.fire n p.identity]
      { s with rc := { s.rc with fires := s.rc.fires ++ [f], nextSerial := s.rc.nextSerial + 1 } }) :=
    ⟨⟨⟨rfl, id, id, id⟩, rfl⟩, rfl, rfl⟩
  split
  · exact h0.trans (completeFire_apart _ _)
  · exact h0.trans (.foldl (fun t q => enqueue_apart _ _ _ t) _ _)

theorem routerDown_apart (s : State) : Apart s (routerDown s) := by
  unfold routerDown; dsimp only
  refine Apart.trans ?_ (setFlag_apart _ _)
  exact (Apart.foldl (fun t q => deliver_apart _ _ _ _ t) _ _).after ⟨⟨⟨rfl, id, id, id⟩, rfl⟩, rfl, rfl⟩

theorem routerTimeout_apart (s : State) : Apart s (routerTimeout s) := by
  unfold routerTimeout; dsimp only
  have h0 : Apart s { s with rc := { s.rc with consecutive := bump s.rc.consecutive } } := ⟨⟨⟨rfl, id, id, id⟩, rfl⟩, rfl, rfl⟩
  split
  · exact h0.trans (routerDown_apart _)
  · exact h0

theorem routerUp_apart (s : State) : Apart s (routerUp s) := by
  unfold routerUp; split
  · exact ⟨⟨⟨rfl, id, id, id⟩, rfl⟩, rfl, rfl⟩
  · exact .refl s

theorem routerStray_apart (s : State) : Apart s (routerStray s) := ⟨⟨⟨rfl, id, id, id⟩, rfl⟩, rfl, rfl⟩

theorem endEntry_apart (e : TakeEntry) (l : List TakeEntry) (o : TakeOutcome) (c : List Byte) (r : List ImageReport) (s : State) :
    Apart s (endEntry e l o c r s) := by
  unfold endEntry; dsimp only
  exact (setQueue_apart l s).trans ((setPending_apart _ _ _).trans (deliver_apart _ _ _ _ _))

theorem confirm_apart (d x : Nat) (s : State) : Apart s (confirm d x s) := by
  unfold confirm; dsimp only
  exact (setConfirmed_apart _ _ s).trans (reportKd_apart _ _)

theorem relearn_apart (d : Nat) (c : Bool) (s : State) : Apart s (relearn d c s) := by
  unfold relearn; dsimp only
  refine Apart.trans ?_ (fillWindow_apart _)
  have h0 : Apart s { s with rc := { s.rc with querySet := insertAsc s.rc.querySet d } } := ⟨⟨⟨rfl, id, id, id⟩, rfl⟩, rfl, rfl⟩
  split
  · exact h0.trans ((setConfirmed_apart _ _ _).trans (reportKd_apart _ _))
  · exact h0

theorem softResetRc_apart (s : State) : Apart s (softResetRc s) := by
  unfold softResetRc; dsimp only
  refine Apart.trans ?_ (fillWindow_apart _)
  exact ⟨⟨⟨rfl, id, id, fun h => tsorted_map (fun kv => (⟨kv.2.confirmed, none, none⟩ : DestRec)) h⟩, rfl⟩, rfl, rfl⟩

theorem takeRelease_apart (n : Nat) (s : State) : Apart s (takeRelease n s) := by
  unfold takeRelease; split
  · exact (releaseProtects_apart _ _).after ⟨⟨⟨rfl, id, id, id⟩, rfl⟩, rfl, rfl⟩
  · exact .refl s

theorem takeXdone_apart (d x : Nat) (s : State) : Apart s (takeXdone d x s) := by
  unfold takeXdone; dsimp only
  refine (routerUp_apart s).trans ?_
  split
  · refine Apart.trans ?_ (fillWindow_apart _)
    exact (endEntry_apart _ _ _ _ _ _).after ((setConfirmed_apart _ _ _).after ⟨⟨⟨rfl, id, id, id⟩, rfl⟩, rfl, rfl⟩)
  · exact (fillWindow_apart _).after ((confirm_apart _ _ _).after (routerStray_apart _))

theorem takeXfail_apart (d : Nat) (r : Byte) (s : State) : Apart s (takeXfail d r s) := by
  unfold takeXfail; dsimp only
  refine (routerUp_apart s).trans ?_
  split
  · exact (fillWindow_apart _).after ((endEntry_apart _ _ _ _ _ _).after ⟨⟨⟨rfl, id, id, id⟩, rfl⟩, rfl, rfl⟩)
  · exact (fillWindow_apart _).after (routerStray_apart _)

theorem takeXstate_apart (d x : Nat) (s : State) : Apart s (takeXstate d x s) := by
  unfold takeXstate; dsimp only
  refine (routerUp_apart s).trans ?_
  split
  · exact (fillWindow_apart _).after ((confirm_apart _ _ _).after ⟨⟨⟨rfl, id, id, id⟩, rfl⟩, rfl, rfl⟩)
  · exact (fillWindow_apart _).after ((confirm_apart _ _ _).after (routerStray_apart _))

theorem takeXmoved_apart (d x : Nat) (s : State) : Apart s (takeXmoved d x s) := by
  unfold takeXmoved; dsimp only
  refine ((routerUp_apart s).trans (confirm_apart d x _)).trans ?_
  refine Apart.trans ?_ (fillWindow_apart _)
  split
  · exact (setFlag_apart _ _).after ⟨⟨⟨rfl, id, id, id⟩, rfl⟩, rfl, rfl⟩
  · exact setFlag_apart _ _

theorem routerFrameSent_apart (s : State) : Apart s (routerFrameSent s) := by
  unfold routerFrameSent
  split
  · exact .refl s
  · dsimp only
    split
    · split <;> exact ⟨⟨⟨rfl, id, id, id⟩, rfl⟩, rfl, rfl⟩
    · split <;> exact ⟨⟨⟨rfl, id, id, id⟩, rfl⟩, rfl, rfl⟩
    · exact ⟨⟨⟨rfl, id, id, id⟩, rfl⟩, rfl, rfl⟩

theorem expireTake_apart (d : Nat) (s : State) : Apart s (expireTake d s) := by
  unfold expireTake
  split
  · exact .refl s
  · split
    · split
      · exact (fillWindow_apart _).after ((routerTimeout_apart _).after (endEntry_apart _ _ _ _ _ s))
      · exact .refl s
    · exact .refl s

theorem expireQuery_apart (d : Nat) (s : State) : Apart s (expireQuery d s) := by
  unfold expireQuery
  split
  · exact (fillWindow_apart _).after ((routerTimeout_apart _).after ⟨⟨⟨rfl, id, id, id⟩, rfl⟩, rfl, rfl⟩)
  · exact .refl s

theorem sendProbe_apart (s : State) : Apart s (sendProbe s) := by
  unfold sendProbe
  split
  · exact .refl s
  · split
    · exact ⟨⟨⟨rfl, id, id, id⟩, rfl⟩, rfl, rfl⟩
    · exact .refl s

end Sys2Proof.Machine
end


section
/-! SUPPORT. What the operations of TR, LD, MM, TE, ML, KD and PM keep of the settings, the tables' order and PBC's notices. -/

namespace Sys2Proof.Machine

/-! ### TR -/

theorem portsOk_position {t : Tab Position} (h : PortsOk t) (p : Nat) : ∀ x ∈ (tget noPosition t p).port, x ≤ 95 :=
  tget_of_forall (P := fun v : Position => ∀ x ∈ v.port, x ≤ 95) h (by simp [noPosition]) p

theorem portsOk_tset {t : Tab Position} (h : PortsOk t) (p : Nat) {v : Position} (hv : ∀ x ∈ v.port, x ≤ 95) :
    PortsOk (tset noPosition t p v) := forall_tset h hv

/-- Writing every position with its port kept keeps the ports. -/
theorem portsOk_foldl {f : Nat → Position → Position} (hf : ∀ p v, (f p v).port = v.port) (l : List Nat) {t : Tab Position}
    (h : PortsOk t) : PortsOk (l.foldl (fun t p => tset noPosition t p (f p (tget noPosition t p))) t) :=
  foldl_keeps (P := PortsOk) (fun t p h => portsOk_tset h p (by rw [hf]; exact portsOk_position h p)) l t h

theorem portsOk_resolve (rc : Rc) (cs : List Contribution) {tr : Tr} (h : PortsOk tr.positions) :
    PortsOk (resolve rc cs tr).positions := by
  unfold resolve; dsimp only
  exact portsOk_foldl (f := fun p v => { v with colours := coloursFrom (cs.map fun c => (c, walk rc (tr.binding c.mixer c.input))) p })
    (fun _ _ => rfl) _ h

theorem Apart.of_tr {s : State} {tr : Tr} (ha : tr.bindingsA = s.tr.bindingsA) (hb : tr.bindingsB = s.tr.bindingsB)
    (hp : PortsOk s.tr.positions → PortsOk tr.positions) : Apart s { s with tr := tr } := by
  refine ⟨⟨⟨?_, hp, id, id⟩, rfl⟩, rfl, rfl⟩
  simp only [settingsOf, ha, hb]

theorem resolve_apart (rc : Rc) (cs : List Contribution) {s : State} {tr : Tr} (ha : tr.bindingsA = s.tr.bindingsA)
    (hb : tr.bindingsB = s.tr.bindingsB) (hp : PortsOk s.tr.positions → PortsOk tr.positions) :
    Apart s { s with tr := resolve rc cs tr } :=
  .of_tr (by simp only [resolve, ha]) (by simp only [resolve, hb]) fun h => portsOk_resolve rc cs (hp h)

theorem setReports_apart (s : State) {r : Reports} (h : r.kdPanels = s.reports.kdPanels) : Apart s { s with reports := r } :=
  ⟨⟨⟨rfl, id, id, id⟩, h⟩, rfl, rfl⟩

theorem reportResolution_apart (old : Tr) (s : State) : Apart s (reportResolution old s) := by
  unfold reportResolution; exact ⟨⟨⟨rfl, id, id, id⟩, rfl⟩, rfl, rfl⟩

theorem recompute_apart (s : State) : Apart s (recompute s) := by
  unfold recompute; dsimp only
  exact (setFlagIf_apart _ _ _).after ((reportResolution_apart _ _).after (resolve_apart _ _ rfl rfl id))

theorem changeCalls_apart (p : Nat) {f : Position → Position} (hf : ∀ x, (f x).port = x.port) (s : State) :
    Apart s (changeCalls p f s) := by
  have hp (h : PortsOk s.tr.positions) : PortsOk (tset noPosition s.tr.positions p (f (s.tr.position p))) :=
    portsOk_tset h p (by rw [hf]; exact portsOk_position h p)
  unfold changeCalls; dsimp only; split <;> exact ⟨⟨⟨rfl, hp, id, id⟩, rfl⟩, rfl, rfl⟩

theorem addKeyCall_apart (p n k : Nat) (s : State) : Apart s (addKeyCall p n k s) :=
  changeCalls_apart p (fun x => by split <;> rfl) s

theorem removeKeyCall_apart (p n k : Nat) (s : State) : Apart s (removeKeyCall p n k s) :=
  changeCalls_apart p (f := fun x => { x with keyCalls := x.keyCalls.filter (· != (n, k)) }) (fun _ => rfl) s

theorem expireHostCall_apart (p : Nat) (s : State) : Apart s (expireHostCall p s) := by
  unfold expireHostCall; split
  · exact changeCalls_apart p (f := fun x => { x with hostCall := none }) (fun _ => rfl) s
  · exact .refl s

theorem takeTallyReport_apart (src : TrSource) (s : State) : Apart s (takeTallyReport src s) := by
  unfold takeTallyReport
  split
  · split
    · exact .refl s
    · exact (recompute_apart _).after ⟨⟨⟨rfl, id, id, id⟩, rfl⟩, rfl, rfl⟩
  · split
    · exact .refl s
    · exact (recompute_apart _).after ⟨⟨⟨rfl, id, id, id⟩, rfl⟩, rfl, rfl⟩

theorem settleTallies_apart (s : State) : Apart s (settleTallies s) := by
  unfold settleTallies; dsimp only
  exact (Apart.foldl (fun t _ => takeTallyReport_apart .rc t) _ _).after (.foldl (fun t _ => takeTallyReport_apart .mm t) _ s)

theorem softResetTr_apart (s : State) : Apart s (softResetTr s) := by
  unfold softResetTr; dsimp only
  generalize positionList = l
  refine (resolve_apart s.rc (if yetToReset .mm s then [] else contributionsOf s.mm) (s := s) (tr := { s.tr with
    positions := l.foldl (fun t p => tset noPosition t p { tget noPosition t p with hostCall := none, keyCalls := [] })
      s.tr.positions
    resolutions := 0 }) rfl rfl fun h => ?_).trans (setReports_apart _ rfl)
  exact portsOk_foldl (f := fun _ v => { v with hostCall := none, keyCalls := [] }) (fun _ _ => rfl) l h

/-! ### LD -/

/-- The levels, the step, the tick and the lamps' settings stand, whatever the channels do. -/
structure LampSettingsKept (a b : Ld) : Prop where
  house : b.house = a.house
  floor : b.floor = a.floor
  step : b.step = a.step
  tick : b.tick = a.tick
  lamps : LampsOk a.lamps → LampsOk b.lamps

theorem LampSettingsKept.refl (a : Ld) : LampSettingsKept a a := ⟨rfl, rfl, rfl, rfl, id⟩

theorem LampSettingsKept.trans {a b c : Ld} (h : LampSettingsKept a b) (k : LampSettingsKept b c) : LampSettingsKept a c :=
  ⟨k.house.trans h.house, k.floor.trans h.floor, k.step.trans h.step, k.tick.trans h.tick, k.lamps ∘ h.lamps⟩

theorem LampSettingsKept.foldl {α : Type} {f : Ld → α → Ld} (h : ∀ s a, LampSettingsKept s (f s a)) (l : List α) (s : Ld) :
    LampSettingsKept s (l.foldl f s) :=
  foldl_keeps (P := LampSettingsKept s) (fun _ a hs => hs.trans (h _ a)) l s (.refl s)

theorem Apart.of_ld {s : State} {ld : Ld} (h : LampSettingsKept s.ld ld) : Apart s { s with ld := ld } := by
  refine ⟨⟨⟨?_, id, h.lamps, id⟩, rfl⟩, rfl, rfl⟩
  simp only [settingsOf, h.house, h.floor, h.step, h.tick]

theorem setOutputs_kept (ld : Ld) (p : Nat) : LampSettingsKept ld (setOutputs ld p) := ⟨rfl, rfl, rfl, rfl, id⟩

theorem relightWith_kept (cs : Colours) (ld : Ld) (p : Nat) : LampSettingsKept ld (relightWith cs ld p) := ⟨rfl, rfl, rfl, rfl, id⟩

theorem relight_apart (s : State) (p : Nat) : Apart s (relight s p) := .of_ld (relightWith_kept _ _ _)

theorem relightAll_apart (s : State) : Apart s (relightAll s) := .foldl relight_apart _ s

theorem tickLamps_kept (ld : Ld) : LampSettingsKept ld (tickLamps ld) := by
  unfold tickLamps
  exact LampSettingsKept.trans (⟨rfl, rfl, rfl, rfl, id⟩ : LampSettingsKept ld
    { ld with channels := ld.channels.map fun kv => (kv.1, stepLevel ld.step kv.2), nextTick := after ld.nextTick ld.tick })
    (.foldl setOutputs_kept _ _)

theorem lampTick_apart (s : State) : Apart s (lampTick s) := by
  unfold lampTick; split
  · exact .of_ld (tickLamps_kept _)
  · exact .refl s

theorem takeRelight_apart (s : State) : Apart s (takeRelight s) := by
  unfold takeRelight; split
  · exact .refl s
  · exact (Apart.foldl relight_apart _ _).after ⟨⟨⟨rfl, id, id, id⟩, rfl⟩, rfl, rfl⟩

theorem lampsOk_lamp {ld : Ld} (h : LampsOk ld.lamps) (p : Nat) : (ld.lamp p).trim ≤ 255 ∧ ∀ m ∈ (ld.lamp p).manual, m ≤ 255 :=
  tget_of_forall (P := fun v : Lamp => v.trim ≤ 255 ∧ ∀ m ∈ v.manual, m ≤ 255) h (by simp [plainLamp]) p

theorem lampsOk_tset {t : Tab Lamp} (h : LampsOk t) (p : Nat) {v : Lamp} (hv : v.trim ≤ 255 ∧ ∀ m ∈ v.manual, m ≤ 255) :
    LampsOk (tset plainLamp t p v) := forall_tset h hv

theorem setPhase_kept (p : Nat) (ph : Option (Bool × Millis)) (ld : Ld) : LampSettingsKept ld (setPhase p ph ld) := by
  unfold setPhase
  exact LampSettingsKept.trans (⟨rfl, rfl, rfl, rfl, fun h => lampsOk_tset h p (lampsOk_lamp h p)⟩ : LampSettingsKept ld
    { ld with lamps := tset plainLamp ld.lamps p { ld.lamp p with phase := ph } }) (setOutputs_kept _ _)

theorem takeCallReport_apart (p : Nat) (b : Bool) (s : State) : Apart s (takeCallReport p b s) := by
  unfold takeCallReport
  split
  · split
    · exact (Apart.of_ld (setPhase_kept p _ s.ld)).trans ⟨⟨⟨rfl, id, id, id⟩, rfl⟩, rfl, rfl⟩
    · exact .refl s
  · exact .refl s

theorem expirePhase_apart (p : Nat) (s : State) : Apart s (expirePhase p s) := by
  unfold expirePhase
  split
  · exact .refl s
  · split
    · exact .of_ld (setPhase_kept p _ s.ld)
    · exact .refl s

theorem rebuildLamps_kept (c : Nat → Colours) (ld : Ld) : LampSettingsKept ld (rebuildLamps c ld) := by
  unfold rebuildLamps
  have h0 : LampSettingsKept ld
      { ld with channels := ld.channels.map fun kv => (kv.1, { noChannel with pin := kv.2.pin })
                lamps := ld.lamps.map fun kv => (kv.1, { kv.2 with phase := none }) } := by
    refine ⟨rfl, rfl, rfl, rfl, fun h kv hkv => ?_⟩
    obtain ⟨x, hx, rfl⟩ := List.mem_map.1 hkv
    exact h x hx
  exact h0.trans (.foldl (fun x p => relightWith_kept _ x p) _ _)

theorem lampsFromTally_apart (s : State) : Apart s (lampsFromTally s) := .of_ld (rebuildLamps_kept _ _)

theorem softResetLd_apart (s : State) : Apart s (softResetLd s) := by
  unfold softResetLd; split
  · exact (Apart.of_ld (rebuildLamps_kept _ s.ld)).trans ⟨⟨⟨rfl, id, id, id⟩, rfl⟩, rfl, rfl⟩
  · exact (lampsFromTally_apart _).after ⟨⟨⟨rfl, id, id, id⟩, rfl⟩, rfl, rfl⟩

/-! ### MM -/

/-- A change of a mixer that leaves its intervals. -/
theorem onMixer_apart (x : Mixer) {g : MixerRec → MixerRec} {s : State} (h1 : (g (s.mm.mixer x)).stale = (s.mm.mixer x).stale)
    (h2 : (g (s.mm.mixer x)).withdraw = (s.mm.mixer x).withdraw) : Apart s (onMixer x g s) := by
  cases x <;> simp only [Mm.mixer] at h1 h2 <;>
    exact ⟨⟨⟨by simp only [onMixer, settingsOf, h1, h2], id, id, id⟩, rfl⟩, rfl, rfl⟩

theorem reportMixer_apart (x : Mixer) (s : State) : Apart s (reportMixer x s) := ⟨⟨⟨rfl, id, id, id⟩, rfl⟩, rfl, rfl⟩

theorem refreshed_intervals (now : Millis) (m : MixerRec) : (m.refreshed now).stale = m.stale ∧ (m.refreshed now).withdraw = m.withdraw := by
  unfold MixerRec.refreshed; dsimp only; split <;> exact ⟨rfl, rfl⟩

theorem takeRecord_apart (x : Mixer) {write : MixerRec → MixerRec} (h : ∀ m, (write m).stale = m.stale ∧ (write m).withdraw = m.withdraw)
    (s : State) : Apart s (takeRecord x write s) := by
  unfold takeRecord; dsimp only
  refine Apart.after (setFlagIf_apart _ _ _) ?_
  have hm : Apart s (onMixer x (fun _ => (write (s.mm.mixer x)).refreshed s.now) s) :=
    onMixer_apart x ((refreshed_intervals _ _).1.trans (h _).1) ((refreshed_intervals _ _).2.trans (h _).2)
  split
  · exact hm
  · exact hm.trans (reportMixer_apart _ _)

theorem countInput_intervals (i : Nat) (m : MixerRec) : (countInput i m).stale = m.stale ∧ (countInput i m).withdraw = m.withdraw := by
  unfold countInput; split <;> exact ⟨rfl, rfl⟩

theorem badMixerFrame_apart (x : Mixer) (s : State) : Apart s (badMixerFrame x s) := onMixer_apart x rfl rfl

theorem withdraw_apart (x : Mixer) (s : State) : Apart s (withdraw x s) :=
  ((onMixer_apart x rfl rfl).trans (reportMixer_apart x _)).trans (setFlag_apart _ _)

theorem goStale_apart (x : Mixer) (s : State) : Apart s (goStale x s) :=
  ((onMixer_apart x rfl rfl).trans (reportMixer_apart x _)).trans (setFlag_apart _ _)

theorem settleMixer_apart (x : Mixer) (s : State) : Apart s (settleMixer x s) := by
  unfold settleMixer; split
  · exact withdraw_apart x s
  · split
    · exact goStale_apart x s
    · exact .refl s

theorem expireStale_apart (x : Mixer) (s : State) : Apart s (expireStale x s) := by
  unfold expireStale; split
  · exact goStale_apart x s
  · exact .refl s

theorem expireWithdraw_apart (x : Mixer) (s : State) : Apart s (expireWithdraw x s) := by
  unfold expireWithdraw; split
  · exact withdraw_apart x s
  · exact .refl s

theorem softResetMm_apart (s : State) : Apart s (softResetMm s) := ⟨⟨⟨rfl, id, id, id⟩, rfl⟩, rfl, rfl⟩

/-! ### TE and ML -/

theorem requeue_apart (k : Nat) (g : Gain) (s : State) : Apart s (requeue k g s) := by
  unfold requeue; split
  · split <;> exact ⟨⟨⟨rfl, id, id, id⟩, rfl⟩, rfl, rfl⟩
  · exact .refl s

theorem setEntry_apart (k : Nat) (e : PathEntry) (s : State) : Apart s (setEntry k e s) := ⟨⟨⟨rfl, id, id, id⟩, rfl⟩, rfl, rfl⟩

theorem setCurrent_apart (k : Nat) (g : Gain) (s : State) : Apart s (setCurrent k g s) := by
  unfold setCurrent; split
  · exact .refl s
  · split
    · exact .refl s
    · split
      · exact setEntry_apart _ _ _
      · exact (setEntry_apart _ _ _).trans (requeue_apart _ _ _)

theorem retarget_apart (s : State) (k : Nat) : Apart s (retarget s k) := by
  unfold retarget; split
  · exact .refl s
  · dsimp only; split
    · exact .refl s
    · split
      · exact (setEntry_apart _ _ _).trans (setCurrent_apart _ _ _)
      · exact setEntry_apart _ _ _

theorem sendOneGain_apart {s t : State} (h : sendOneGain s = some t) : Apart s t := by
  unfold sendOneGain at h
  dsimp only at h
  split at h
  · cases h
  · split at h
    · cases h; split <;> exact ⟨⟨⟨rfl, id, id, id⟩, rfl⟩, rfl, rfl⟩
    · cases h; split <;> exact ⟨⟨⟨rfl, id, id, id⟩, rfl⟩, rfl, rfl⟩
    · cases h

theorem gainLoop_apart (n : Nat) (s : State) : Apart s (gainLoop n s) := by
  induction n generalizing s with
  | zero => exact .refl s
  | succ n ih =>
    unfold gainLoop
    cases h : sendOneGain s with
    | none => exact .refl s
    | some t => exact (sendOneGain_apart h).trans (ih t)

theorem sendGains_apart (s : State) : Apart s (sendGains s) := gainLoop_apart _ s

theorem reportRemoval_apart (k : Nat) (s : State) : Apart s (reportRemoval k s) := ⟨⟨⟨rfl, id, id, id⟩, rfl⟩, rfl, rfl⟩

theorem closedEntry_apart (s : State) (k : Nat) : Apart s (closedEntry s k) := by
  unfold closedEntry; split
  · exact .refl s
  · split
    · exact reportRemoval_apart _ _
    · split
      · exact reportRemoval_apart _ _
      · exact .refl s
    · exact .refl s

theorem moveCauses_apart (gone : Nat → Cause → Bool) (news : List NewCause) (s : State) : Apart s (moveCauses gone news s) := by
  unfold moveCauses; dsimp only
  refine Apart.after (.foldl closedEntry_apart _ _) ?_
  exact (Apart.foldl retarget_apart _ _).after ⟨⟨⟨rfl, id, id, id⟩, rfl⟩, rfl, rfl⟩

theorem applyCauses_apart (gone : Nat → Cause → Bool) (news : List NewCause) (s : State) : Apart s (applyCauses gone news s) :=
  (moveCauses_apart gone news s).trans (sendGains_apart _)

theorem refuseRoom_apart (s : State) : Apart s (refuseRoom s) := ⟨⟨⟨rfl, id, id, id⟩, rfl⟩, rfl, rfl⟩

theorem recordCauses_apart (news : List NewCause) (s : State) : Apart s (recordCauses news s).1 := by
  unfold recordCauses; split
  · exact applyCauses_apart _ _ _
  · exact refuseRoom_apart s

theorem matrixDown_apart (s : State) : Apart s (matrixDown s) := by
  unfold matrixDown; dsimp only
  refine Apart.after (setFlag_apart _ _) ?_
  exact (Apart.foldl (fun t k => reportRemoval_apart k t) _ _).after ⟨⟨⟨rfl, id, id, id⟩, rfl⟩, rfl, rfl⟩

theorem matrixTimeout_apart (s : State) : Apart s (matrixTimeout s) := by
  unfold matrixTimeout; dsimp only
  have h0 : Apart s { s with ml := { s.ml with timeouts := bump s.ml.timeouts, consecutive := bump s.ml.consecutive } } :=
    ⟨⟨⟨rfl, id, id, id⟩, rfl⟩, rfl, rfl⟩
  split
  · exact h0.trans (matrixDown_apart _)
  · exact h0

theorem matrixStray_apart (s : State) : Apart s (matrixStray s) := ⟨⟨⟨rfl, id, id, id⟩, rfl⟩, rfl, rfl⟩

theorem clearPaths_apart (s : State) : Apart s (clearPaths s) := ⟨⟨⟨rfl, id, id, id⟩, rfl⟩, rfl, rfl⟩

theorem retargetGuarded_apart (l : List Nat) (s : State) : Apart s (retargetGuarded l s) := .foldl retarget_apart _ s

theorem guardTargets_apart (l : List (Nat × Bool)) (s : State) : Apart s (guardTargets l s) :=
  (retargetGuarded_apart _ _).after ⟨⟨⟨rfl, id, id, id⟩, rfl⟩, rfl, rfl⟩

theorem rampEntry_apart (s : State) (k : Nat) : Apart s (rampEntry s k) := by
  unfold rampEntry; split
  · exact .refl s
  · split
    · split
      · exact .refl s
      · exact setCurrent_apart _ _ _
    · exact .refl s

theorem gainTick_apart (s : State) : Apart s (gainTick s) := by
  unfold gainTick; split
  · dsimp only
    exact (sendGains_apart _).after ((Apart.foldl rampEntry_apart (s.te.paths.map (·.1)) s).trans ⟨⟨⟨rfl, id, id, id⟩, rfl⟩, rfl, rfl⟩)
  · exact .refl s

theorem matrixFrameSent_apart (s : State) : Apart s (matrixFrameSent s) := by
  unfold matrixFrameSent
  split
  · exact .refl s
  · dsimp only
    split
    · split <;> exact ⟨⟨⟨rfl, id, id, id⟩, rfl⟩, rfl, rfl⟩
    · split <;> exact ⟨⟨⟨rfl, id, id, id⟩, rfl⟩, rfl, rfl⟩
    · exact ⟨⟨⟨rfl, id, id, id⟩, rfl⟩, rfl, rfl⟩

theorem confirmGain_apart (o : OutGain) (s : State) : Apart s (confirmGain o s) := by
  unfold confirmGain; dsimp only; split
  · exact .refl s
  · split
    · split
      · exact (setEntry_apart _ _ s).trans (reportRemoval_apart _ _)
      · exact setEntry_apart _ _ s
    · exact (setEntry_apart _ _ s).trans (requeue_apart _ _ _)

theorem takeGainOk_apart (l t : Nat) (s : State) : Apart s (takeGainOk l t s) := by
  unfold takeGainOk; split
  · exact matrixStray_apart s
  · exact (sendGains_apart _).after ((confirmGain_apart _ _).after ⟨⟨⟨rfl, id, id, id⟩, rfl⟩, rfl, rfl⟩)

theorem requeueTimedOut_apart (o : OutGain) (s : State) : Apart s (requeueTimedOut o s) := by
  unfold requeueTimedOut; dsimp only; split
  · exact .refl s
  · exact (setEntry_apart _ _ s).trans (requeue_apart _ _ _)

theorem expireGain_apart (l t : Nat) (s : State) : Apart s (expireGain l t s) := by
  unfold expireGain; split
  · exact .refl s
  · split
    · exact (sendGains_apart _).after ((matrixTimeout_apart _).after ((requeueTimedOut_apart _ _).after ⟨⟨⟨rfl, id, id, id⟩, rfl⟩, rfl, rfl⟩))
    · exact .refl s

theorem sendPing_apart (s : State) : Apart s (sendPing s) := by
  unfold sendPing; split
  · exact .refl s
  · split
    · exact ⟨⟨⟨rfl, id, id, id⟩, rfl⟩, rfl, rfl⟩
    · exact .refl s

theorem takePong_apart (s : State) : Apart s (takePong s) := by
  unfold takePong; split
  · exact ⟨⟨⟨rfl, id, id, id⟩, rfl⟩, rfl, rfl⟩
  · exact matrixStray_apart s

theorem finishClearing_apart (s : State) : Apart s (finishClearing s) := by
  unfold finishClearing; dsimp only
  refine (sendGains_apart _).after ((setFlag_apart _ _).after ?_)
  refine Apart.trans ((Apart.foldl (fun t k => reportRemoval_apart k t) _ _).after ?_) ⟨⟨⟨rfl, id, id, id⟩, rfl⟩, rfl, rfl⟩
  exact ⟨⟨⟨rfl, id, id, id⟩, rfl⟩, rfl, rfl⟩

theorem takeMuteAllOk_apart (s : State) : Apart s (takeMuteAllOk s) := by
  unfold takeMuteAllOk; split
  · exact finishClearing_apart s
  · exact matrixStray_apart s

theorem expireMuteAll_apart (s : State) : Apart s (expireMuteAll s) := by
  unfold expireMuteAll; split
  · exact matrixDown_apart s
  · exact .refl s

theorem softResetMl_apart (s : State) : Apart s (softResetMl s) := ⟨⟨⟨rfl, id, id, id⟩, rfl⟩, rfl, rfl⟩

theorem setLiveSkips_apart (n : Nat) (s : State) : Apart s { s with te := { s.te with liveSkips := n } } :=
  ⟨⟨⟨rfl, id, id, id⟩, rfl⟩, rfl, rfl⟩

theorem followLive_apart (l : List Nat) (g : List (Nat × Bool)) (s : State) : Apart s (followLive l g s) := by
  unfold followLive; dsimp only
  refine (setFlagIf_apart _ _ _).after ((sendGains_apart _).after ?_)
  refine (setLiveSkips_apart _ _).after ((retargetGuarded_apart _ _).after ((moveCauses_apart _ _ _).after ?_))
  exact ⟨⟨⟨rfl, id, id, id⟩, rfl⟩, rfl, rfl⟩

theorem takeLiveReport_apart (s : State) : Apart s (takeLiveReport s) := by
  unfold takeLiveReport; split
  · exact (followLive_apart _ _ _).after ⟨⟨⟨rfl, id, id, id⟩, rfl⟩, rfl, rfl⟩
  · exact .refl s

theorem takeGuardReport_apart (s : State) : Apart s (takeGuardReport s) := by
  unfold takeGuardReport; split
  · exact (sendGains_apart _).after ((guardTargets_apart _ _).after ⟨⟨⟨rfl, id, id, id⟩, rfl⟩, rfl, rfl⟩)
  · exact .refl s

theorem takeRemoval_apart (s : State) : Apart s (takeRemoval s) := by
  unfold takeRemoval; split
  · exact .refl s
  · dsimp only; split
    · exact ⟨⟨⟨rfl, id, id, id⟩, rfl⟩, rfl, rfl⟩
    · split <;> exact ⟨⟨⟨rfl, id, id, id⟩, rfl⟩, rfl, rfl⟩

theorem softResetTe_apart (s : State) : Apart s (softResetTe s) := by
  unfold softResetTe; dsimp only
  have h0 : Apart s (if s.ml.line = .up then { s with ml := { clearMatrix s.ml with consecutive := 0 } } else s) := by
    split
    · exact ⟨⟨⟨rfl, id, id, id⟩, rfl⟩, rfl, rfl⟩
    · exact .refl s
  refine h0.trans ?_
  generalize (if s.ml.line = .up then { s with ml := { clearMatrix s.ml with consecutive := 0 } } else s) = u
  generalize (if yetToReset .tr u then [] else positionList.filter u.tr.guard) = g
  have h1 : Apart u (clearPaths { u with te := { u.te with guards := g } }) := by
    have h2 : Apart u { u with te := { u.te with guards := g } } := ⟨⟨⟨rfl, id, id, id⟩, rfl⟩, rfl, rfl⟩
    exact h2.trans (clearPaths_apart _)
  generalize clearPaths { u with te := { u.te with guards := g } } = v at h1 ⊢
  exact h1.trans ⟨⟨⟨rfl, id, id, id⟩, rfl⟩, rfl, rfl⟩

theorem followTrReset_apart (s : State) : Apart s (followTrReset s) := by
  unfold followTrReset; dsimp only
  refine (softResetTr_apart s).trans ?_
  have h1 (u : State) : Apart u (if yetToReset .ld u then u else lampsFromTally u) := by
    split
    · exact .refl u
    · exact lampsFromTally_apart u
  refine (h1 _).trans ?_
  generalize (if yetToReset .ld (softResetTr s) then softResetTr s else lampsFromTally (softResetTr s)) = u
  split
  · exact .refl u
  · exact (guardTargets_apart _ u).trans (sendGains_apart _)

/-! ### KD -/

theorem setKeyCtx_kept (n k : Nat) (f : KeyCtx → KeyCtx) (s : State) : Kept s (setKeyCtx n k f s) := ⟨⟨rfl, id, id, id⟩, rfl⟩

theorem markDirty_kept (n k : Nat) (s : State) : Kept s (markDirty n k s) := ⟨⟨rfl, id, id, id⟩, rfl⟩

theorem refreshKey_kept (s : State) (n k : Nat) : Kept s (refreshKey s n k) := by
  unfold refreshKey; split
  · exact .refl s
  · split
    · exact .refl s
    · dsimp only; split
      · exact .refl s
      · exact (setKeyCtx_kept _ _ _ s).trans (markDirty_kept _ _ _)

theorem refreshPanel_kept (q : KeyEntry → Bool) (n : Nat) (s : State) : Kept s (refreshPanel q n s) := by
  unfold refreshPanel; split
  · exact .refl s
  · exact .foldl (fun t kv => refreshKey_kept t _ _) _ s

theorem takeImageReport_kept (s : State) (r : ImageReport) : Kept s (takeImageReport s r) :=
  .foldl (fun t _ => refreshPanel_kept _ _ t) _ s

theorem refuseKey_kept (n k : Nat) (s : State) : Kept s (refuseKey n k s) := setKeyCtx_kept _ _ _ _

theorem indicate_kept (n k : Nat) (s : State) : Kept s (indicate n k s) := by
  unfold indicate; split
  · exact .refl s
  · exact (refuseKey_kept n k s).trans (refreshKey_kept _ _ _)

theorem withdrawKey_kept (n k : Nat) (s : State) : Kept s (withdrawKey n k s) := (applyCauses_apart _ _ _).toKept

theorem deactivateKey_kept (n k : Nat) (s : State) : Kept s (deactivateKey n k s) := by
  unfold deactivateKey; dsimp only
  refine Kept.after (setKeyCtx_kept _ _ _ _) ?_
  split
  · exact (removeKeyCall_apart _ _ _ _).toKept
  · exact withdrawKey_kept _ _ _
  · exact withdrawKey_kept _ _ _
  · exact .refl s

theorem deactivateIfActive_kept (n k : Nat) (s : State) : Kept s (deactivateIfActive n k s) := by
  unfold deactivateIfActive; split
  · exact .refl s
  · exact deactivateKey_kept _ _ _

theorem deactivatePanel_kept (q : KeyEntry → Bool) (n : Nat) (s : State) : Kept s (deactivatePanel q n s) := by
  unfold deactivatePanel; split
  · exact .refl s
  · dsimp only
    refine Kept.after (.foldl (fun t k => setKeyCtx_kept _ _ _ t) _ _) ?_
    refine (applyCauses_apart _ _ _).toKept.after (.foldl (fun t k => ?_) _ _)
    split
    · exact (removeKeyCall_apart _ _ _ _).toKept
    · exact .refl t

theorem activateKey_kept (n k : Nat) (dst : KeyState) (limit : Nat) (e : KeyEntry) (target : KeyTarget) (s : State) :
    Kept s (activateKey n k dst limit e target s) := by
  unfold activateKey; split
  · exact refuseKey_kept _ _ _
  · dsimp only; split
    · exact (recordCauses_apart _ _).toKept.trans (refuseKey_kept _ _ _)
    · exact (recordCauses_apart _ _).toKept.trans (setKeyCtx_kept _ _ _ _)

theorem askTake_kept (n k : Nat) (d x : Option Nat) (s : State) : Kept s (askTake n k d x s) := by
  unfold askTake; split
  · split
    · exact refuseKey_kept _ _ _
    · exact (enqueue_apart _ _ _ _).toKept
  · exact refuseKey_kept _ _ _

theorem setRouterPanel_kept (n : Nat) (d x : Option Nat) (s : State) : Kept s (setRouterPanel n d x s) := by
  unfold setRouterPanel
  exact (refreshPanel_kept _ _ _).after ⟨⟨rfl, id, id, id⟩, rfl⟩

theorem keyAct_kept (n k : Nat) (press : Bool) (r : PanelRec) (c : Context) (st : KeyState) (s : State) :
    Kept s (keyAct n k press r c st s) := by
  unfold keyAct
  split
  · exact ⟨⟨rfl, id, id, id⟩, rfl⟩
  · split
    · exact .refl s
    · exact activateKey_kept _ _ _ _ _ _ _
    · exact setKeyCtx_kept _ _ _ _
    · exact deactivateKey_kept _ _ _
  · split
    · exact .refl s
    · split
      · exact activateKey_kept _ _ _ _ _ _ _
      · exact deactivateKey_kept _ _ _
  · split
    · split
      · exact (setKeyCtx_kept _ _ _ s).trans (addKeyCall_apart _ _ _ _).toKept
      · exact .refl s
    · split
      · exact deactivateKey_kept _ _ _
      · exact .refl s
  · split
    · exact setRouterPanel_kept _ _ _ _
    · exact .refl s
  · split
    · exact .refl s
    · dsimp only; split
      · exact (setRouterPanel_kept _ _ _ s).trans (askTake_kept _ _ _ _ _)
      · exact setRouterPanel_kept _ _ _ s
  · split
    · exact askTake_kept _ _ _ _ _
    · exact .refl s
  · split
    · exact .refl s
    · split
      · exact refuseKey_kept _ _ _
      · dsimp only; split
        · exact (toggleProtect_apart _ _ s).toKept.trans (refuseKey_kept _ _ _)
        · exact (toggleProtect_apart _ _ s).toKept
  · split
    · exact .refl s
    · split
      · exact refuseKey_kept _ _ _
      · exact (startFire_apart _ _ _).toKept

theorem takeTransition_kept (n : Nat) (s : State) (t : Nat × Bool) : Kept s (takeTransition n s t) := by
  have ignored : Kept s { s with kd := { s.kd with unassigned := bump s.kd.unassigned } } := ⟨⟨rfl, id, id, id⟩, rfl⟩
  unfold takeTransition; dsimp only
  split
  · exact ignored
  · split
    · exact ignored
    · split
      · exact ignored
      · split
        · exact ignored
        · split
          · exact ⟨⟨rfl, id, id, id⟩, rfl⟩
          · exact ((setKeyCtx_kept _ _ _ s).trans (keyAct_kept _ _ _ _ _ _ _)).trans (refreshKey_kept _ _ _)

theorem dispatchOldest_kept (s : State) : Kept s (dispatchOldest s) := by
  unfold dispatchOldest; split
  · exact .refl s
  · exact (Kept.foldl (takeTransition_kept _) _ s).trans ⟨⟨rfl, id, id, id⟩, rfl⟩

theorem setContexts_kept (c : Tab Context) (s : State) : Kept s { s with kd := { s.kd with contexts := c } } :=
  ⟨⟨rfl, id, id, id⟩, rfl⟩

theorem departPanel_kept (n : Nat) (s : State) : Kept s (departPanel n s) :=
  (deactivatePanel_kept _ n s).trans (setContexts_kept _ _)

theorem takeDeparture_kept (n : Nat) (s : State) : ConfigKept s (takeDeparture n s) := by
  unfold takeDeparture; split
  · exact (departPanel_kept n _).toConfigKept.after ⟨rfl, id, id, id⟩
  · exact .refl s

theorem paintKey_kept (n : Nat) (s : State) (k : Nat) : Kept s (paintKey n s k) := by
  unfold paintKey; split
  · exact .refl s
  · split
    · exact .refl s
    · exact (setKeyCtx_kept _ _ _ s).trans (markDirty_kept _ _ _)

theorem joinPanel_kept (n keys : Nat) (s : State) : Kept s (joinPanel n keys s) :=
  (Kept.foldl (paintKey_kept n) _ _).after ⟨⟨rfl, id, id, id⟩, rfl⟩

theorem takeJoin_kept (n : Nat) (s : State) : ConfigKept s (takeJoin n s) := by
  unfold takeJoin; split
  · exact (joinPanel_kept n _ _).toConfigKept.after ⟨rfl, id, id, id⟩
  · exact .refl s

theorem settleNotices_kept (s : State) : ConfigKept s (settleNotices s) :=
  .foldl (fun t x => by
    cases x with
    | departure n => exact takeDeparture_kept n t
    | join n keys => exact takeJoin_kept n t) _ s

theorem endTapWindow_kept (n k : Nat) (s : State) : Kept s (endTapWindow n k s) := by
  unfold endTapWindow; split
  · exact .refl s
  · split
    · exact (setKeyCtx_kept _ _ _ s).trans (refreshKey_kept _ _ _)
    · exact .refl s

theorem endLatchLimit_kept (n k : Nat) (s : State) : Kept s (endLatchLimit n k s) := by
  unfold endLatchLimit; split
  · exact .refl s
  · split
    · exact (deactivateKey_kept _ _ s).trans (refreshKey_kept _ _ _)
    · exact .refl s

theorem endRefusal_kept (n k : Nat) (s : State) : Kept s (endRefusal n k s) := by
  unfold endRefusal; split
  · exact .refl s
  · split
    · exact (setKeyCtx_kept _ _ _ s).trans (refreshKey_kept _ _ _)
    · exact .refl s

theorem takeOutcome_kept (s : State) : Kept s (takeOutcome s) := by
  unfold takeOutcome; split
  · exact .refl s
  · rename_i r rest _
    have h0 : Kept s (r.changes.foldl takeImageReport { s with reports := { s.reports with kdOutcomes := rest } }) :=
      (Kept.foldl takeImageReport_kept _ _).after ⟨⟨rfl, id, id, id⟩, rfl⟩
    dsimp only; split
    · exact h0
    · exact h0.trans (indicate_kept _ _ _)

theorem takeFire_kept (s : State) : Kept s (takeFire s) := by
  unfold takeFire; split
  · exact .refl s
  · rename_i r rest _
    have h0 : Kept s (takeImageReport { s with reports := { s.reports with kdFires := rest } } (.fire r.salvo (some r.node))) :=
      (takeImageReport_kept _ _).after ⟨⟨rfl, id, id, id⟩, rfl⟩
    dsimp only; split
    · exact h0
    · exact h0.trans (indicate_kept _ _ _)

theorem takeReportOf_kept (src : KdSource) (s : State) : Kept s (takeReportOf src s) := by
  unfold takeReportOf
  cases src <;> dsimp only <;> split
  all_goals first
    | exact .refl s
    | exact (takeImageReport_kept _ _).after ⟨⟨rfl, id, id, id⟩, rfl⟩

theorem softResetKd_kept (s : State) : ConfigKept s (softResetKd s) := ⟨rfl, id, id, id⟩

/-! ### PM -/

theorem startTransfer_apart (t : Transfer) (s : State) : Apart s (startTransfer t s) := ⟨⟨⟨rfl, id, id, id⟩, rfl⟩, rfl, rfl⟩

theorem setWalk_apart (w : Walk) (s : State) : Apart s (setWalk w s) := ⟨⟨⟨rfl, id, id, id⟩, rfl⟩, rfl, rfl⟩

theorem setSave_apart (sv : Save) (s : State) : Apart s (setSave sv s) := ⟨⟨⟨rfl, id, id, id⟩, rfl⟩, rfl, rfl⟩

theorem busAutoStep_kept (s : State) : Kept s (busAutoStep s) := by
  unfold busAutoStep; split
  · exact ⟨⟨rfl, id, id, id⟩, rfl⟩
  · exact .refl s

theorem endSave_apart (sv : Save) (ok : Bool) (s : State) : Apart s (endSave sv ok s) := by
  unfold endSave; dsimp only
  exact (deferredReply_apart _ _ _ _ _).after ((setFlagIf_apart _ _ _).after ⟨⟨⟨rfl, id, id, id⟩, rfl⟩, rfl, rfl⟩)

theorem beginSection_apart (i off : Nat) (sv : Save) (s : State) : Apart s (beginSection i off sv s) := by
  unfold beginSection; dsimp only
  exact (startTransfer_apart _ _).after (setSave_apart _ _)

theorem saveOn_apart (sv : Save) (s : State) : Apart s (saveOn sv s) := by
  unfold saveOn
  split
  · exact beginSection_apart _ _ _ _
  · split
    · exact (startTransfer_apart _ _).after (setSave_apart _ _)
    · split
      · exact beginSection_apart _ _ _ _
      · exact (startTransfer_apart _ _).after (setSave_apart _ _)
  · exact endSave_apart _ _ _

theorem softResetPm_apart (s : State) : Apart s (softResetPm s) := ⟨⟨⟨rfl, id, id, id⟩, rfl⟩, rfl, rfl⟩

theorem storeWrite_apart (t : Transfer) (s : State) : Apart s (storeWrite t s) := by
  cases t <;> exact ⟨⟨⟨rfl, id, id, id⟩, rfl⟩, rfl, rfl⟩

end Sys2Proof.Machine
end


section
/-! SUPPORT. What PBC's operations keep of the configuration: everything but the settings a request writes. -/

namespace Sys2Proof.Machine

theorem onMember_kept (n : Nat) (f : Link → Nat → Option Millis → Presence) (s : State) : Kept s (onMember n f s) :=
  ⟨⟨rfl, id, id, id⟩, rfl⟩

theorem sendPb_kept (f : PbFrame) (s : State) : Kept s (sendPb f s) := ⟨⟨rfl, id, id, id⟩, rfl⟩

theorem sendAndWait_kept (f : PbFrame) (w : Work) (s : State) : Kept s (sendAndWait f w s) := ⟨⟨rfl, id, id, id⟩, rfl⟩

theorem lapseReservation_kept (s : State) : Kept s (lapseReservation s) := ⟨⟨rfl, id, id, id⟩, rfl⟩

theorem startChecking_kept (s : State) : Kept s (startChecking s) := ⟨⟨rfl, id, id, id⟩, rfl⟩

theorem enterListening_kept (s : State) : Kept s (enterListening s) := ⟨⟨rfl, id, id, id⟩, rfl⟩

theorem applyProbe_kept (n : Nat) (r : ProbeResult) (s : State) : ConfigKept s (applyProbe n r s) := by
  unfold applyProbe
  repeat' split
  all_goals exact ⟨rfl, id, id, id⟩

theorem startSweep_kept (s : State) : Kept s (startSweep s) := ⟨⟨rfl, id, id, id⟩, rfl⟩

theorem passOn_kept (s : State) : Kept s (passOn s) := by
  unfold passOn; split
  · exact ⟨⟨rfl, id, id, id⟩, rfl⟩
  · exact sendAndWait_kept _ _ s

theorem nextExchange_kept (s : State) : Kept s (nextExchange s) := by
  unfold nextExchange; split
  · split
    · exact passOn_kept s
    · exact ⟨⟨rfl, id, id, id⟩, rfl⟩
  · exact passOn_kept s

theorem turnSequence_kept (s : State) : Kept s (turnSequence s) := by
  unfold turnSequence; split
  · dsimp only; split
    · exact (nextExchange_kept _).after ⟨⟨rfl, id, id, id⟩, rfl⟩
    · exact ⟨⟨rfl, id, id, id⟩, rfl⟩
  · exact nextExchange_kept s

theorem beginTurn_kept (s : State) : Kept s (beginTurn s) := by
  unfold beginTurn; dsimp only; split
  · exact ⟨⟨rfl, id, id, id⟩, rfl⟩
  · exact (turnSequence_kept _).after ⟨⟨rfl, id, id, id⟩, rfl⟩

theorem sendRing_kept (s : State) : Kept s (sendRing s) := sendPb_kept _ s

theorem setPbc_kept {p : Pbc} {s : State} (hid : p.id = s.pbc.id) (ht : p.timing = s.pbc.timing) : Kept s { s with pbc := p } := by
  refine ⟨⟨?_, id, id, id⟩, rfl⟩
  simp only [settingsOf, hid, ht]

theorem setPbc_config {p : Pbc} {s : State} (hid : p.id = s.pbc.id) (ht : p.timing = s.pbc.timing) :
    ConfigKept s { s with pbc := p } := (setPbc_kept hid ht).toConfigKept

theorem completeSweep_kept (s : State) : ConfigKept s (completeSweep s) := by
  unfold completeSweep; dsimp only
  refine (((beginTurn_kept _).after (sendRing_kept _)).after (setFlagIf_apart _ _ _).toKept).toConfigKept.after ?_
  have h0 := ConfigKept.foldl (f := fun (t : State) (kv : Nat × ProbeResult) => applyProbe kv.1 kv.2 t)
    (fun t kv => applyProbe_kept kv.1 kv.2 t) s.pbc.results s
  generalize s.pbc.results.foldl (fun (t : State) (kv : Nat × ProbeResult) => applyProbe kv.1 kv.2 t) s = u at h0 ⊢
  exact h0.trans (setPbc_config rfl rfl)

theorem endProbe_kept (r : ProbeResult) (s : State) : ConfigKept s (endProbe r s) := by
  unfold endProbe; split
  · rename_i n heard _
    dsimp only
    refine (nextExchange_kept _).toConfigKept.after ?_
    have h0 : ConfigKept s (setFlagIf (probeChanges r (s.pbc.entry n)) .roster (applyProbe n r s)) :=
      (applyProbe_kept n r s).trans (setFlagIf_apart _ _ _).toKept.toConfigKept
    generalize setFlagIf (probeChanges r (s.pbc.entry n)) .roster (applyProbe n r s) = u at h0 ⊢
    have h1 : ConfigKept s { u with pbc := { u.pbc with work := .idle, windowOpen := false } } :=
      h0.trans (setPbc_config rfl rfl)
    split
    · exact h1.trans (sendRing_kept _).toConfigKept
    · exact h1
  · dsimp only; split
    · exact ⟨rfl, id, id, id⟩
    · exact (completeSweep_kept _).after (setPbc_config rfl rfl)
  · exact .refl s

theorem noteActivity_kept (s : State) : Kept s (noteActivity s) := by
  unfold noteActivity; dsimp only
  repeat' split
  all_goals first
    | exact .refl s
    | exact setPbc_kept rfl rfl

theorem examine_kept (l : List Byte) (s : State) : Kept s (examine l s) := by
  unfold examine; split
  · exact ⟨⟨rfl, id, id, id⟩, rfl⟩
  · exact .refl s

theorem cleanFrame_kept (l : List Byte) (s : State) : Kept s (cleanFrame l s) := by
  unfold cleanFrame; split
  · exact .refl s
  · exact (noteActivity_kept s).trans (examine_kept _ _)

/-- The state in which a clean frame that is no CARGO is taken: its activity noted, the reservation lapsed. -/
theorem heard_kept (l : List Byte) (s : State) : Kept s (lapseReservation (cleanFrame l s)) :=
  (cleanFrame_kept l s).trans (lapseReservation_kept _)

theorem answerProbe_kept (s : State) : ConfigKept s (answerProbe s) := by
  unfold answerProbe; split
  · exact endProbe_kept _ s
  · exact .refl s

theorem badPbFrame_kept (s : State) : Kept s (badPbFrame s) := by
  unfold badPbFrame; split
  · exact .refl s
  · exact ((noteActivity_kept s).trans (lapseReservation_kept _)).trans (setPbc_kept rfl rfl)

theorem leaveBus_kept (s : State) : ConfigKept s (leaveBus s) := by
  unfold leaveBus; dsimp only
  refine (setFlagIf_apart _ _ _).toKept.toConfigKept.after ((enterListening_kept _).toConfigKept.after ?_)
  refine ConfigKept.trans (.foldl (fun t n => ?_) _ s) (setPbc_config rfl rfl)
  split
  · exact ⟨rfl, id, id, id⟩
  · exact .refl t

theorem removeEntry_kept (n : Nat) (s : State) : Kept s (removeEntry n s) := ⟨⟨rfl, id, id, id⟩, rfl⟩

theorem endAbsence_kept (n : Nat) (s : State) : Kept s (endAbsence n s) := by
  unfold endAbsence; split
  · split
    · exact removeEntry_kept n s
    · exact .refl s
  · exact .refl s

theorem endSilence_kept (s : State) : Kept s (endSilence s) := by
  unfold endSilence; split
  · exact startSweep_kept s
  · exact .refl s

theorem applyStallLimit_kept (s : State) : Kept s (applyStallLimit s) := by
  unfold applyStallLimit; dsimp only
  exact (setFlagIf_apart _ _ _).toKept.after (setPbc_kept rfl rfl)

theorem takeCargo_kept (n q : Nat) (l : List Byte) (s : State) : Kept s (takeCargo n q l s) := by
  unfold takeCargo; dsimp only
  repeat' split
  all_goals exact ⟨⟨rfl, id, id, id⟩, rfl⟩

theorem sendLamps_kept (p : Nat) (s : State) : Kept s (sendLamps p s) := by
  unfold sendLamps; split
  · exact (sendAndWait_kept _ _ _).after (onMember_kept _ _ s)
  · exact .refl s

theorem confirmLamps_kept (p : Nat) (l : List (Nat × Image)) (s : State) : Kept s (confirmLamps p l s) := onMember_kept _ _ s

theorem stallPanel_kept (p : Nat) (s : State) : Kept s (stallPanel p s) := by
  unfold stallPanel; split
  · exact (setFlagIf_apart _ _ _).toKept.after (onMember_kept _ _ s)
  · exact .refl s

theorem loseTurn_kept (n : Nat) (s : State) : ConfigKept s (loseTurn n s) := by
  unfold loseTurn; dsimp only
  refine (passOn_kept _).toConfigKept.after ((sendRing_kept _).toConfigKept.after ?_)
  split
  · split
    · exact ⟨rfl, id, id, id⟩
    · exact .refl s
  · exact .refl s

theorem hearActivity_kept (c : Option BusOther) (s : State) : ConfigKept s (hearActivity c s) := by
  unfold hearActivity; split
  · exact (noteActivity_kept s).toConfigKept
  · split
    · exact (badPbFrame_kept s).toConfigKept
    · split
      · exact .refl s
      · exact (answerProbe_kept _).after (heard_kept _ s).toConfigKept

theorem pbFrameSent_kept (s : State) : Kept s (pbFrameSent s) := by
  unfold pbFrameSent; split
  · exact .refl s
  · dsimp only; split
    · exact setPbc_kept rfl rfl
    · split <;> exact setPbc_kept rfl rfl

theorem hearPass_kept (t : Byte) (s : State) : ConfigKept s (hearPass t s) := by
  unfold hearPass; dsimp only
  have h := heard_kept [t] s
  generalize lapseReservation (cleanFrame [t] s) = u at h ⊢
  refine (answerProbe_kept _).after (h.toConfigKept.trans ?_)
  split
  · exact setPbc_config rfl rfl
  · exact setPbc_config rfl rfl
  · split
    · exact (beginTurn_kept u).toConfigKept
    · exact .refl u
  · exact .refl u

theorem hearAsk_kept (f t : Byte) (s : State) : ConfigKept s (hearAsk f t s) := by
  unfold hearAsk; dsimp only
  have h := heard_kept [f, t] s
  generalize lapseReservation (cleanFrame [f, t] s) = u at h ⊢
  refine (answerProbe_kept _).after (h.toConfigKept.trans ?_)
  split
  · split
    · exact ⟨rfl, id, id, id⟩
    · exact (sendPb_kept _ u).toConfigKept
  · exact .refl u

theorem hearCargo_kept (f t q : Byte) (l : List Byte) (s : State) : ConfigKept s (hearCargo f t q l s) := by
  unfold hearCargo; dsimp only
  have h := cleanFrame_kept [f, t] s
  generalize cleanFrame [f, t] s = u at h ⊢
  refine (answerProbe_kept _).after ((lapseReservation_kept _).toConfigKept.after (h.toConfigKept.trans ?_))
  split
  · exact (takeCargo_kept _ _ _ u).toConfigKept
  · exact .refl u

theorem hearRoom_kept (f t : Byte) (s : State) : ConfigKept s (hearRoom f t s) := by
  unfold hearRoom; dsimp only
  have h := heard_kept [f, t] s
  generalize lapseReservation (cleanFrame [f, t] s) = u at h ⊢
  refine (answerProbe_kept _).after (h.toConfigKept.trans ?_)
  split
  · split
    · exact (sendLamps_kept _ u).toConfigKept
    · exact .refl u
  · exact .refl u

theorem hearNoroom_kept (f t : Byte) (s : State) : ConfigKept s (hearNoroom f t s) := by
  unfold hearNoroom; dsimp only
  have h := heard_kept [f, t] s
  generalize lapseReservation (cleanFrame [f, t] s) = u at h ⊢
  refine (answerProbe_kept _).after (h.toConfigKept.trans ?_)
  split
  · split
    · exact ((stallPanel_kept _ u).trans (nextExchange_kept _)).toConfigKept
    · exact .refl u
  · exact .refl u

theorem hearGot_kept (f t : Byte) (s : State) : ConfigKept s (hearGot f t s) := by
  unfold hearGot; dsimp only
  have h := heard_kept [f, t] s
  generalize lapseReservation (cleanFrame [f, t] s) = u at h ⊢
  refine (answerProbe_kept _).after (h.toConfigKept.trans ?_)
  split
  · split
    · exact ((confirmLamps_kept _ _ u).trans (nextExchange_kept _)).toConfigKept
    · exact .refl u
  · exact .refl u

theorem hearHere_kept (f k : Byte) (unit : BitVec 32) (n : Byte) (s : State) : ConfigKept s (hearHere f k unit n s) := by
  unfold hearHere; dsimp only
  refine (heard_kept [f] s).toConfigKept.trans ?_
  generalize lapseReservation (cleanFrame [f] s) = u
  split
  · exact endProbe_kept _ u
  · exact .refl u

theorem closeProbe_kept (s : State) : ConfigKept s (closeProbe s) := by
  unfold closeProbe; split
  · exact endProbe_kept _ s
  · exact .refl s

theorem closeAsk_kept (s : State) : Kept s (closeAsk s) := by
  unfold closeAsk; split
  · exact nextExchange_kept s
  · exact .refl s

theorem closeCargo_kept (s : State) : Kept s (closeCargo s) := by
  unfold closeCargo; split
  · exact nextExchange_kept s
  · exact .refl s

theorem closePass_kept (s : State) : ConfigKept s (closePass s) := by
  unfold closePass; split
  · exact (sendAndWait_kept _ _ s).toConfigKept
  · exact loseTurn_kept _ s
  · exact .refl s

theorem lapseRoom_kept (s : State) : Kept s (lapseRoom s) := by
  unfold lapseRoom; split
  · exact lapseReservation_kept s
  · exact .refl s

theorem endChecking_kept (s : State) : Kept s (endChecking s) := by
  unfold endChecking; split
  · exact startSweep_kept s
  · exact .refl s

theorem endCensusInterval_kept (s : State) : Kept s (endCensusInterval s) := by
  unfold endCensusInterval; split
  · exact beginTurn_kept s
  · exact .refl s

theorem softResetPbc_kept (s : State) : Kept s (softResetPbc s) := by
  unfold softResetPbc; dsimp only
  have h0 : Kept s (setFlagIf (!s.pbc.roster.isEmpty) .roster
      { s with pbc := { Pbc.powerOn with
        id := s.pbc.id, busAuto := s.pbc.busAuto, timing := s.pbc.timing, lastCensus := s.now
        turn := { s.pbc.turn with holds := false, made := 0, chosen := [] } } }) :=
    (setFlagIf_apart _ _ _).toKept.after (setPbc_kept rfl rfl)
  split
  · exact h0
  · split
    · exact h0.trans (startChecking_kept _)
    · exact h0.trans (enterListening_kept _)

end Sys2Proof.Machine
end


section
/-! SUPPORT. One case analysis over the commands: a property of the state that every effect on PBC, KD and the settings keeps, and
that other blocks' effects leave alone, is kept by every step. -/

namespace Sys2Proof.Machine

/-! ### Requests -/

/-- The state a block's answer leaves. -/
def Answer.state : Answer → State
  | .now _ _ s => s
  | .later s => s

@[simp] theorem Answer.state_now (c : Code) (l : List Byte) (s : State) : (Answer.now c l s).state = s := rfl
@[simp] theorem Answer.state_later (s : State) : (Answer.later s).state = s := rfl
@[simp] theorem Answer.state_refuse (c : Code) (s : State) : (Answer.refuse c s).state = s := rfl

@[simp] theorem Answer.loaded_state (a : Answer) : a.loaded.1 = a.state := by cases a <;> rfl

/-- A request's own effect keeps a property. -/
def OwnKeeps (P : State → Prop) (own : List Byte → State → Answer) : Prop := ∀ body s, P s → P (own body s).state

theorem OwnKeeps.noFields {P : State → Prop} {own : State → Answer} (h : ∀ s, P s → P (own s).state) :
    OwnKeeps P (noFields own) := by
  intro body s hs
  unfold Machine.noFields; split
  · exact h s hs
  · exact hs

theorem discardFrame_frame (s : State) : OnlyChanges [.cp] s (discardFrame s) := by
  intro p hp; cases p <;> first | rfl | simp at hp

theorem setCp_frame (cp : Cp) (s : State) : OnlyChanges [.cp] s { s with cp := cp } := by
  intro p hp; cases p <;> first | rfl | simp at hp

theorem setCp_apart (cp : Cp) (s : State) : Apart s { s with cp := cp } := .of_cp (setCp_frame cp s)

theorem discardReceived_apart (s : State) : Apart s (discardReceived s) := by
  unfold discardReceived; split
  · exact .of_cp (discardFrame_frame s)
  · exact .refl s

theorem refuseUnknown_apart (kind tag : Byte) (body : List Byte) (s : State) : Apart s (refuseUnknown kind tag body s) := by
  unfold refuseUnknown; split
  · exact .of_cp (discardFrame_frame s)
  · dsimp only; split
    · exact setCp_apart _ s
    · split <;> exact setCp_apart _ s

theorem beginNotice_apart (s : State) : Apart s (beginNotice s) := by
  unfold beginNotice; split
  · exact setCp_apart _ s
  · exact .refl s

theorem tickMillis_apart (s : State) : Apart s (tickMillis s) := ⟨⟨⟨rfl, id, id, id⟩, rfl⟩, rfl, rfl⟩

theorem badRouterFrame_apart (s : State) : Apart s (badRouterFrame s) := ⟨⟨⟨rfl, id, id, id⟩, rfl⟩, rfl, rfl⟩

theorem badMatrixFrame_apart (s : State) : Apart s (badMatrixFrame s) := ⟨⟨⟨rfl, id, id, id⟩, rfl⟩, rfl, rfl⟩

/-- A request goes by CP's checks, which leave everything else alone, or to its block. -/
theorem takeRequest_keeps {P : State → Prop} (hcp : ∀ {s t}, Apart s t → P s → P t) (kind tag : Byte) (cls : Class)
    (body : List Byte) {own : List Byte → State → Answer} (hown : OwnKeeps P own) {s : State} (hs : P s) :
    P (takeRequest kind tag cls body own s) := by
  have cp' (cp : Cp) : P { s with cp := cp } := hcp (setCp_apart cp s) hs
  unfold takeRequest
  split
  · exact hcp (.of_cp (discardFrame_frame s)) hs
  · dsimp only
    split
    · exact cp' _
    · split
      · exact cp' _
      · split
        · exact cp' _
        · split
          · rename_i t e
            have ht : P t := by
              have := hown body { s with cp := { s.cp with inFrame := false, outstanding := s.cp.outstanding ++ [⟨tag, kind⟩] } } (cp' _)
              rwa [e] at this
            exact hcp (setCp_apart _ t) ht
          · rename_i t e
            have := hown body { s with cp := { s.cp with inFrame := false, outstanding := s.cp.outstanding ++ [⟨tag, kind⟩] } } (cp' _)
            rwa [e] at this

/-! ### Every command -/

/-- What a property of PBC, KD and the settings needs to be kept by every step: it holds at power-on, the effects of the other blocks
leave it alone, and it is kept by each effect on PBC, on KD and on a setting. -/
structure EffectsKeep (P : State → Prop) : Prop where
  apart : ∀ {s t}, Apart s t → P s → P t
  powerOn : ∀ straps memory pending, P (State.powerOn straps memory pending)
  setNode : OwnKeeps P ownSetNode
  busEnable : OwnKeeps P ownBusEnable
  busTiming : OwnKeeps P ownBusTiming
  busAuto : OwnKeeps P ownBusAuto
  sweepNow : ∀ s, P s → P (ownSweepNow s).state
  forget : OwnKeeps P ownForget
  setPanel : OwnKeeps P ownSetPanel
  setKey : OwnKeeps P ownSetKey
  keyTiming : OwnKeeps P ownKeyTiming
  setSource : OwnKeeps P ownSetSource
  routerTiming : OwnKeeps P ownRouterTiming
  setMixer : OwnKeeps P ownSetMixer
  setBinding : OwnKeeps P ownSetBinding
  setPosition : OwnKeeps P ownSetPosition
  setHouse : OwnKeeps P ownSetHouse
  setLamp : OwnKeeps P ownSetLamp
  lampTiming : OwnKeeps P ownLampTiming
  setPort : OwnKeeps P ownSetPort
  setGroup : OwnKeeps P ownSetGroup
  addStanding : OwnKeeps P ownAddStanding
  standingEntry : OwnKeeps P ownStandingEntry
  dropStanding : OwnKeeps P ownDropStanding
  gainTiming : OwnKeeps P ownGainTiming
  profileLoad : ∀ tag s, P s → P (ownProfileLoad tag s).state
  busAutoStep : ∀ s, P s → P (busAutoStep s)
  softResetPbc : ∀ s, P s → P (softResetPbc s)
  softResetKd : ∀ s, P s → P (softResetKd s)
  badFrame : ∀ s, P s → P (badPbFrame s)
  activity : ∀ c s, P s → P (hearActivity c s)
  frameSent : ∀ s, P s → P (pbFrameSent s)
  pass : ∀ t s, P s → P (hearPass t s)
  ask : ∀ f t s, P s → P (hearAsk f t s)
  cargo : ∀ f t q l s, P s → P (hearCargo f t q l s)
  room : ∀ f t s, P s → P (hearRoom f t s)
  noroom : ∀ f t s, P s → P (hearNoroom f t s)
  got : ∀ f t s, P s → P (hearGot f t s)
  here : ∀ f k u n s, P s → P (hearHere f k u n s)
  probeClose : ∀ s, P s → P (closeProbe s)
  askClose : ∀ s, P s → P (closeAsk s)
  cargoClose : ∀ s, P s → P (closeCargo s)
  passClose : ∀ s, P s → P (closePass s)
  roomClose : ∀ s, P s → P (lapseRoom s)
  checking : ∀ s, P s → P (endChecking s)
  silence : ∀ s, P s → P (endSilence s)
  census : ∀ s, P s → P (endCensusInterval s)
  absence : ∀ n s, P s → P (endAbsence n s)
  departure : ∀ n s, P s → P (takeDeparture n s)
  join : ∀ n s, P s → P (takeJoin n s)
  dispatch : ∀ s, P s → P (dispatchOldest s)
  tapWindow : ∀ n k s, P s → P (endTapWindow n k s)
  latchLimit : ∀ n k s, P s → P (endLatchLimit n k s)
  refusal : ∀ n k s, P s → P (endRefusal n k s)
  outcome : ∀ s, P s → P (takeOutcome s)
  fire : ∀ s, P s → P (takeFire s)
  imageReport : ∀ r s, P s → P (takeReportOf r s)

section
variable {P : State → Prop}

theorem ownKeeps_of_apart (hP : ∀ {s t}, Apart s t → P s → P t) {own : List Byte → State → Answer}
    (h : ∀ body s, Apart s (own body s).state) : OwnKeeps P own := fun body s hs => hP (h body s) hs

theorem EffectsKeep.softReset (h : EffectsKeep P) (b : Block) (s : State) (hs : P s) : P (softReset b s) := by
  cases b
  case cp => exact h.apart (setCp_apart _ s) hs
  case pbc => exact h.softResetPbc s hs
  case kd => exact h.softResetKd s hs
  case rc => exact h.apart (softResetRc_apart s) hs
  case mm => exact h.apart (softResetMm_apart s) hs
  case tr => exact h.apart (followTrReset_apart s) hs
  case ld => exact h.apart (softResetLd_apart s) hs
  case te => exact h.apart (softResetTe_apart s) hs
  case ml => exact h.apart (softResetMl_apart s) hs
  case tb => exact hs
  case pm => exact h.apart (softResetPm_apart s) hs

theorem EffectsKeep.resetBlock (h : EffectsKeep P) (b : Block) (s : State) (hs : P s) : P (resetBlock b s) := by
  unfold Machine.resetBlock
  split
  · exact hs
  · split
    · have ht := h.softReset b s hs
      generalize Machine.softReset b s = t at ht ⊢
      dsimp only; split
      · exact h.apart ((deferredReply_apart _ _ _ _ _).after (setCp_apart _ t)) ht
      · exact h.apart (setCp_apart _ t) ht
    · exact hs

/-! #### The walk and the save -/

theorem EffectsKeep.endWalk (h : EffectsKeep P) (w : Walk) (how : WalkEnd) (s : State) (hs : P s) : P (endWalk w how s) := by
  unfold Machine.endWalk; dsimp only
  have hu : P (setFlagIf (how != .course) .profile { s with pm := { s.pm with op := .idle, transfer := none, unacked := 0 } }) :=
    h.apart (s := s) ((setFlagIf_apart _ _ _).after ⟨⟨⟨rfl, id, id, id⟩, rfl⟩, rfl, rfl⟩) hs
  generalize setFlagIf (how != .course) .profile { s with pm := { s.pm with op := .idle, transfer := none, unacked := 0 } } = u at hu ⊢
  split
  · exact h.busAutoStep _ (h.apart ((settleTallies_apart u).trans (setCp_apart _ _)) hu)
  · exact h.apart (deferredReply_apart _ _ _ _ _) (h.busAutoStep u hu)

theorem EffectsKeep.reachSection (h : EffectsKeep P) (off : Nat) (w : Walk) (s : State) (hs : P s) : P (reachSection off w s) := by
  unfold Machine.reachSection; split
  · exact h.endWalk _ _ s hs
  · dsimp only; split
    · exact h.endWalk _ _ s hs
    · split
      · exact h.endWalk _ _ s hs
      · exact h.apart ((setWalk_apart _ s).trans (startTransfer_apart _ _)) hs

theorem EffectsKeep.openSection (h : EffectsKeep P) (head body : List Byte) (w : Walk) (s : State) (hs : P s) :
    P (openSection head body w s) := by
  unfold Machine.openSection; dsimp only; split
  · exact h.endWalk _ _ s hs
  · split
    · exact h.reachSection _ _ s hs
    · split
      · exact h.reachSection _ _ s hs
      · exact h.apart (setWalk_apart _ s) hs

theorem EffectsKeep.readBody (h : EffectsKeep P) (off : Nat) (head : List Byte) (w : Walk) (s : State) (hs : P s) :
    P (readBody off head w s) := by
  unfold Machine.readBody; dsimp only; split
  · exact h.endWalk _ _ s hs
  · split
    · exact h.openSection _ _ _ s hs
    · exact h.apart ((setWalk_apart _ s).trans (startTransfer_apart _ _)) hs

theorem EffectsKeep.walkOn (h : EffectsKeep P) (w : Walk) (bytes : List Byte) (s : State) (hs : P s) : P (walkOn w bytes s) := by
  unfold Machine.walkOn; split
  · split
    · exact h.endWalk _ _ s hs
    · exact h.reachSection _ _ s hs
  · exact h.readBody _ _ _ s hs
  · exact h.openSection _ _ _ s hs
  · exact hs

theorem EffectsKeep.walkFailed (h : EffectsKeep P) (w : Walk) (s : State) (hs : P s) : P (walkFailed w s) := by
  unfold Machine.walkFailed; split <;> exact h.endWalk _ _ s hs

theorem EffectsKeep.transferDone (h : EffectsKeep P) (t : Transfer) (s : State) (hs : P s) : P (transferDone t s) := by
  unfold Machine.transferDone; dsimp only
  have hu : P (storeWrite t { s with pm := { s.pm with transfer := none, unacked := 0 } }) :=
    h.apart (s := s) ((storeWrite_apart _ _).after ⟨⟨⟨rfl, id, id, id⟩, rfl⟩, rfl, rfl⟩) hs
  generalize storeWrite t { s with pm := { s.pm with transfer := none, unacked := 0 } } = u at hu ⊢
  split
  · exact hu
  · exact h.walkOn _ _ u hu
  · exact h.apart (saveOn_apart _ u) hu

theorem EffectsKeep.transferFailed (h : EffectsKeep P) (s : State) (hs : P s) : P (transferFailed s) := by
  unfold Machine.transferFailed; split
  · exact hs
  · exact h.walkFailed _ s hs
  · exact h.apart (endSave_apart _ _ s) hs

theorem EffectsKeep.addressRetry (h : EffectsKeep P) (s : State) (hs : P s) : P (addressRetry s) := by
  unfold Machine.addressRetry; split
  · exact hs
  · split
    · exact hs
    · split
      · exact h.transferFailed s hs
      · exact h.apart (s := s) ⟨⟨⟨rfl, id, id, id⟩, rfl⟩, rfl, rfl⟩ hs

theorem EffectsKeep.writeUnacknowledged (h : EffectsKeep P) (n : Nat) (t : Transfer) (s : State) (hs : P s) :
    P (writeUnacknowledged n t s) := by
  unfold Machine.writeUnacknowledged; split
  · exact hs
  · split
    · exact h.transferFailed _ (h.apart (storeWrite_apart _ s) hs)
    · exact hs

/-! #### Profile entries -/

theorem applySetting_keeps {own : List Byte → State → Answer} (h : OwnKeeps P own) (body : List Byte) {acc : State × Nat}
    (hs : P acc.1) : P (applySetting own body acc).1 := by
  unfold applySetting; dsimp only; rw [Answer.loaded_state]; exact h body _ hs

theorem EffectsKeep.applySettings (h : EffectsKeep P) (b : List Byte) (s : State) (hs : P s) : P (applySettings b s).1 := by
  unfold Machine.applySettings; dsimp only
  refine applySetting_keeps h.gainTiming _ (applySetting_keeps h.setMixer _ (applySetting_keeps h.setMixer _ ?_))
  refine applySetting_keeps h.routerTiming _ (applySetting_keeps h.keyTiming _ (applySetting_keeps h.busTiming _ ?_))
  exact applySetting_keeps h.busAuto _ (applySetting_keeps h.setNode _ hs)

theorem ownProtectRequest_apart (body : List Byte) (s : State) : Apart s (ownProtectRequest body s).state := by
  unfold ownProtectRequest; split
  · split
    · exact .refl s
    · split
      · exact .refl s
      · exact setProtect_apart _ _ s
  · exact .refl s

theorem ownDestEntry_apart (body : List Byte) (s : State) : Apart s (ownDestEntry body s).state := by
  unfold ownDestEntry; split
  · split
    · exact .refl s
    · exact ownProtectRequest_apart _ s
  · exact .refl s

theorem ownDefineSalvo_apart (body : List Byte) (s : State) : Apart s (ownDefineSalvo body s).state := by
  unfold ownDefineSalvo; dsimp only
  repeat' split
  all_goals first
    | exact .refl s
    | exact ⟨⟨⟨rfl, id, id, id⟩, rfl⟩, rfl, rfl⟩

theorem EffectsKeep.entryRequest (h : EffectsKeep P) (kind ordinal : Nat) (body : List Byte) (s : State) (hs : P s) :
    P (entryRequest kind ordinal body s).state := by
  unfold Machine.entryRequest; split
  · exact h.setPort body s hs
  · exact h.setGroup body s hs
  · exact h.standingEntry body s hs
  · exact h.setPanel body s hs
  · exact h.setKey body s hs
  · exact h.setSource body s hs
  · exact h.apart (ownDestEntry_apart body s) hs
  · exact h.setBinding body s hs
  · exact h.setPosition body s hs
  · exact h.apart (ownDefineSalvo_apart body s) hs
  · split
    · exact h.setHouse body s hs
    · exact h.lampTiming body s hs
    · exact h.setLamp body s hs
  · exact hs

theorem EffectsKeep.applyEntry (h : EffectsKeep P) (kind ordinal : Nat) (body : List Byte) (s : State) (hs : P s) :
    P (applyEntry kind ordinal body s).1 := by
  unfold Machine.applyEntry; split
  · exact h.applySettings body s hs
  · rw [Answer.loaded_state]; unfold ownEntry; split
    · exact h.entryRequest kind ordinal body s hs
    · exact hs

theorem EffectsKeep.afterEntry (h : EffectsKeep P) (w : Walk) (kind ordinal next : Nat) (rest : List Byte) (loaded : Bool)
    (s : State) (hs : P s) : P (afterEntry w kind ordinal next rest loaded s) := by
  unfold Machine.afterEntry; dsimp only
  have hu : P (setFlagIf (!loaded) .profile s) := h.apart (setFlagIf_apart _ _ s) hs
  split
  · exact h.reachSection _ _ _ hu
  · exact h.apart (setWalk_apart _ _) hu

theorem EffectsKeep.applyNextEntry (h : EffectsKeep P) (s : State) (hs : P s) : P (applyNextEntry s) := by
  unfold Machine.applyNextEntry; split
  · split
    · split
      · exact h.afterEntry _ _ _ _ _ _ s hs
      · split
        · exact h.afterEntry _ _ _ _ _ _ s hs
        · exact h.afterEntry _ _ _ _ _ _ _ (h.applyEntry _ _ _ s hs)
    · exact hs
  · exact hs

/-! #### Requests that touch neither PBC nor KD nor a setting -/

theorem ownTake_apart (tag : Byte) (body : List Byte) (s : State) : Apart s (ownTake tag body s).state := by
  unfold ownTake; dsimp only
  repeat' split
  all_goals first
    | exact .refl s
    | exact enqueue_apart _ _ _ s

theorem ownTakeCancel_apart (s : State) : Apart s (ownTakeCancel s).state := by
  unfold ownTakeCancel; split
  · exact .refl s
  · exact (fillWindow_apart _).after ((deliver_apart _ _ _ _ _).after (setQueue_apart _ s))

theorem ownFireSalvo_apart (tag : Byte) (body : List Byte) (s : State) : Apart s (ownFireSalvo tag body s).state := by
  unfold ownFireSalvo
  repeat' split
  all_goals first
    | exact .refl s
    | exact startFire_apart _ _ s

theorem ownSetDest_apart (body : List Byte) (s : State) : Apart s (ownSetDest body s).state := by
  unfold ownSetDest
  repeat' split
  all_goals first
    | exact .refl s
    | exact relearn_apart _ _ s

theorem ownCall_apart (body : List Byte) (s : State) : Apart s (ownCall body s).state := by
  unfold ownCall
  split
  · split
    · exact .refl s
    · exact changeCalls_apart _ (f := fun x => { x with hostCall := some (after s.now (clampN 1 30 _ * 1000)) }) (fun _ => rfl) s
  · exact .refl s

theorem ownSetMask_apart (body : List Byte) (s : State) : Apart s (ownSetMask body s).state := by
  unfold ownSetMask; split
  · exact .refl s
  · exact setCp_apart _ s

theorem ownClearFlags_apart (body : List Byte) (s : State) : Apart s (ownClearFlags body s).state := by
  unfold ownClearFlags; split
  · exact .refl s
  · exact setCp_apart _ s

theorem ownProfileSave_apart (tag : Byte) (s : State) : Apart s (ownProfileSave tag s).state := by
  unfold ownProfileSave; split
  · exact .refl s
  · exact (startTransfer_apart _ _).after ⟨⟨⟨rfl, id, id, id⟩, rfl⟩, rfl, rfl⟩

theorem ownReadRoster_state (body : List Byte) (s : State) : (ownReadRoster body s).state = s := by
  unfold ownReadRoster; split <;> rfl

theorem ownReadPanel_state (body : List Byte) (s : State) : (ownReadPanel body s).state = s := by
  unfold ownReadPanel
  repeat' split
  all_goals rfl

theorem ownReadDest_state (body : List Byte) (s : State) : (ownReadDest body s).state = s := by
  unfold ownReadDest; dsimp only
  repeat' split
  all_goals rfl

theorem ownReadQueue_state (body : List Byte) (s : State) : (ownReadQueue body s).state = s := by
  unfold ownReadQueue; split <;> rfl

theorem ownReadMixer_state (body : List Byte) (s : State) : (ownReadMixer body s).state = s := by
  unfold ownReadMixer
  repeat' split
  all_goals rfl

theorem ownReadTally_state (body : List Byte) (s : State) : (ownReadTally body s).state = s := by
  unfold ownReadTally
  repeat' split
  all_goals rfl

theorem ownReadPaths_state (body : List Byte) (s : State) : (ownReadPaths body s).state = s := by
  unfold ownReadPaths; dsimp only
  repeat' split
  all_goals rfl

theorem ownKeeps_of_read {own : List Byte → State → Answer} (h : ∀ body s, (own body s).state = s) : OwnKeeps P own :=
  fun body s hs => by rw [h]; exact hs

/-! #### The step -/

theorem EffectsKeep.request (h : EffectsKeep P) {k : ReqKind} {c : Class} {own : List Byte → State → Answer} {tag : Byte}
    {body : List Byte} {s t : State} (hown : OwnKeeps P own) (hs : P s) (e : request k c own tag body s = .next t) : P t := by
  cases e
  exact h.apart (announce_apart _) (takeRequest_keeps h.apart _ _ _ _ hown hs)

theorem EffectsKeep.finish (h : EffectsKeep P) {s t : State} (hs : P s) (e : finish s = .next t) : P t := by
  cases e; exact h.apart (announce_apart s) hs

theorem EffectsKeep.withTransfer (h : EffectsKeep P) {act : Transfer → State → State} (ha : ∀ x s, P s → P (act x s)) {s t : State}
    (hs : P s) (e : withTransfer act s = .next t) : P t := by
  unfold Machine.withTransfer at e
  split at e
  · exact h.finish hs e
  · split at e
    · cases e
    · exact h.finish (ha _ s hs) e

/-- A frame with a field out of range counts as one that is not clean. -/
theorem EffectsKeep.frame (h : EffectsKeep P) {c : Bool} {u s t : State} (hu : P u) (hs : P s)
    (e : Machine.finish (if c then u else badPbFrame s) = .next t) : P t := by
  refine h.finish ?_ e
  split
  · exact hu
  · exact h.badFrame s hs

theorem writeBus_intervals (b i : Nat) (m : MixerRec) : (writeBus b i m).stale = m.stale ∧ (writeBus b i m).withdraw = m.withdraw :=
  countInput_intervals i _

theorem writeKeyer_intervals (k : Nat) (o : Bool) (i : Nat) (m : MixerRec) :
    (writeKeyer k o i m).stale = m.stale ∧ (writeKeyer k o i m).withdraw = m.withdraw := countInput_intervals i _

theorem record_apart {c : Bool} {x : Mixer} {write : MixerRec → MixerRec}
    (h : ∀ m, (write m).stale = m.stale ∧ (write m).withdraw = m.withdraw) (s : State) :
    Apart s (if c then takeRecord x write s else badMixerFrame x s) := by
  split
  · exact takeRecord_apart x h s
  · exact badMixerFrame_apart x s

theorem EffectsKeep.exec (h : EffectsKeep P) (i : Instr) {s t : State} (hs : P s) (e : exec i s = .next t) : P t := by
  have other {u : State} (hu : Apart s u) (e : Machine.finish u = .next t) : P t := h.finish (h.apart hu hs) e
  have own {k : ReqKind} {c : Class} {f : List Byte → State → Answer} {tag : Byte} {body : List Byte} (hf : OwnKeeps P f)
      (e : Machine.request k c f tag body s = .next t) : P t := h.request hf hs e
  cases i
  case powerOn => exact h.finish (h.powerOn _ _ _) e
  case controlFrameDiscard => exact other (discardReceived_apart s) e
  case controlGapExpiry => exact other (discardReceived_apart s) e
  case unknownKind => exact other (refuseUnknown_apart _ _ _ s) e
  case noticeTransmitStart => exact other (beginNotice_apart s) e
  case setNode => exact own h.setNode e
  case busEnable => exact own h.busEnable e
  case busTiming => exact own h.busTiming e
  case sweepNow => exact own (.noFields h.sweepNow) e
  case forget => exact own h.forget e
  case readRoster => exact own (ownKeeps_of_read ownReadRoster_state) e
  case setPanel => exact own h.setPanel e
  case setKey => exact own h.setKey e
  case keyTiming => exact own h.keyTiming e
  case readPanel => exact own (ownKeeps_of_read ownReadPanel_state) e
  case setSource => exact own h.setSource e
  case setDest => exact own (ownKeeps_of_apart h.apart ownSetDest_apart) e
  case protect => exact own (ownKeeps_of_apart h.apart ownProtectRequest_apart) e
  case defineSalvo => exact own (ownKeeps_of_apart h.apart ownDefineSalvo_apart) e
  case readDest => exact own (ownKeeps_of_read ownReadDest_state) e
  case take tag _ => exact own (ownKeeps_of_apart h.apart (ownTake_apart tag)) e
  case takeCancel => exact own (.noFields fun s hs => h.apart (ownTakeCancel_apart s) hs) e
  case fireSalvo tag _ => exact own (ownKeeps_of_apart h.apart (ownFireSalvo_apart tag)) e
  case routerTiming => exact own h.routerTiming e
  case readQueue => exact own (ownKeeps_of_read ownReadQueue_state) e
  case setMixer => exact own h.setMixer e
  case readMixer => exact own (ownKeeps_of_read ownReadMixer_state) e
  case setBinding => exact own h.setBinding e
  case setPosition => exact own h.setPosition e
  case call => exact own (ownKeeps_of_apart h.apart ownCall_apart) e
  case readTally => exact own (ownKeeps_of_read ownReadTally_state) e
  case setHouse => exact own h.setHouse e
  case setLamp => exact own h.setLamp e
  case lampTiming => exact own h.lampTiming e
  case setPort => exact own h.setPort e
  case setGroup => exact own h.setGroup e
  case addStanding => exact own h.addStanding e
  case dropStanding => exact own h.dropStanding e
  case readPaths => exact own (ownKeeps_of_read ownReadPaths_state) e
  case gainTiming => exact own h.gainTiming e
  case readMatrix => exact own (.noFields (own := ownReadMatrix) fun _ hs => hs) e
  case status => exact own (.noFields (own := ownStatus) fun _ hs => hs) e
  case identify => exact own (.noFields (own := ownIdentify) fun _ hs => hs) e
  case setMask => exact own (ownKeeps_of_apart h.apart ownSetMask_apart) e
  case clearFlags => exact own (ownKeeps_of_apart h.apart ownClearFlags_apart) e
  case reset => exact own (.noFields fun s hs => h.apart (setCp_apart _ s) hs) e
  case blockSoftReset b => exact h.finish (h.resetBlock b s hs) e
  case profileSave tag _ => exact own (.noFields fun s hs => h.apart (ownProfileSave_apart tag s) hs) e
  case profileLoad tag _ => exact own (.noFields (h.profileLoad tag)) e
  case pbBadFrame => exact h.finish (h.badFrame s hs) e
  case pbGapExpiry => exact h.finish (h.badFrame s hs) e
  case activity c => exact h.finish (h.activity c s hs) e
  case pbFrameSent => exact h.finish (h.frameSent s hs) e
  case passReceived => exact h.frame (h.pass _ s hs) hs e
  case askReceived => exact h.frame (h.ask _ _ s hs) hs e
  case cargoReceived => exact h.frame (h.cargo _ _ _ _ s hs) hs e
  case roomReceived => exact h.frame (h.room _ _ s hs) hs e
  case noroomReceived => exact h.frame (h.noroom _ _ s hs) hs e
  case gotReceived => exact h.frame (h.got _ _ s hs) hs e
  case hereReceived => exact h.frame (h.here _ _ _ _ s hs) hs e
  case probeWindowClose => exact h.finish (h.probeClose s hs) e
  case askWindowClose => exact h.finish (h.askClose s hs) e
  case cargoWindowClose => exact h.finish (h.cargoClose s hs) e
  case passWindowClose => exact h.finish (h.passClose s hs) e
  case reservationLapse => exact h.finish (h.roomClose s hs) e
  case checkingExpiry => exact h.finish (h.checking s hs) e
  case silenceExpiry => exact h.finish (h.silence s hs) e
  case censusIntervalExpiry => exact h.finish (h.census s hs) e
  case absenceExpiry n => exact h.finish (h.absence n s hs) e
  case kdDeparture n => exact h.finish (h.departure n s hs) e
  case kdJoin n => exact h.finish (h.join n s hs) e
  case rcRelease n => exact other (takeRelease_apart n s) e
  case dispatch => exact h.finish (h.dispatch s hs) e
  case tapWindowExpiry => exact h.finish (h.tapWindow _ _ s hs) e
  case latchLimitExpiry => exact h.finish (h.latchLimit _ _ s hs) e
  case refusalIndicationExpiry => exact h.finish (h.refusal _ _ s hs) e
  case kdTakeOutcome => exact h.finish (h.outcome s hs) e
  case kdFireCompletion => exact h.finish (h.fire s hs) e
  case kdImageReport r => exact h.finish (h.imageReport r s hs) e
  case routerBadFrame => exact other (badRouterFrame_apart s) e
  case routerGapExpiry => exact other (badRouterFrame_apart s) e
  case routerFrameSent => exact other (routerFrameSent_apart s) e
  case xdone => exact other (takeXdone_apart _ _ s) e
  case xfail => exact other (takeXfail_apart _ _ s) e
  case xstate => exact other (takeXstate_apart _ _ s) e
  case xmoved => exact other (takeXmoved_apart _ _ s) e
  case takeReplyTimerExpiry => exact other (expireTake_apart _ s) e
  case queryReplyTimerExpiry => exact other (expireQuery_apart _ s) e
  case routerProbeTimer => exact other (sendProbe_apart s) e
  case mixerBadFrame x => exact other (badMixerFrame_apart x s) e
  case mixerGapExpiry x => exact other (badMixerFrame_apart x s) e
  case busRecord x b i => exact other (record_apart (writeBus_intervals _ _) s) e
  case transRecord x v => exact other (record_apart (write := writeTransition _) (fun _ => ⟨rfl, rfl⟩) s) e
  case keyerRecord => exact other (record_apart (writeKeyer_intervals _ _ _) s) e
  case aliveRecord x => exact other (takeRecord_apart x (fun _ => ⟨rfl, rfl⟩) s) e
  case staleExpiry x => exact other (expireStale_apart x s) e
  case withdrawExpiry x => exact other (expireWithdraw_apart x s) e
  case trRecomputation r => exact other (takeTallyReport_apart r s) e
  case hostCallExpiry p => exact other (expireHostCall_apart p s) e
  case ldRelight => exact other (takeRelight_apart s) e
  case ldCallStart p => exact other (takeCallReport_apart p _ s) e
  case ldCallEnd p => exact other (takeCallReport_apart p _ s) e
  case lampTick => exact other (lampTick_apart s) e
  case phaseExpiry p => exact other (expirePhase_apart p s) e
  case teLiveSetReport => exact other (takeLiveReport_apart s) e
  case teGuardReport => exact other (takeGuardReport_apart s) e
  case teRemovalReport => exact other (takeRemoval_apart s) e
  case gainTick => exact other (gainTick_apart s) e
  case matrixBadFrame => exact other (badMatrixFrame_apart s) e
  case matrixGapExpiry => exact other (badMatrixFrame_apart s) e
  case matrixFrameSent => exact other (matrixFrameSent_apart s) e
  case gainOk l t' =>
    refine other ?_ e
    split
    · exact takeGainOk_apart _ _ s
    · exact badMatrixFrame_apart s
  case gainReplyExpiry => exact other (expireGain_apart _ _ s) e
  case pingTimer => exact other (sendPing_apart s) e
  case pong => exact other (takePong_apart s) e
  case muteAllOk => exact other (takeMuteAllOk_apart s) e
  case muteAllExpiry => exact other (expireMuteAll_apart s) e
  case profileTransferDone => exact h.withTransfer h.transferDone hs e
  case profileAddressRetry => exact h.finish (h.addressRetry s hs) e
  case profileEntryApply => exact h.finish (h.applyNextEntry s hs) e
  case millisecondCountTick => exact other (tickMillis_apart s) e
  case syncFoundWhileHunting => exact other (setCp_apart _ s) e
  case writeByteNotAcknowledged n => exact h.withTransfer (h.writeUnacknowledged n) hs e

/-- A property that every effect keeps is kept by every step. -/
theorem EffectsKeep.step (h : EffectsKeep P) {s t : State} (hs : P s) (e : step s = .next t) : P t := by
  unfold Machine.step at e
  split at e
  · cases e
    unfold idle; split
    · exact h.apart (setCp_apart _ s) hs
    · exact hs
  · rename_i c rest _
    exact h.exec c (s := { s with pending := rest }) (h.apart (s := s) ⟨⟨⟨rfl, id, id, id⟩, rfl⟩, rfl, rfl⟩ hs) e

end

end Sys2Proof.Machine
end


section
/-! SUPPORT. Every request that writes a setting writes it within its range (O5). -/

namespace Sys2Proof.Machine

/-! ### Fields -/

/-- A setting that takes a field clamped into its range, or stays, lies in its range. -/
theorem clamped_range {lo hi old : Nat} (o : Option Nat) (hlo : lo ≤ hi) (h : lo ≤ old ∧ old ≤ hi) :
    lo ≤ (o.map (clampN lo hi)).getD old ∧ (o.map (clampN lo hi)).getD old ≤ hi := by
  cases o with
  | none => exact h
  | some n => exact ⟨(clampN_spec n hlo).1, (clampN_spec n hlo).2.1⟩

theorem clampedInt_range {lo hi old : Int} (o : Option Nat) (hlo : lo ≤ hi) (h : lo ≤ old ∧ old ≤ hi) :
    lo ≤ (o.map fun n => clampI lo hi (signedByte n)).getD old ∧ (o.map fun n => clampI lo hi (signedByte n)).getD old ≤ hi := by
  cases o with
  | none => exact h
  | some n => exact ⟨(clampI_spec _ hlo).1, (clampI_spec _ hlo).2.1⟩

theorem optIndex_le {hi n : Nat} (h : indexUpTo hi n = true) : ∀ p ∈ optIndex n, p ≤ hi := by
  intro p hp
  unfold optIndex at hp
  split at hp
  · cases hp
  · cases hp; simp only [indexUpTo, Bool.or_eq_true, decide_eq_true_eq, beq_iff_eq] at h; omega

/-- An index field that is given within its range, or is not given, leaves an index in its range. -/
theorem optField_le {hi : Nat} {o old : Option Nat} (h : okIf (indexUpTo hi) o = true) (ho : ∀ p ∈ old, p ≤ hi) :
    ∀ p ∈ (o.map optIndex).getD old, p ≤ hi := by
  cases o with
  | none => exact ho
  | some n => exact optIndex_le h

theorem manualField_le (n : Nat) : ∀ m ∈ manualField n, m ≤ 255 := by
  intro m hm
  unfold manualField at hm
  split at hm
  · cases hm
  · cases hm; exact (clampN_spec n (by omega)).2.1

/-! ### Lists in ascending order -/

theorem mem_insertAsc {l : List Nat} {i x : Nat} : x ∈ insertAsc l i ↔ x = i ∨ x ∈ l := by
  induction l with
  | nil => simp [insertAsc]
  | cons k t ih =>
    simp only [insertAsc]
    split
    · simp
    · split
      · subst_vars; simp
      · simp only [List.mem_cons, ih]; exact or_left_comm

theorem length_insertAsc_le (l : List Nat) (i : Nat) : (insertAsc l i).length ≤ l.length + 1 := by
  induction l with
  | nil => simp [insertAsc]
  | cons k t ih =>
    simp only [insertAsc]
    split
    · simp
    · split <;> simp only [List.length_cons] <;> omega

theorem mem_foldl_insertAsc {l acc : List Nat} {x : Nat} : x ∈ l.foldl insertAsc acc ↔ x ∈ l ∨ x ∈ acc := by
  induction l generalizing acc with
  | nil => simp
  | cons a l ih => simp only [List.foldl_cons, ih, mem_insertAsc, List.mem_cons]; tauto

theorem mem_sortAsc {l : List Nat} {x : Nat} : x ∈ sortAsc l ↔ x ∈ l := by
  simp [sortAsc, mem_foldl_insertAsc]

theorem length_foldl_insertAsc_le (l acc : List Nat) : (l.foldl insertAsc acc).length ≤ acc.length + l.length := by
  induction l generalizing acc with
  | nil => simp
  | cons a l ih =>
    have := ih (insertAsc acc a)
    have := length_insertAsc_le acc a
    simp only [List.foldl_cons, List.length_cons]; omega

theorem length_sortAsc_le (l : List Nat) : (sortAsc l).length ≤ l.length := by
  have := length_foldl_insertAsc_le l []
  simpa [sortAsc] using this

/-! ### Power-on -/

theorem settingsInRange_powerOn (straps : Straps) (memory : List Host.Cell) (pending : List Instr) :
    SettingsInRange (State.powerOn straps memory pending) := by
  constructor <;> simp [State.powerOn, Pbc.powerOn, BusTimings.default, Kd.powerOn, Rc.powerOn, Mm.powerOn, MixerRec.powerOn,
    MixerRec.inRange, Ld.powerOn, Te.powerOn, Ml.powerOn, Tr.powerOn]

/-! ### The Panel Bus's settings (R7, R28) -/

theorem applyNodeId_settings {n : Nat} {s t : State} (hn : n ≤ 63) (h : SettingsInRange s) (e : applyNodeId n s = some t) :
    SettingsInRange t := by
  have hid : SettingsInRange { s with pbc := { s.pbc with id := n } } := { h with node := hn }
  have hown : SettingsInRange (if (tfind s.pbc.roster n).isSome then removeEntry n { s with pbc := { s.pbc with id := n } }
      else { s with pbc := { s.pbc with id := n } }) := by
    split
    · exact hid.of_kept (removeEntry_kept n _).toConfigKept
    · exact hid
  unfold applyNodeId at e
  split at e
  · cases e; exact h
  · cases e; exact hown.of_kept (enterListening_kept _).toConfigKept
  · cases e; exact { h with node := by simp }
  · cases e; exact hown
  · cases e
  · cases e; exact hown.of_kept (startChecking_kept _).toConfigKept
  · cases e

theorem setNode_settings : OwnKeeps SettingsInRange ownSetNode := by
  intro body s h
  unfold ownSetNode
  split
  · split
    · exact h
    · split
      · exact h
      · rename_i n hn t e
        exact applyNodeId_settings (by omega) h e
  · exact h

theorem applyEnable_kept (on : Bool) (s : State) : ConfigKept s (applyEnable on s).state := by
  unfold applyEnable
  split
  · exact .refl s
  · exact .refl s
  · exact .refl s
  · exact (startChecking_kept s).toConfigKept
  · exact .refl s
  · exact leaveBus_kept s

theorem setBusAuto_kept (a : Bool) (s : State) : Kept s { s with pbc := { s.pbc with busAuto := a } } := ⟨⟨rfl, id, id, id⟩, rfl⟩

theorem ownBusEnable_kept (body : List Byte) (s : State) : ConfigKept s (ownBusEnable body s).state := by
  unfold ownBusEnable
  split
  · split
    · exact applyEnable_kept _ s
    · split
      · exact .refl s
      · exact (setBusAuto_kept _ s).toConfigKept.trans (applyEnable_kept _ _)
    · exact .refl s
  · exact .refl s

theorem ownBusAuto_kept (body : List Byte) (s : State) : Kept s (ownBusAuto body s).state := by
  unfold ownBusAuto
  split
  · split
    · exact .refl s
    · exact setBusAuto_kept _ s
  · exact .refl s

theorem applyBusTiming_settings (fs : List (Option Nat)) {s : State} (h : SettingsInRange s) : SettingsInRange (applyBusTiming fs s) := by
  unfold applyBusTiming; dsimp only
  have h0 : SettingsInRange { s with pbc := { s.pbc with timing := s.pbc.timing.update fs } } :=
    { h with
      reply := clamped_range _ (by omega) h.reply
      silence := clamped_range _ (by omega) h.silence
      budget := clamped_range _ (by omega) h.budget
      census := clamped_range _ (by omega) h.census
      stall := clamped_range _ (by omega) h.stall
      release := (clamped_range _ (by omega) ⟨Nat.zero_le _, h.release⟩).2 }
  generalize ({ s with pbc := { s.pbc with timing := s.pbc.timing.update fs } } : State) = u at h0 ⊢
  refine h0.of_kept ?_
  have h1 : ConfigKept u (if (fieldAt fs 4).isSome then applyStallLimit u else u) := by
    split
    · exact (applyStallLimit_kept u).toConfigKept
    · exact .refl u
  refine h1.trans ?_
  generalize (if (fieldAt fs 4).isSome then applyStallLimit u else u) = v
  have h2 : ConfigKept v (if (fieldAt fs 5).isSome then (v.pbc.roster.map (·.1)).foldl (fun t n => endAbsence n t) v else v) := by
    split
    · exact .foldl (fun t n => (endAbsence_kept n t).toConfigKept) _ v
    · exact .refl v
  refine h2.trans ?_
  generalize (if (fieldAt fs 5).isSome then (v.pbc.roster.map (·.1)).foldl (fun t n => endAbsence n t) v else v) = w
  split
  · exact (endSilence_kept w).toConfigKept
  · exact .refl w

theorem busTiming_settings : OwnKeeps SettingsInRange ownBusTiming := by
  intro body s h
  unfold ownBusTiming; split
  · exact h
  · exact applyBusTiming_settings _ h

theorem ownSweepNow_kept (s : State) : Kept s (ownSweepNow s).state := by
  unfold ownSweepNow; split
  · exact .refl s
  · dsimp only
    have h0 : Kept s { s with pbc := { s.pbc with sweepPending := true } } := ⟨⟨rfl, id, id, id⟩, rfl⟩
    simp only [Answer.state_now]
    split
    · exact h0.trans (startSweep_kept _)
    · exact h0

theorem ownForget_kept (body : List Byte) (s : State) : Kept s (ownForget body s).state := by
  unfold ownForget
  repeat' split
  all_goals first
    | exact .refl s
    | exact removeEntry_kept _ s

/-! ### Panels and keys (R32, R33, R56) -/

theorem storePanel_settings (n : Nat) {port : Option Nat} (mode : TakeMode) (hp : ∀ p ∈ port, p ≤ 95) {s : State}
    (h : SettingsInRange s) : SettingsInRange (storePanel n port mode s) := by
  unfold storePanel
  refine SettingsInRange.of_kept ?_ (refreshPanel_kept _ _ _).toConfigKept
  split
  · exact { h with panels := forall_tput h.panels ⟨hp, by simp [newPanel]⟩ }
  · rename_i r e
    have hr := h.panels _ (mem_of_tfind e)
    dsimp only
    have hu : SettingsInRange (if r.port = port then s else deactivatePanel talkOrListen n s) := by
      split
      · exact h
      · exact h.of_kept (deactivatePanel_kept _ n s).toConfigKept
    generalize (if r.port = port then s else deactivatePanel talkOrListen n s) = u at hu ⊢
    exact { hu with panels := forall_tput hu.panels ⟨hp, hr.2⟩ }

theorem removePanel_settings (n : Nat) {s : State} (h : SettingsInRange s) : SettingsInRange (removePanel n s) := by
  unfold removePanel; dsimp only
  have hu := h.of_kept (deactivatePanel_kept (fun _ => true) n s).toConfigKept
  generalize deactivatePanel (fun _ => true) n s = u at hu ⊢
  refine SettingsInRange.of_kept ?_ (refreshPanel_kept _ _ _).toConfigKept
  exact { hu with panels := forall_tdel hu.panels }

theorem setPanel_settings : OwnKeeps SettingsInRange ownSetPanel := by
  intro body s h
  unfold ownSetPanel
  split
  · split
    · exact h
    · split
      · exact h
      · rename_i hr
        simp only [Bool.or_eq_true, Bool.not_eq_true', not_or, Bool.not_eq_false] at hr
        exact storePanel_settings _ _ (optIndex_le hr.2) h
  · repeat' split
    all_goals first
      | exact h
      | exact removePanel_settings _ h
  · exact h

set_option smartUnfolding false in
/-- No kind above 8 has a form (R33). Through the tests of the kind byte, in their order: the match itself, on literal bytes, is
too deep for `split`. -/
theorem keyForm_unknown {k : Byte} (rest : List Byte) (h : 8 < k.toNat) : keyForm (k :: rest) = none := by
  have ne (j : Byte) (hj : j.toNat ≤ 8) : k ≠ j := fun e => by subst e; omega
  refine (dif_neg (ne 0 (by decide))).trans ?_
  refine (dif_neg (ne 1 (by decide))).trans ?_
  refine (dif_neg (ne 2 (by decide))).trans ?_
  refine (dif_neg (ne 3 (by decide))).trans ?_
  refine (dif_neg (ne 4 (by decide))).trans ?_
  refine (dif_neg (ne 5 (by decide))).trans ?_
  refine (dif_neg (ne 6 (by decide))).trans ?_
  refine (dif_neg (ne 7 (by decide))).trans ?_
  exact dif_neg (ne 8 (by decide))

theorem byte_le_eight {k : Byte} (h : k.toNat ≤ 8) :
    k = 0 ∨ k = 1 ∨ k = 2 ∨ k = 3 ∨ k = 4 ∨ k = 5 ∨ k = 6 ∨ k = 7 ∨ k = 8 := by
  bv_omega

theorem keyForm_talk {rest : List Byte} {e : KeyEntry} (h : keyForm (1 :: rest) = some e) :
    ∃ target mode lw l n, e = .talk target mode lw (clampI (-80) 24 l) (clampN 0 600 n) := by
  rcases rest with _ | ⟨t, _ | ⟨i, _ | ⟨m, _ | ⟨lw, _ | ⟨ll, _ | ⟨hi, _ | ⟨lo, _ | ⟨x, l⟩⟩⟩⟩⟩⟩⟩⟩
  case cons.cons.cons.cons.cons.cons.cons.nil =>
    change (match keyTarget t i, talkMode m.toNat, flagOf lw.toNat with
      | some .live, some _, some true => none
      | some target, some mode, some lw =>
        some (KeyEntry.talk target mode lw (clampI (-80) 24 (signedByte ll.toNat)) (clampN 0 600 (beNat [hi, lo])))
      | _, _, _ => none) = some e at h
    split at h
    · cases h
    · cases h; exact ⟨_, _, _, _, _, rfl⟩
    · cases h
  all_goals exact nomatch (show none = some e from h)

theorem keyForm_listen {rest : List Byte} {e : KeyEntry} (h : keyForm (2 :: rest) = some e) :
    ∃ target l, e = .listen target (clampI (-80) 24 l) := by
  rcases rest with _ | ⟨t, _ | ⟨i, _ | ⟨l, _ | ⟨x, y⟩⟩⟩⟩
  case cons.cons.cons.nil =>
    change (match keyTarget t i with
      | some .live => none
      | some target => some (KeyEntry.listen target (clampI (-80) 24 (signedByte l.toNat)))
      | none => none) = some e at h
    split at h
    · cases h
    · cases h; exact ⟨_, _, rfl⟩
    · cases h
  all_goals exact nomatch (show none = some e from h)

/-- The entries without a level. -/
def KeyEntry.Plain (e : KeyEntry) : Prop := (∀ t m lw l n, e ≠ .talk t m lw l n) ∧ ∀ t l, e ≠ .listen t l

theorem keyForm_plain {k : Byte} {rest : List Byte} {e : KeyEntry} (h : keyForm (k :: rest) = some e)
    (hk : k = 0 ∨ k = 3 ∨ k = 4 ∨ k = 5 ∨ k = 6 ∨ k = 7 ∨ k = 8) : e.Plain := by
  obtain rfl | rfl | rfl | rfl | rfl | rfl | rfl := hk <;> rcases rest with _ | ⟨a, _ | ⟨b, _ | ⟨c, l⟩⟩⟩ <;>
    change (_ : Option KeyEntry) = _ at h <;> cases h <;> exact ⟨nofun, nofun⟩

theorem inRange_of_plain {e : KeyEntry} (h : e.Plain) (hr : keyInRange e = true) : e.inRange = true := by
  cases e with
  | talk => exact absurd rfl (h.1 _ _ _ _ _)
  | listen => exact absurd rfl (h.2 _ _)
  | _ => simp only [KeyEntry.inRange, hr, Bool.and_self]

/-- A key entry of a well-formed body has its level and its latch limit in their ranges. -/
theorem inRange_of_keyForm {bytes : List Byte} {e : KeyEntry} (h : keyForm bytes = some e) (hr : keyInRange e = true) :
    e.inRange = true := by
  have level (x : Int) : -80 ≤ clampI (-80) 24 x ∧ clampI (-80) 24 x ≤ 24 :=
    ⟨(clampI_spec x (by omega)).1, (clampI_spec x (by omega)).2.1⟩
  have limit (n : Nat) : clampN 0 600 n ≤ 600 := (clampN_spec n (by omega)).2.1
  cases bytes with
  | nil => exact nomatch (show none = some e from h)
  | cons k rest =>
    by_cases hk : 8 < k.toNat
    · rw [keyForm_unknown rest hk] at h; cases h
    · obtain hk | rfl | rfl | hk := show k = 0 ∨ k = 1 ∨ k = 2 ∨ (k = 3 ∨ k = 4 ∨ k = 5 ∨ k = 6 ∨ k = 7 ∨ k = 8) from
        byte_le_eight (by omega)
      · exact inRange_of_plain (keyForm_plain h (.inl hk)) hr
      · obtain ⟨_, _, _, _, _, rfl⟩ := keyForm_talk h
        simp only [KeyEntry.inRange, hr, level, limit, decide_true, Bool.and_self]
      · obtain ⟨_, _, rfl⟩ := keyForm_listen h
        simp only [KeyEntry.inRange, hr, level, decide_true, Bool.and_self]
      · exact inRange_of_plain (keyForm_plain h (.inr hk)) hr

theorem setEntry_settings (n k : Nat) {e : KeyEntry} (he : e.inRange = true) {s : State} (h : SettingsInRange s) :
    SettingsInRange
      { s with kd := { s.kd with records := tmodify s.kd.records n fun r => { r with keys := tset .none r.keys k e } } } := by
  refine { h with panels := ?_ }
  show ∀ kv ∈ tmodify s.kd.records n fun r => { r with keys := tset .none r.keys k e }, _
  exact forall_tmodify h.panels fun r hr => ⟨hr.1, forall_tset hr.2 he⟩

theorem storeKey_settings (n k : Nat) {e : KeyEntry} (he : e.inRange = true) {s : State} (h : SettingsInRange s) :
    SettingsInRange (storeKey n k e s) := by
  unfold storeKey; dsimp only
  have hu := h.of_kept ((deactivateIfActive_kept n k s).trans
    (setKeyCtx_kept n k (fun x => { x with refusalExpiry := none }) _)).toConfigKept
  generalize setKeyCtx n k (fun x => { x with refusalExpiry := none }) (deactivateIfActive n k s) = u at hu ⊢
  refine SettingsInRange.of_kept ?_ (refreshKey_kept _ _ _).toConfigKept
  exact setEntry_settings n k he hu

theorem setKey_settings : OwnKeeps SettingsInRange ownSetKey := by
  intro body s h
  unfold ownSetKey
  split
  · split
    · exact h
    · rename_i e hf
      split
      · exact h
      · rename_i hr
        simp only [Bool.or_eq_true, Bool.not_eq_true', not_or, Bool.not_eq_false] at hr
        split
        · exact h
        · exact storeKey_settings _ _ (inRange_of_keyForm hf hr.2) h
  · exact h

theorem keyTiming_settings : OwnKeeps SettingsInRange ownKeyTiming := by
  intro body s h
  unfold ownKeyTiming; split
  · exact { h with tap := ⟨(clampN_spec _ (by omega)).1, (clampN_spec _ (by omega)).2.1⟩ }
  · exact h

/-! ### RC and MM (R60, R96, R102) -/

theorem storeSource_settings (i : Nat) {r : SourceRec} (hp : ∀ p ∈ r.position, p ≤ 23) (ht : ∀ d ∈ r.tie, d ≤ 255) {s : State}
    (h : SettingsInRange s) : SettingsInRange (storeSource i r s) := by
  unfold storeSource; dsimp only
  have h0 : SettingsInRange { s with rc := { s.rc with sources := tset noSource s.rc.sources i r } } :=
    { h with sources := forall_tset h.sources ⟨hp, ht⟩ }
  generalize ({ s with rc := { s.rc with sources := tset noSource s.rc.sources i r } } : State) = u at h0 ⊢
  refine h0.of_kept ?_
  have h1 : Apart u (if r.position = (s.rc.source i).position then u else reportKd [.sourcePosition i] (reportTrFromRc u)) := by
    split
    · exact .refl u
    · exact ⟨⟨⟨rfl, id, id, id⟩, rfl⟩, rfl, rfl⟩
  generalize (if r.position = (s.rc.source i).position then u else reportKd [.sourcePosition i] (reportTrFromRc u)) = v at h1 ⊢
  refine (h1.trans ?_).toConfigKept
  split
  · exact .refl _
  · exact ⟨⟨⟨rfl, id, id, id⟩, rfl⟩, rfl, rfl⟩

theorem optWide_le {n : Nat} (h : (n ≤ 255 || n == 65535) = true) : ∀ d ∈ optWide n, d ≤ 255 := by
  intro d hd
  unfold optWide at hd
  split at hd
  · cases hd
  · cases hd; simp only [Bool.or_eq_true, decide_eq_true_eq, beq_iff_eq] at h; omega

theorem setSource_settings : OwnKeeps SettingsInRange ownSetSource := by
  intro body s h
  unfold ownSetSource
  split
  · split
    · exact h
    · rename_i fs _
      dsimp only
      split
      · exact h
      · rename_i hi lo rest _ _ hr
        simp only [Bool.or_eq_true, Bool.not_eq_true', not_or, Bool.not_eq_false, decide_eq_true_eq] at hr
        have hold : (∀ p ∈ (s.rc.source (beNat [hi, lo])).position, p ≤ 23) ∧ ∀ d ∈ (s.rc.source (beNat [hi, lo])).tie, d ≤ 255 :=
          tget_of_forall (P := fun r : SourceRec => (∀ p ∈ r.position, p ≤ 23) ∧ ∀ d ∈ r.tie, d ≤ 255) h.sources (by simp [noSource]) _
        refine storeSource_settings _ (optField_le hr.1.2 hold.1) ?_ h
        have ht := hr.2
        cases hf : fieldAt fs 1 with
        | none => exact hold.2
        | some n => rw [hf] at ht; exact optWide_le ht
  · exact h

theorem routerTiming_settings : OwnKeeps SettingsInRange ownRouterTiming := by
  intro body s h
  unfold ownRouterTiming; split
  · exact { h with router := ⟨(clampN_spec _ (by omega)).1, (clampN_spec _ (by omega)).2.1⟩ }
  · exact h

theorem configure_inRange (mode stale wd : Option Nat) {m : MixerRec} (h : m.inRange = true) :
    (m.configure mode stale wd).inRange = true := by
  simp only [MixerRec.inRange, Bool.and_eq_true, decide_eq_true_eq] at h
  obtain ⟨⟨⟨h1, h2⟩, h3⟩, h4⟩ := h
  obtain ⟨a, b⟩ := clamped_range stale (by omega) ⟨h1, h2⟩
  obtain ⟨c, d⟩ := clamped_range wd (by omega) ⟨h3, h4⟩
  simp only [MixerRec.inRange, MixerRec.configure, a, b, c, d, decide_true, Bool.and_self]

theorem configureMixer_settings (x : Mixer) (mode stale wd : Option Nat) {s : State} (h : SettingsInRange s) :
    SettingsInRange (configureMixer x mode stale wd s) := by
  unfold configureMixer; dsimp only
  have h0 : SettingsInRange (onMixer x (fun _ => (s.mm.mixer x).configure mode stale wd) s) := by
    cases x
    · exact { h with mixers := ⟨configure_inRange _ _ _ h.mixers.1, h.mixers.2⟩ }
    · exact { h with mixers := ⟨h.mixers.1, configure_inRange _ _ _ h.mixers.2⟩ }
  generalize onMixer x (fun _ => (s.mm.mixer x).configure mode stale wd) s = u at h0 ⊢
  have h1 : SettingsInRange (if ((s.mm.mixer x).configure mode stale wd).mode = (s.mm.mixer x).mode then u else reportMixer x u) := by
    split
    · exact h0
    · exact h0.of_kept (reportMixer_apart x u).toConfigKept
  generalize (if ((s.mm.mixer x).configure mode stale wd).mode = (s.mm.mixer x).mode then u else reportMixer x u) = v at h1 ⊢
  split
  · exact h1
  · exact h1.of_kept (settleMixer_apart x v).toConfigKept

theorem setMixer_settings : OwnKeeps SettingsInRange ownSetMixer := by
  intro body s h
  unfold ownSetMixer
  repeat' split
  all_goals first
    | exact h
    | exact configureMixer_settings _ _ _ _ h

/-! ### TR (R115, R122) -/

theorem storeBinding_settings (x : Mixer) (i : Nat) {b : Binding} (hb : bindingInRange b = true) {s : State}
    (h : SettingsInRange s) : SettingsInRange (storeBinding x i b s) := by
  unfold storeBinding; split
  · exact h
  · refine SettingsInRange.of_kept ?_ (recompute_apart _).toConfigKept
    obtain ⟨ha, hb'⟩ := List.forall_mem_append.1 h.bindings
    cases x
    · exact { h with bindings := List.forall_mem_append.2 ⟨forall_tset ha hb, hb'⟩ }
    · exact { h with bindings := List.forall_mem_append.2 ⟨ha, forall_tset hb' hb⟩ }

theorem setBinding_settings : OwnKeeps SettingsInRange ownSetBinding := by
  intro body s h
  unfold ownSetBinding
  split
  · split
    · exact h
    · split
      · exact h
      · split
        · exact h
        · rename_i hr
          simp only [Bool.or_eq_true, Bool.not_eq_true', not_or, Bool.not_eq_false] at hr
          exact storeBinding_settings _ _ hr.2 h
  · exact h

theorem storePosition_settings (p : Nat) {port : Option Nat} (hp : ∀ x ∈ port, x ≤ 95) {s : State} (h : SettingsInRange s) :
    SettingsInRange (storePosition p port s) := by
  unfold storePosition; dsimp only; split
  · exact h
  · refine SettingsInRange.of_kept ?_ (reportResolution_apart _ _).toConfigKept
    exact { h with positions := portsOk_tset h.positions p hp }

theorem setPosition_settings : OwnKeeps SettingsInRange ownSetPosition := by
  intro body s h
  unfold ownSetPosition
  split
  · split
    · exact h
    · rename_i hr
      simp only [Bool.or_eq_true, Bool.not_eq_true', not_or, Bool.not_eq_false] at hr
      exact storePosition_settings _ (optIndex_le hr.2) h
  · exact h

/-! ### LD (R130, R138 to R140) -/

theorem storeHouse_settings {n : Nat} (hn : n ≤ 255) {s : State} (h : SettingsInRange s) : SettingsInRange (storeHouse n s) := by
  unfold storeHouse; split
  · exact h
  · refine SettingsInRange.of_kept ?_ (relightAll_apart _).toConfigKept
    exact { h with lamp := ⟨hn, h.lamp.2⟩ }

theorem setHouse_settings : OwnKeeps SettingsInRange ownSetHouse := by
  intro body s h
  unfold ownSetHouse; split
  · exact h
  · simp only [Answer.state_now]
    split
    · exact storeHouse_settings (clampN_spec _ (by omega)).2.1 h
    · exact h

theorem storeLamp_settings (p : Nat) (fs : List (Option Nat)) {s : State} (h : SettingsInRange s) :
    SettingsInRange (storeLamp p fs s) := by
  unfold storeLamp; dsimp only; split
  · exact h
  · refine SettingsInRange.of_kept ?_ (relight_apart _ _).toConfigKept
    obtain ⟨ht, hm⟩ := lampsOk_lamp h.lamps p
    refine { h with lamps := lampsOk_tset h.lamps p ⟨(clamped_range _ (by omega) ⟨Nat.zero_le _, ht⟩).2, ?_⟩ }
    cases fieldAt fs 1 with
    | none => exact hm
    | some n => exact manualField_le n

theorem setLamp_settings : OwnKeeps SettingsInRange ownSetLamp := by
  intro body s h
  unfold ownSetLamp
  repeat' split
  all_goals first
    | exact h
    | exact storeLamp_settings _ _ h

theorem setFloor_settings (f : Nat) {s : State} (h : SettingsInRange s) :
    SettingsInRange (relightAll { s with ld := { s.ld with floor := clampN 0 255 f } }) := by
  refine SettingsInRange.of_kept ?_ (relightAll_apart _).toConfigKept
  exact { h with lamp := ⟨h.lamp.1, (clampN_spec f (show 0 ≤ 255 by omega)).2.1, h.lamp.2.2⟩ }

theorem setStep_settings (o : Option Nat) {s : State} (h : SettingsInRange s) :
    SettingsInRange { s with ld := { s.ld with step := (o.map (clampN 1 255)).getD s.ld.step } } :=
  { h with lamp := ⟨h.lamp.1, h.lamp.2.1, clamped_range (lo := 1) (hi := 255) o (by omega) h.lamp.2.2.1, h.lamp.2.2.2⟩ }

theorem setFloorIfNew_settings (f : Nat) {old : Nat} {s : State} (h : SettingsInRange s) :
    SettingsInRange (if clampN 0 255 f = old then s else relightAll { s with ld := { s.ld with floor := clampN 0 255 f } }) := by
  split
  · exact h
  · exact setFloor_settings f h

theorem setLampTick_settings (t : Nat) (next : Millis) {s : State} (h : SettingsInRange s) :
    SettingsInRange (lampTick { s with ld := { s.ld with tick := clampN 10 250 t, nextTick := next } }) := by
  refine SettingsInRange.of_kept ?_ (lampTick_apart _).toConfigKept
  obtain ⟨hh, hf, hs, -⟩ := h.lamp
  exact { h with lamp := ⟨hh, hf, hs, (clampN_spec t (show 10 ≤ 250 by omega)).1, (clampN_spec t (show 10 ≤ 250 by omega)).2.1⟩ }

theorem storeLampTiming_settings (fs : List (Option Nat)) {s : State} (h : SettingsInRange s) :
    SettingsInRange (storeLampTiming fs s) := by
  have h0 := setStep_settings (fieldAt fs 1) h
  unfold storeLampTiming; dsimp only
  cases fieldAt fs 2 with
  | none =>
    cases fieldAt fs 0 with
    | none => exact h0
    | some t => exact setLampTick_settings t _ h0
  | some f =>
    cases fieldAt fs 0 with
    | none => exact setFloorIfNew_settings f h0
    | some t => exact setLampTick_settings t _ (setFloorIfNew_settings f h0)

theorem lampTiming_settings : OwnKeeps SettingsInRange ownLampTiming := by
  intro body s h
  unfold ownLampTiming; split
  · exact h
  · exact storeLampTiming_settings _ h

/-! ### TE and ML (R143, R145, R147, R167, R170) -/

theorem duckField_le (n : Nat) : (match duckField n with | .steps n => decide (n ≤ 80) | .full => true) = true := by
  by_cases h : n = 255
  · simp [duckField, h]
  · simpa [duckField, h] using (clampN_spec n (show 0 ≤ 80 by omega)).2.1

/-- An accepted SET-PORT leaves a port record in its ranges, without a field its kind does not have. -/
theorem update_inRange {r : PortRec} {p : Nat} {fs : List (Option Nat)} (hr : r.inRange = true) (hp : portInRange p fs = true)
    (hf : portFits p (((fieldAt fs 0).map PortKind.ofCode).getD r.kind) fs = true) : (r.update fs).inRange = true := by
  simp only [portInRange, Bool.and_eq_true, decide_eq_true_eq] at hp
  simp only [PortRec.inRange, Bool.and_eq_true, decide_eq_true_eq] at hr
  obtain ⟨⟨⟨⟨⟨⟨⟨⟨⟨⟨⟨h1, h2⟩, h3⟩, h4⟩, h5⟩, h6⟩, h7⟩, h8⟩, h9⟩, h10⟩, -⟩, -⟩ := hr
  obtain ⟨⟨-, hprog⟩, hguard⟩ := hp
  simp only [portFits, Bool.and_eq_true, Bool.or_eq_true, beq_iff_eq] at hf
  obtain ⟨⟨hifb, hspk⟩, -⟩ := hf
  have a := clampedInt_range (fieldAt fs 1) (by omega) ⟨h1, h2⟩
  have b := clampedInt_range (fieldAt fs 2) (by omega) ⟨h3, h4⟩
  have c := clampedInt_range (fieldAt fs 3) (by omega) ⟨h5, h6⟩
  have d := (clamped_range (fieldAt fs 4) (by omega) ⟨Nat.zero_le _, h7⟩).2
  simp only [PortRec.inRange, Bool.and_eq_true, decide_eq_true_eq]
  simp only [PortRec.update]
  generalize ((fieldAt fs 0).map PortKind.ofCode).getD r.kind = kind at hifb hspk ⊢
  refine ⟨⟨⟨⟨⟨⟨⟨⟨⟨⟨⟨a.1, a.2⟩, b.1⟩, b.2⟩, c.1⟩, c.2⟩, d⟩, ?_⟩, ?_⟩, ?_⟩, ?_⟩, ?_⟩
  · cases fieldAt fs 5 with
    | none =>
      by_cases hk : kind = .ifb
      · simpa [hk] using h8
      · simp [hk]
    | some n => exact duckField_le n
  · have hold : ∀ x ∈ (if kind = .ifb then r.program else none), x ≤ 95 := by
      split
      · simpa [Option.all_eq_true] using h9
      · simp
    rw [Option.all_eq_true]
    exact fun x hx => decide_eq_true (optField_le hprog hold x hx)
  · have hold : ∀ x ∈ (if kind = .speaker then r.guardPos else none), x ≤ 23 := by
      split
      · simpa [Option.all_eq_true] using h10
      · simp
    rw [Option.all_eq_true]
    exact fun x hx => decide_eq_true (optField_le hguard hold x hx)
  · by_cases hk : kind = .ifb
    · simp [hk]
    · obtain ⟨hd, hq⟩ := hifb.resolve_left hk
      simp only [hk, if_false, Bool.or_eq_true, Bool.and_eq_true, beq_iff_eq]
      refine .inr ⟨?_, ?_⟩
      · cases h : fieldAt fs 5 with
        | none => rfl
        | some n => rw [h] at hd; simp only [okIf, beq_iff_eq] at hd; subst hd; rfl
      · cases h : fieldAt fs 6 with
        | none => rfl
        | some n => rw [h] at hq; simp only [okIf, beq_iff_eq] at hq; subst hq; rfl
  · by_cases hk : kind = .speaker
    · simp [hk]
    · have hg := hspk.resolve_left hk
      simp only [hk, if_false, Bool.or_eq_true, beq_iff_eq]
      refine .inr ?_
      cases h : fieldAt fs 7 with
      | none => rfl
      | some n => rw [h] at hg; simp only [okIf, beq_iff_eq] at hg; subst hg; rfl

theorem storePort_settings (p : Nat) {r : PortRec} (hr : r.inRange = true) {s : State} (h : SettingsInRange s) :
    SettingsInRange (storePort p r s) := by
  unfold storePort; dsimp only; split
  · exact h
  · refine SettingsInRange.of_kept ?_ ((sendGains_apart _).after (Apart.foldl retarget_apart _ _)).toConfigKept
    exact { h with ports := forall_tset h.ports hr }

theorem setPort_settings : OwnKeeps SettingsInRange ownSetPort := by
  intro body s h
  unfold ownSetPort
  split
  · split
    · exact h
    · rename_i hp
      split
      · exact h
      · rename_i fs hfs
        rw [partialFields_of_presence hfs] at hp
        dsimp only
        split
        · exact h
        · split
          · exact h
          · rename_i hf
            simp only [Bool.not_eq_true', Bool.not_eq_false] at hp hf
            exact storePort_settings _ (update_inRange (tget_of_forall (P := fun r : PortRec => r.inRange = true) h.ports rfl _) hp hf) h
  · exact h

theorem putGroup_settings (g : Nat) {members : List Nat} (hl : members.length ≤ 32) (hm : ∀ p ∈ members, p ≤ 95) {s : State}
    (h : SettingsInRange s) : SettingsInRange { s with te := { s.te with groups := tset [] s.te.groups g members } } :=
  { h with groups := forall_tset h.groups ⟨hl, hm⟩ }

theorem storeGroup_settings (g : Nat) {members : List Nat} (hl : members.length ≤ 32) (hm : ∀ p ∈ members, p ≤ 95) {s t : State}
    (h : SettingsInRange s) (e : storeGroup g members s = some t) : SettingsInRange t := by
  unfold storeGroup at e; split at e
  · cases e; exact h
  · dsimp only at e; split at e
    · injection e with e
      subst e
      have h1 := (putGroup_settings g hl hm h).of_kept (applyCauses_apart (groupGone (groupWould s g members))
        ((groupWould s g members).flatMap fun w => lacking s.te (ofKey w.1 w.2.1) w.2.2) _).toConfigKept
      refine h1.of_kept ?_
      generalize applyCauses _ _ _ = u
      exact ⟨rfl, id, id, id⟩
    · cases e

theorem setGroup_settings : OwnKeeps SettingsInRange ownSetGroup := by
  intro body s h
  unfold ownSetGroup
  split
  · dsimp only
    split
    · exact h
    · rename_i c _ hlen
      split
      · exact h
      · rename_i hr
        simp only [Bool.or_eq_true, not_or, List.any_eq_true, not_exists, not_and, decide_eq_true_eq] at hr
        split
        · exact h
        · rename_i hc
          simp only [Bool.or_eq_true, not_or, decide_eq_true_eq] at hc
          have hcount : ¬ 32 < c.toNat := hc.1
          split
          · exact h.of_kept (refuseRoom_apart s).toConfigKept
          · rename_i t e
            refine storeGroup_settings _ ?_ (fun p hp => ?_) h e
            · refine (length_sortAsc_le _).trans ?_
              rw [List.length_map]; omega
            · have := hr.2 p (mem_sortAsc.1 hp); omega
  · exact h

theorem defineSlot_settings (k : Nat) {x : Standing} (hx : x.talker ≤ 95 ∧ x.listener ≤ 95 ∧ x.talker ≠ x.listener ∧ -80 ≤ x.level ∧ x.level ≤ 24)
    {s t : State} (h : SettingsInRange s) (e : defineSlot k x s = some t) : SettingsInRange t := by
  unfold defineSlot at e; dsimp only at e
  generalize (if (tfind s.te.standing k).isSome then 1 else 0 : Nat) = freed at e
  split at e
  · injection e with e
    subst e
    have h0 : SettingsInRange { s with te := { s.te with standing := tput s.te.standing k x } } :=
      { h with standing := forall_tput h.standing hx }
    exact h0.of_kept (applyCauses_apart _ _ _).toConfigKept
  · cases e

theorem standingOf_inRange {t l : Byte} (level : Byte) (ht : t.toNat ≤ 95) (hl : l.toNat ≤ 95) (hne : t ≠ l) :
    (standingOf t l level).talker ≤ 95 ∧ (standingOf t l level).listener ≤ 95
      ∧ (standingOf t l level).talker ≠ (standingOf t l level).listener
      ∧ -80 ≤ (standingOf t l level).level ∧ (standingOf t l level).level ≤ 24 :=
  ⟨ht, hl, fun e => hne (BitVec.eq_of_toNat_eq e), (clampI_spec _ (by omega)).1, (clampI_spec _ (by omega)).2.1⟩

theorem addStanding_settings : OwnKeeps SettingsInRange ownAddStanding := by
  intro body s h
  unfold ownAddStanding
  split
  · split
    · exact h
    · rename_i hr
      simp only [Bool.or_eq_true, not_or, decide_eq_true_eq, Nat.not_lt] at hr
      split
      · exact h
      · rename_i hne
        split
        · exact h
        · split
          · exact h.of_kept (refuseRoom_apart s).toConfigKept
          · rename_i u e
            exact defineSlot_settings _ (standingOf_inRange _ hr.1 hr.2 hne) h e
  · exact h

theorem standingEntry_settings : OwnKeeps SettingsInRange ownStandingEntry := by
  intro body s h
  unfold ownStandingEntry
  split
  · split
    · exact h
    · rename_i hr
      simp only [Bool.or_eq_true, not_or, decide_eq_true_eq, Nat.not_lt] at hr
      split
      · exact h
      · rename_i hne
        split
        · exact h.of_kept (refuseRoom_apart s).toConfigKept
        · rename_i u e
          exact defineSlot_settings _ (standingOf_inRange _ hr.1.2 hr.2 hne) h e
  · exact h

theorem dropStanding_settings : OwnKeeps SettingsInRange ownDropStanding := by
  intro body s h
  unfold ownDropStanding
  split
  · split
    · exact h
    · split
      · exact h
      · rename_i k _ _
        have h0 : SettingsInRange { s with te := { s.te with standing := tdel s.te.standing k.toNat } } :=
          { h with standing := forall_tdel h.standing }
        exact h0.of_kept (applyCauses_apart _ _ _).toConfigKept
  · exact h

theorem storeGainTiming_settings (fs : List (Option Nat)) {s : State} (h : SettingsInRange s) :
    SettingsInRange (storeGainTiming fs s) := by
  unfold storeGainTiming; dsimp only
  have h0 : SettingsInRange
      { s with te := { s.te with rampStep := ((fieldAt fs 1).map (clampN 1 40)).getD s.te.rampStep }
               ml := { s.ml with replyTimeout := ((fieldAt fs 2).map (clampN 2 100)).getD s.ml.replyTimeout } } :=
    { h with
      gain := ⟨h.gain.1, clamped_range _ (by omega) h.gain.2⟩
      matrix := clamped_range _ (by omega) h.matrix }
  cases fieldAt fs 0 with
  | none => exact h0
  | some t =>
    refine SettingsInRange.of_kept ?_ (gainTick_apart _).toConfigKept
    exact { h0 with gain := ⟨⟨(clampN_spec t (by omega)).1, (clampN_spec t (by omega)).2.1⟩, h0.gain.2⟩ }

theorem gainTiming_settings : OwnKeeps SettingsInRange ownGainTiming := by
  intro body s h
  unfold ownGainTiming; split
  · exact h
  · exact storeGainTiming_settings _ h

/-! ### Every step -/

theorem ownProfileLoad_kept (tag : Byte) (s : State) : ConfigKept s (ownProfileLoad tag s).state := by
  unfold ownProfileLoad; split
  · exact .refl s
  · dsimp only
    have h0 : ConfigKept s { s with ml := clearMatrix s.ml } := ⟨rfl, id, id, id⟩
    have h1 := h0.trans (settleNotices_kept _)
    generalize settleNotices { s with ml := clearMatrix s.ml } = u at h1 ⊢
    have h2 : ConfigKept u { u with kd := { u.kd with contexts := [] } } := (setContexts_kept [] u).toConfigKept
    have h3 := (h1.trans h2).trans (clearPaths_apart _).toConfigKept
    exact h3.trans ((setWalk_apart _ _).trans (startTransfer_apart _ _)).toConfigKept

/-- Every effect keeps every setting in its range. -/
theorem settingsInRange_effects : EffectsKeep SettingsInRange where
  apart k h := h.of_kept k.toConfigKept
  powerOn := settingsInRange_powerOn
  setNode := setNode_settings
  busEnable body s h := h.of_kept (ownBusEnable_kept body s)
  busTiming := busTiming_settings
  busAuto body s h := h.of_kept (ownBusAuto_kept body s).toConfigKept
  sweepNow s h := h.of_kept (ownSweepNow_kept s).toConfigKept
  forget body s h := h.of_kept (ownForget_kept body s).toConfigKept
  setPanel := setPanel_settings
  setKey := setKey_settings
  keyTiming := keyTiming_settings
  setSource := setSource_settings
  routerTiming := routerTiming_settings
  setMixer := setMixer_settings
  setBinding := setBinding_settings
  setPosition := setPosition_settings
  setHouse := setHouse_settings
  setLamp := setLamp_settings
  lampTiming := lampTiming_settings
  setPort := setPort_settings
  setGroup := setGroup_settings
  addStanding := addStanding_settings
  standingEntry := standingEntry_settings
  dropStanding := dropStanding_settings
  gainTiming := gainTiming_settings
  profileLoad tag s h := h.of_kept (ownProfileLoad_kept tag s)
  busAutoStep s h := h.of_kept (busAutoStep_kept s).toConfigKept
  softResetPbc s h := h.of_kept (softResetPbc_kept s).toConfigKept
  softResetKd s h := h.of_kept (softResetKd_kept s)
  badFrame s h := h.of_kept (badPbFrame_kept s).toConfigKept
  activity c s h := h.of_kept (hearActivity_kept c s)
  frameSent s h := h.of_kept (pbFrameSent_kept s).toConfigKept
  pass t s h := h.of_kept (hearPass_kept t s)
  ask f t s h := h.of_kept (hearAsk_kept f t s)
  cargo f t q l s h := h.of_kept (hearCargo_kept f t q l s)
  room f t s h := h.of_kept (hearRoom_kept f t s)
  noroom f t s h := h.of_kept (hearNoroom_kept f t s)
  got f t s h := h.of_kept (hearGot_kept f t s)
  here f k u n s h := h.of_kept (hearHere_kept f k u n s)
  probeClose s h := h.of_kept (closeProbe_kept s)
  askClose s h := h.of_kept (closeAsk_kept s).toConfigKept
  cargoClose s h := h.of_kept (closeCargo_kept s).toConfigKept
  passClose s h := h.of_kept (closePass_kept s)
  roomClose s h := h.of_kept (lapseRoom_kept s).toConfigKept
  checking s h := h.of_kept (endChecking_kept s).toConfigKept
  silence s h := h.of_kept (endSilence_kept s).toConfigKept
  census s h := h.of_kept (endCensusInterval_kept s).toConfigKept
  absence n s h := h.of_kept (endAbsence_kept n s).toConfigKept
  departure n s h := h.of_kept (takeDeparture_kept n s)
  join n s h := h.of_kept (takeJoin_kept n s)
  dispatch s h := h.of_kept (dispatchOldest_kept s).toConfigKept
  tapWindow n k s h := h.of_kept (endTapWindow_kept n k s).toConfigKept
  latchLimit n k s h := h.of_kept (endLatchLimit_kept n k s).toConfigKept
  refusal n k s h := h.of_kept (endRefusal_kept n k s).toConfigKept
  outcome s h := h.of_kept (takeOutcome_kept s).toConfigKept
  fire s h := h.of_kept (takeFire_kept s).toConfigKept
  imageReport r s h := h.of_kept (takeReportOf_kept r s).toConfigKept

/-- Settles O5: no effect takes a setting out of its range. -/
theorem settingsStayInRange : Obligations.SettingsStayInRange :=
  fun _ _ h e => settingsInRange_effects.step h e

end Sys2Proof.Machine
end


section
/-! SUPPORT. The requests that write settings, and the work of the keys: all they do to the Panel Bus is to mark keys dirty, and they
change no desired image without that (O7, O8). -/

namespace Sys2Proof.Machine

/-! ### What changes neither the Panel Bus nor a desired image -/

/-- An operation leaves PBC, its notices to KD and every desired image as they are, and the destination records in order. -/
structure Calm (s t : State) : Prop where
  pbc : t.pbc = s.pbc
  notices : t.reports.kdPanels = s.reports.kdPanels
  images : ∀ n k, (t.kd.key n k).map (·.image) = (s.kd.key n k).map (·.image)
  dests : tsorted s.rc.dests = true → tsorted t.rc.dests = true

theorem Calm.refl (s : State) : Calm s s := ⟨rfl, rfl, fun _ _ => rfl, id⟩

theorem Calm.trans {s t u : State} (h : Calm s t) (k : Calm t u) : Calm s u :=
  ⟨k.pbc.trans h.pbc, k.notices.trans h.notices, fun n j => (k.images n j).trans (h.images n j), k.dests ∘ h.dests⟩

theorem Calm.after {s t u : State} (k : Calm t u) (h : Calm s t) : Calm s u := h.trans k

theorem Calm.foldl {α : Type} {f : State → α → State} (h : ∀ s a, Calm s (f s a)) (l : List α) (s : State) : Calm s (l.foldl f s) :=
  foldl_keeps (P := Calm s) (fun _ a hs => hs.trans (h _ a)) l s (.refl s)

theorem Apart.calm {s t : State} (h : Apart s t) : Calm s t :=
  ⟨h.pbc, h.notices, fun n k => by rw [h.kd], h.dests⟩

/-! ### The settings a request writes -/

theorem ownKeyTiming_calm (body : List Byte) (s : State) : Calm s (ownKeyTiming body s).state := by
  unfold ownKeyTiming; split
  · exact ⟨rfl, rfl, fun _ _ => rfl, id⟩
  · exact .refl s

theorem storeSource_calm (i : Nat) (r : SourceRec) (s : State) : Calm s (storeSource i r s) := by
  unfold storeSource; dsimp only
  have h0 : Calm s { s with rc := { s.rc with sources := tset noSource s.rc.sources i r } } := ⟨rfl, rfl, fun _ _ => rfl, id⟩
  generalize ({ s with rc := { s.rc with sources := tset noSource s.rc.sources i r } } : State) = u at h0 ⊢
  refine h0.trans ?_
  have h1 : Calm u (if r.position = (s.rc.source i).position then u else reportKd [.sourcePosition i] (reportTrFromRc u)) := by
    split
    · exact .refl u
    · exact ⟨rfl, rfl, fun _ _ => rfl, id⟩
  generalize (if r.position = (s.rc.source i).position then u else reportKd [.sourcePosition i] (reportTrFromRc u)) = v at h1 ⊢
  refine h1.trans ?_
  split
  · exact .refl v
  · exact ⟨rfl, rfl, fun _ _ => rfl, id⟩

theorem ownSetSource_calm (body : List Byte) (s : State) : Calm s (ownSetSource body s).state := by
  unfold ownSetSource; split
  · split
    · exact .refl s
    · dsimp only; split
      · exact .refl s
      · exact storeSource_calm _ _ s
  · exact .refl s

theorem ownRouterTiming_calm (body : List Byte) (s : State) : Calm s (ownRouterTiming body s).state := by
  unfold ownRouterTiming; split
  · exact ⟨rfl, rfl, fun _ _ => rfl, id⟩
  · exact .refl s

theorem onMixer_calm (x : Mixer) (f : MixerRec → MixerRec) (s : State) : Calm s (onMixer x f s) := by
  cases x <;> exact ⟨rfl, rfl, fun _ _ => rfl, id⟩

theorem configureMixer_calm (x : Mixer) (mode stale wd : Option Nat) (s : State) : Calm s (configureMixer x mode stale wd s) := by
  unfold configureMixer; dsimp only
  refine (onMixer_calm x (fun _ => (s.mm.mixer x).configure mode stale wd) s).trans ?_
  generalize onMixer x (fun _ => (s.mm.mixer x).configure mode stale wd) s = u
  have h1 : Calm u (if ((s.mm.mixer x).configure mode stale wd).mode = (s.mm.mixer x).mode then u else reportMixer x u) := by
    split
    · exact .refl u
    · exact (reportMixer_apart x u).calm
  refine h1.trans ?_
  generalize (if ((s.mm.mixer x).configure mode stale wd).mode = (s.mm.mixer x).mode then u else reportMixer x u) = v
  split
  · exact .refl v
  · exact (settleMixer_apart x v).calm

theorem ownSetMixer_calm (body : List Byte) (s : State) : Calm s (ownSetMixer body s).state := by
  unfold ownSetMixer
  repeat' split
  all_goals first
    | exact .refl s
    | exact configureMixer_calm _ _ _ _ s

theorem storeBinding_calm (x : Mixer) (i : Nat) (b : Binding) (s : State) : Calm s (storeBinding x i b s) := by
  unfold storeBinding; split
  · exact .refl s
  · cases x <;> exact (recompute_apart _).calm.after ⟨rfl, rfl, fun _ _ => rfl, id⟩

theorem ownSetBinding_calm (body : List Byte) (s : State) : Calm s (ownSetBinding body s).state := by
  unfold ownSetBinding
  repeat' split
  all_goals first
    | exact .refl s
    | exact storeBinding_calm _ _ _ s

theorem storePosition_calm (p : Nat) (port : Option Nat) (s : State) : Calm s (storePosition p port s) := by
  unfold storePosition; dsimp only; split
  · exact .refl s
  · exact (reportResolution_apart _ _).calm.after ⟨rfl, rfl, fun _ _ => rfl, id⟩

theorem ownSetPosition_calm (body : List Byte) (s : State) : Calm s (ownSetPosition body s).state := by
  unfold ownSetPosition; split
  · split
    · exact .refl s
    · exact storePosition_calm _ _ s
  · exact .refl s

theorem storeHouse_calm (n : Nat) (s : State) : Calm s (storeHouse n s) := by
  unfold storeHouse; split
  · exact .refl s
  · exact (relightAll_apart _).calm.after ⟨rfl, rfl, fun _ _ => rfl, id⟩

theorem ownSetHouse_calm (body : List Byte) (s : State) : Calm s (ownSetHouse body s).state := by
  unfold ownSetHouse; split
  · exact .refl s
  · simp only [Answer.state_now]
    split
    · exact storeHouse_calm _ s
    · exact .refl s

theorem storeLamp_calm (p : Nat) (fs : List (Option Nat)) (s : State) : Calm s (storeLamp p fs s) := by
  unfold storeLamp; dsimp only; split
  · exact .refl s
  · exact (relight_apart _ _).calm.after ⟨rfl, rfl, fun _ _ => rfl, id⟩

theorem ownSetLamp_calm (body : List Byte) (s : State) : Calm s (ownSetLamp body s).state := by
  unfold ownSetLamp
  repeat' split
  all_goals first
    | exact .refl s
    | exact storeLamp_calm _ _ s

theorem setLd_calm (ld : Ld) (s : State) : Calm s { s with ld := ld } := ⟨rfl, rfl, fun _ _ => rfl, id⟩

theorem setFloorIfNew_calm (f old : Nat) (s : State) :
    Calm s (if f = old then s else relightAll { s with ld := { s.ld with floor := f } }) := by
  split
  · exact .refl s
  · exact (relightAll_apart _).calm.after (setLd_calm _ s)

theorem storeLampTiming_calm (fs : List (Option Nat)) (s : State) : Calm s (storeLampTiming fs s) := by
  unfold storeLampTiming; dsimp only
  cases fieldAt fs 2 with
  | none =>
    cases fieldAt fs 0 with
    | none => exact setLd_calm _ s
    | some t => exact (lampTick_apart _).calm.after ((setLd_calm _ _).after (setLd_calm _ s))
  | some f =>
    cases fieldAt fs 0 with
    | none => exact (setFloorIfNew_calm _ _ _).after (setLd_calm _ s)
    | some t => exact (lampTick_apart _).calm.after ((setLd_calm _ _).after ((setFloorIfNew_calm _ _ _).after (setLd_calm _ s)))

theorem ownLampTiming_calm (body : List Byte) (s : State) : Calm s (ownLampTiming body s).state := by
  unfold ownLampTiming; split
  · exact .refl s
  · exact storeLampTiming_calm _ s

theorem setTe_calm (te : Te) (s : State) : Calm s { s with te := te } := ⟨rfl, rfl, fun _ _ => rfl, id⟩

theorem setReports_calm {r : Reports} {s : State} (h : r.kdPanels = s.reports.kdPanels) : Calm s { s with reports := r } :=
  ⟨rfl, h, fun _ _ => rfl, id⟩

theorem storePort_calm (p : Nat) (r : PortRec) (s : State) : Calm s (storePort p r s) := by
  unfold storePort; dsimp only; split
  · exact .refl s
  · exact ((sendGains_apart _).after (Apart.foldl retarget_apart _ _)).calm.after (setTe_calm _ s)

theorem ownSetPort_calm (body : List Byte) (s : State) : Calm s (ownSetPort body s).state := by
  unfold ownSetPort; split
  · split
    · exact .refl s
    · split
      · exact .refl s
      · dsimp only; split
        · exact .refl s
        · split
          · exact .refl s
          · exact storePort_calm _ _ s
  · exact .refl s

theorem storeGroup_calm (g : Nat) (members : List Nat) {s t : State} (e : storeGroup g members s = some t) : Calm s t := by
  unfold storeGroup at e; split at e
  · cases e; exact .refl s
  · dsimp only at e; split at e
    · injection e with e
      subst e
      have h := (applyCauses_apart (groupGone (groupWould s g members))
        ((groupWould s g members).flatMap fun w => lacking s.te (ofKey w.1 w.2.1) w.2.2) _).calm.after
          (setTe_calm { s.te with groups := tset [] s.te.groups g members } s)
      refine h.trans ?_
      generalize applyCauses _ _ _ = u
      exact setReports_calm rfl
    · cases e

theorem ownSetGroup_calm (body : List Byte) (s : State) : Calm s (ownSetGroup body s).state := by
  unfold ownSetGroup; split
  · dsimp only; split
    · exact .refl s
    · split
      · exact .refl s
      · split
        · exact .refl s
        · split
          · exact (refuseRoom_apart s).calm
          · rename_i t e
            exact storeGroup_calm _ _ e
  · exact .refl s

theorem defineSlot_calm (k : Nat) (x : Standing) {s t : State} (e : defineSlot k x s = some t) : Calm s t := by
  unfold defineSlot at e; dsimp only at e
  generalize (if (tfind s.te.standing k).isSome then 1 else 0 : Nat) = freed at e
  split at e
  · injection e with e
    subst e
    exact (applyCauses_apart _ _ _).calm.after (setTe_calm _ s)
  · cases e

theorem ownAddStanding_calm (body : List Byte) (s : State) : Calm s (ownAddStanding body s).state := by
  unfold ownAddStanding; split
  · split
    · exact .refl s
    · split
      · exact .refl s
      · split
        · exact .refl s
        · split
          · exact (refuseRoom_apart s).calm
          · rename_i u e
            exact defineSlot_calm _ _ e
  · exact .refl s

theorem ownStandingEntry_calm (body : List Byte) (s : State) : Calm s (ownStandingEntry body s).state := by
  unfold ownStandingEntry; split
  · split
    · exact .refl s
    · split
      · exact .refl s
      · split
        · exact (refuseRoom_apart s).calm
        · rename_i u e
          exact defineSlot_calm _ _ e
  · exact .refl s

theorem ownDropStanding_calm (body : List Byte) (s : State) : Calm s (ownDropStanding body s).state := by
  unfold ownDropStanding; split
  · split
    · exact .refl s
    · split
      · exact .refl s
      · exact (applyCauses_apart _ _ _).calm.after (setTe_calm _ s)
  · exact .refl s

theorem storeGainTiming_calm (fs : List (Option Nat)) (s : State) : Calm s (storeGainTiming fs s) := by
  unfold storeGainTiming; dsimp only
  cases fieldAt fs 0 with
  | none => exact ⟨rfl, rfl, fun _ _ => rfl, id⟩
  | some t => exact (gainTick_apart _).calm.after ⟨rfl, rfl, fun _ _ => rfl, id⟩

theorem ownGainTiming_calm (body : List Byte) (s : State) : Calm s (ownGainTiming body s).state := by
  unfold ownGainTiming; split
  · exact .refl s
  · exact storeGainTiming_calm _ s

/-! ### Updates of the contexts -/

theorem key_setKeyCtx (n k : Nat) (f : KeyCtx → KeyCtx) (s : State) (m j : Nat) :
    (setKeyCtx n k f s).kd.key m j = if m = n ∧ j = k then (s.kd.key m j).map f else s.kd.key m j := by
  simp only [Kd.key, setKeyCtx_kd, tfind_tmodify]
  by_cases hm : m = n
  · cases h : tfind s.kd.contexts m with
    | none => simp [hm]
    | some c => by_cases hj : j = k <;> simp [hm, hj, tfind_tmodify]
  · simp [hm]

theorem setKeyCtx_calm (n k : Nat) (f : KeyCtx → KeyCtx) (s : State) (hf : ∀ x, (f x).image = x.image := by intro _; rfl) :
    Calm s (setKeyCtx n k f s) := by
  refine ⟨rfl, rfl, fun m j => ?_, id⟩
  rw [key_setKeyCtx]
  split
  · rw [Option.map_map]; congr 1; exact funext hf
  · rfl

/-- A change of a panel's router-panel state touches no key. -/
theorem setRouterState_calm (n : Nat) (d x : Option Nat) (s : State) :
    Calm s { s with kd := { s.kd with contexts := tmodify s.kd.contexts n fun c => { c with dest := d, preset := x } } } := by
  refine ⟨rfl, rfl, fun m j => ?_, id⟩
  simp only [Kd.key, tfind_tmodify]
  split
  · cases tfind s.kd.contexts m <;> rfl
  · rfl

/-- REMOVE gives every key of the panel a fresh state under the image it has (R32). -/
theorem freshenPanel_calm (n : Nat) (records : Tab PanelRec) (s : State) :
    Calm s { s with
      kd := { s.kd with
        records := records
        contexts := tmodify s.kd.contexts n fun c =>
          { keys := c.keys.map fun kv => (kv.1, freshKey kv.2.image), dest := none, preset := none } } } := by
  refine ⟨rfl, rfl, fun m j => ?_, id⟩
  simp only [Kd.key, tfind_tmodify]
  split
  · cases tfind s.kd.contexts m with
    | none => rfl
    | some c =>
      simp only [Option.map_some, Option.bind_some, tfind_map c.keys (fun _ x => freshKey x.image)]
      cases tfind c.keys j <;> rfl
  · rfl

theorem setRecords_calm (r : Tab PanelRec) (s : State) : Calm s { s with kd := { s.kd with records := r } } :=
  ⟨rfl, rfl, fun _ _ => rfl, id⟩

theorem countUnassigned_calm (n : Nat) (s : State) : Calm s { s with kd := { s.kd with unassigned := n } } :=
  ⟨rfl, rfl, fun _ _ => rfl, id⟩

theorem countDuplicate_calm (n : Nat) (s : State) : Calm s { s with kd := { s.kd with duplicate := n } } :=
  ⟨rfl, rfl, fun _ _ => rfl, id⟩

theorem refuseKey_calm (n k : Nat) (s : State) : Calm s (refuseKey n k s) := setKeyCtx_calm n k _ s

theorem enterState_calm (n k : Nat) (dst : KeyState) (limit : Nat) (u s : State) : Calm s (setKeyCtx n k (enterState dst limit u) s) :=
  setKeyCtx_calm n k _ s

theorem withdrawKey_calm (n k : Nat) (s : State) : Calm s (withdrawKey n k s) := (applyCauses_apart _ _ _).calm

theorem deactivateKey_calm (n k : Nat) (s : State) : Calm s (deactivateKey n k s) := by
  unfold deactivateKey; dsimp only
  refine (setKeyCtx_calm _ _ _ _).after ?_
  split
  · exact (removeKeyCall_apart _ _ _ _).calm
  · exact withdrawKey_calm _ _ _
  · exact withdrawKey_calm _ _ _
  · exact .refl s

theorem deactivateIfActive_calm (n k : Nat) (s : State) : Calm s (deactivateIfActive n k s) := by
  unfold deactivateIfActive; split
  · exact .refl s
  · exact deactivateKey_calm _ _ _

theorem deactivatePanel_calm (q : KeyEntry → Bool) (n : Nat) (s : State) : Calm s (deactivatePanel q n s) := by
  unfold deactivatePanel; split
  · exact .refl s
  · dsimp only
    refine Calm.after (.foldl (fun t k => setKeyCtx_calm _ _ _ t) _ _) ?_
    refine (applyCauses_apart _ _ _).calm.after (.foldl (fun t k => ?_) _ _)
    split
    · exact (removeKeyCall_apart _ _ _ _).calm
    · exact .refl t

theorem activateKey_calm (n k : Nat) (dst : KeyState) (limit : Nat) (e : KeyEntry) (target : KeyTarget) (s : State) :
    Calm s (activateKey n k dst limit e target s) := by
  unfold activateKey; split
  · exact refuseKey_calm _ _ _
  · dsimp only; split
    · exact (recordCauses_apart _ _).calm.trans (refuseKey_calm _ _ _)
    · exact (recordCauses_apart _ _).calm.trans (enterState_calm _ _ _ _ _ _)

theorem askTake_calm (n k : Nat) (d x : Option Nat) (s : State) : Calm s (askTake n k d x s) := by
  unfold askTake; split
  · split
    · exact refuseKey_calm _ _ _
    · exact (enqueue_apart _ _ _ _).calm
  · exact refuseKey_calm _ _ _

/-! ### What the keys' work keeps -/

/-- A predicate that calm operations keep, and that a new desired image keeps whose key is marked dirty. -/
structure Stable (P : State → Prop) : Prop where
  calm : ∀ {s t}, Calm s t → P s → P t
  recolour : ∀ n k i s, P s → P (markDirty n k (setKeyCtx n k (fun x => { x with image := i }) s))

namespace Stable
variable {P : State → Prop}

theorem refreshKey (hP : Stable P) (n k : Nat) {s : State} (h : P s) : P (refreshKey s n k) := by
  unfold Machine.refreshKey; split
  · exact h
  · split
    · exact h
    · dsimp only; split
      · exact h
      · exact hP.recolour n k _ s h

theorem refreshPanel (hP : Stable P) (q : KeyEntry → Bool) (n : Nat) {s : State} (h : P s) : P (refreshPanel q n s) := by
  unfold Machine.refreshPanel; split
  · exact h
  · exact foldl_keeps (P := P) (fun t kv ht => hP.refreshKey n kv.1 ht) _ s h

theorem takeImageReport (hP : Stable P) {s : State} (r : ImageReport) (h : P s) : P (takeImageReport s r) :=
  foldl_keeps (P := P) (fun _ kv ht => hP.refreshPanel _ kv.1 ht) _ s h

theorem indicate (hP : Stable P) (n k : Nat) {s : State} (h : P s) : P (indicate n k s) := by
  unfold Machine.indicate; split
  · exact h
  · exact hP.refreshKey n k (hP.calm (refuseKey_calm n k s) h)

theorem setRouterPanel (hP : Stable P) (n : Nat) (d x : Option Nat) {s : State} (h : P s) : P (setRouterPanel n d x s) :=
  hP.refreshPanel _ n (hP.calm (setRouterState_calm n d x s) h)

theorem keyAct (hP : Stable P) (n k : Nat) (press : Bool) (r : PanelRec) (c : Context) (st : KeyState) {s : State} (h : P s) :
    P (keyAct n k press r c st s) := by
  unfold Machine.keyAct
  split
  · exact hP.calm (countUnassigned_calm _ s) h
  · split
    · exact h
    · exact hP.calm (activateKey_calm _ _ _ _ _ _ _) h
    · exact hP.calm (enterState_calm _ _ _ _ _ _) h
    · exact hP.calm (deactivateKey_calm _ _ _) h
  · split
    · exact h
    · split
      · exact hP.calm (activateKey_calm _ _ _ _ _ _ _) h
      · exact hP.calm (deactivateKey_calm _ _ _) h
  · split
    · split
      · exact hP.calm ((addKeyCall_apart _ _ _ _).calm.after (setKeyCtx_calm _ _ _ s)) h
      · exact h
    · split
      · exact hP.calm (deactivateKey_calm _ _ _) h
      · exact h
  · split
    · exact hP.setRouterPanel _ _ _ h
    · exact h
  · split
    · exact h
    · dsimp only; split
      · exact hP.calm (askTake_calm _ _ _ _ _) (hP.setRouterPanel _ _ _ h)
      · exact hP.setRouterPanel _ _ _ h
  · split
    · exact hP.calm (askTake_calm _ _ _ _ _) h
    · exact h
  · split
    · exact h
    · split
      · exact hP.calm (refuseKey_calm _ _ _) h
      · dsimp only; split
        · exact hP.calm ((toggleProtect_apart _ _ s).calm.trans (refuseKey_calm _ _ _)) h
        · exact hP.calm (toggleProtect_apart _ _ s).calm h
  · split
    · exact h
    · split
      · exact hP.calm (refuseKey_calm _ _ _) h
      · exact hP.calm (startFire_apart _ _ _).calm h

theorem takeTransition (hP : Stable P) (n : Nat) {s : State} (x : Nat × Bool) (h : P s) : P (takeTransition n s x) := by
  have ignored := hP.calm (countUnassigned_calm (bump s.kd.unassigned) s) h
  unfold Machine.takeTransition; dsimp only
  split
  · exact ignored
  · split
    · exact ignored
    · split
      · exact ignored
      · split
        · exact ignored
        · split
          · exact hP.calm (countDuplicate_calm _ s) h
          · exact hP.refreshKey _ _ (hP.keyAct _ _ _ _ _ _ (hP.calm (setKeyCtx_calm _ _ _ s) h))

theorem endTapWindow (hP : Stable P) (n k : Nat) (s : State) (h : P s) : P (endTapWindow n k s) := by
  unfold Machine.endTapWindow; split
  · exact h
  · split
    · exact hP.refreshKey n k (hP.calm (enterState_calm _ _ _ _ _ _) h)
    · exact h

theorem endLatchLimit (hP : Stable P) (n k : Nat) (s : State) (h : P s) : P (endLatchLimit n k s) := by
  unfold Machine.endLatchLimit; split
  · exact h
  · split
    · exact hP.refreshKey n k (hP.calm (deactivateKey_calm _ _ _) h)
    · exact h

theorem endRefusal (hP : Stable P) (n k : Nat) (s : State) (h : P s) : P (endRefusal n k s) := by
  unfold Machine.endRefusal; split
  · exact h
  · split
    · exact hP.refreshKey n k (hP.calm (setKeyCtx_calm _ _ _ _) h)
    · exact h

theorem takeOutcome (hP : Stable P) (s : State) (h : P s) : P (takeOutcome s) := by
  unfold Machine.takeOutcome; split
  · exact h
  · rename_i r rest _
    have h0 : P (r.changes.foldl Machine.takeImageReport { s with reports := { s.reports with kdOutcomes := rest } }) :=
      foldl_keeps (P := P) (fun _ x ht => hP.takeImageReport x ht) _ _ (hP.calm (setReports_calm rfl) h)
    dsimp only; split
    · exact h0
    · exact hP.indicate _ _ h0

theorem takeFire (hP : Stable P) (s : State) (h : P s) : P (takeFire s) := by
  unfold Machine.takeFire; split
  · exact h
  · rename_i r rest _
    have h0 : P (Machine.takeImageReport { s with reports := { s.reports with kdFires := rest } } (.fire r.salvo (some r.node))) :=
      hP.takeImageReport _ (hP.calm (setReports_calm rfl) h)
    dsimp only; split
    · exact h0
    · exact hP.indicate _ _ h0

theorem takeReportOf (hP : Stable P) (src : KdSource) (s : State) (h : P s) : P (takeReportOf src s) := by
  unfold Machine.takeReportOf
  cases src <;> dsimp only <;> split
  all_goals first
    | exact h
    | exact hP.takeImageReport _ (hP.calm (setReports_calm rfl) h)

/-! ### SET-PANEL and SET-KEY -/

theorem storePanel (hP : Stable P) (n : Nat) (port : Option Nat) (mode : TakeMode) {s : State} (h : P s) : P (storePanel n port mode s) := by
  unfold Machine.storePanel
  refine hP.refreshPanel _ n ?_
  split
  · exact hP.calm (setRecords_calm _ s) h
  · rename_i r _
    dsimp only
    have hu : P (if r.port = port then s else deactivatePanel talkOrListen n s) := by
      split
      · exact h
      · exact hP.calm (deactivatePanel_calm _ n s) h
    exact hP.calm (setRecords_calm _ _) hu

theorem removePanel (hP : Stable P) (n : Nat) {s : State} (h : P s) : P (removePanel n s) := by
  unfold Machine.removePanel
  exact hP.refreshPanel _ n (hP.calm ((freshenPanel_calm n _ _).after (deactivatePanel_calm _ n s)) h)

theorem ownSetPanel (hP : Stable P) : OwnKeeps P ownSetPanel := by
  intro body s h
  unfold Machine.ownSetPanel
  repeat' split
  all_goals first
    | exact h
    | exact hP.storePanel _ _ _ h
    | exact hP.removePanel _ h

theorem storeKey (hP : Stable P) (n k : Nat) (e : KeyEntry) {s : State} (h : P s) : P (storeKey n k e s) :=
  hP.refreshKey n k (hP.calm ((setRecords_calm _ _).after ((setKeyCtx_calm n k _ _).after (deactivateIfActive_calm n k s))) h)

theorem ownSetKey (hP : Stable P) : OwnKeeps P ownSetKey := by
  intro body s h
  unfold Machine.ownSetKey
  repeat' split
  all_goals first
    | exact h
    | exact hP.storeKey _ _ _ h

/-- What KD's dispatch leaves, but for the slot it frees. -/
theorem takeTransitions (hP : Stable P) (n : Nat) (l : List (Nat × Bool)) {s : State} (h : P s) : P (l.foldl (Machine.takeTransition n) s) :=
  foldl_keeps (P := P) (fun _ x ht => hP.takeTransition n x ht) l s h

theorem ownKeeps (hP : Stable P) {own : List Byte → State → Answer} (h : ∀ body s, Calm s (own body s).state) : OwnKeeps P own :=
  fun body s hs => hP.calm (h body s) hs

end Stable

end Sys2Proof.Machine
end


section
/-! SUPPORT. The roster, the results of a sweep and the probe in progress name nodes, and the roster stays in order (O7). -/

namespace Sys2Proof.Machine

/-- The part of `TableInv` that is PBC's. -/
structure PbcForm (p : Pbc) : Prop where
  sorted : tsorted p.roster = true
  ids : ∀ kv ∈ p.roster, isNode kv.1
  results : ∀ kv ∈ p.results, isNode kv.1
  probe : ∀ c n h, p.work = .probe c n h → isNode n
  pointer : p.censusPtr ≤ 63

theorem tableInv_iff (s : State) : TableInv s ↔ PbcForm s.pbc ∧ tsorted s.rc.dests = true :=
  ⟨fun h => ⟨⟨h.sorted, h.ids, h.results, h.probe, h.pointer⟩, h.dests⟩,
    fun ⟨h, d⟩ => ⟨h.sorted, h.ids, h.results, h.probe, h.pointer, d⟩⟩

/-! ### IDs -/

theorem isNode_of_nextProbeId {own p n : Nat} (h : nextProbeId own p = some n) : isNode n := by
  have hm := List.mem_of_find?_eq_some h
  rw [List.mem_range'_1] at hm; exact ⟨by omega, by omega⟩

theorem isNode_of_mem_idsAfter {p n : Nat} (hp : p ≤ 63) (h : n ∈ idsAfter p) : isNode n := by
  rcases List.mem_append.1 h with h | h <;> rw [List.mem_range'_1] at h <;> exact ⟨by omega, by omega⟩

theorem isNode_of_censusChoice {p : Pbc} {n : Nat} (hp : p.censusPtr ≤ 63) (h : censusChoice p = some n) : isNode n :=
  isNode_of_mem_idsAfter hp (List.mem_of_find?_eq_some h)

theorem isNode_firstProbe (own : Nat) : isNode ((nextProbeId own 0).getD 1) := by
  cases h : nextProbeId own 0 with
  | none => exact ⟨Nat.le_refl 1, by decide⟩
  | some n => exact isNode_of_nextProbeId h

theorem PbcForm.isNode_of_entry {p : Pbc} (h : PbcForm p) {n : Nat} {e : RosterEntry} (he : p.entry n = some e) : isNode n :=
  h.ids _ (mem_of_tfind he)

/-! ### The stall limit -/

/-- What a stall limit does to an entry: a MEMBER at or above it becomes STALLED (R21). -/
def stallNow (limit : Nat) (now : Millis) (e : RosterEntry) : RosterEntry :=
  match e.presence with
  | .member link stall none => if limit ≤ stall then { e with presence := .member link stall (some now) } else e
  | _ => e

theorem applyStallLimit_pbc (s : State) :
    (applyStallLimit s).pbc =
      { s.pbc with roster := s.pbc.roster.map fun kv => (kv.1, stallNow s.pbc.timing.stallLimit s.now kv.2) } := by
  unfold applyStallLimit
  rw [(setFlagIf_apart _ _ _).pbc]
  dsimp only
  congr 2
  funext ⟨k, i, p⟩
  match p with
  | .member link stall none => by_cases h : s.pbc.timing.stallLimit ≤ stall <;> simp [stallNow, h]
  | .member link stall (some ask) => rfl
  | .absent since => rfl
  | .contested => rfl

/-! ### The shared operations of PBC -/

namespace PbcForm
variable {s : State}

theorem setRoster {n : Nat} (hn : isNode n) (e : RosterEntry) (h : PbcForm s.pbc) : PbcForm (setRoster n e s).pbc :=
  { h with sorted := tsorted_tput _ _ h.sorted, ids := forall_tput (P := fun kv => isNode kv.1) h.ids hn }

theorem dropRoster (n : Nat) (h : PbcForm s.pbc) : PbcForm (dropRoster n s).pbc :=
  { h with sorted := tsorted_tdel _ h.sorted, ids := forall_tdel (P := fun kv => isNode kv.1) h.ids }

theorem departure (n : Nat) (h : PbcForm s.pbc) : PbcForm (departure n s).pbc := { h with }

theorem removeEntry (n : Nat) (h : PbcForm s.pbc) : PbcForm (removeEntry n s).pbc := h.dropRoster n

theorem tmodify (n : Nat) (f : RosterEntry → RosterEntry) (h : PbcForm s.pbc) :
    PbcForm { s.pbc with roster := tmodify s.pbc.roster n f } :=
  { h with
    sorted := tsorted_tmodify _ _ h.sorted
    ids := forall_tmodify (P := fun kv => isNode kv.1) h.ids fun _ hv => hv }

theorem onMember (n : Nat) (f : Link → Nat → Option Millis → Presence) (h : PbcForm s.pbc) : PbcForm (onMember n f s).pbc :=
  h.tmodify _ _

theorem markDirty (n k : Nat) (h : PbcForm s.pbc) : PbcForm (markDirty n k s).pbc := h.tmodify _ _

theorem sendPb (f : PbFrame) (h : PbcForm s.pbc) : PbcForm (sendPb f s).pbc := { h with }

theorem sendAndWait {w : Work} (f : PbFrame) (hw : ∀ c n x, w = .probe c n x → isNode n) (h : PbcForm s.pbc) :
    PbcForm (sendAndWait f w s).pbc := { h with probe := hw }

theorem lapseReservation (h : PbcForm s.pbc) : PbcForm (lapseReservation s).pbc := { h with }

theorem startSweep (h : PbcForm s.pbc) : PbcForm (startSweep s).pbc :=
  { h with
    results := nofun
    probe := fun c n x e => by cases e; exact isNode_firstProbe _ }

theorem passOn (h : PbcForm s.pbc) : PbcForm (passOn s).pbc := by
  unfold Machine.passOn; split
  · exact { h with probe := nofun }
  · exact h.sendAndWait _ nofun

theorem nextExchange (h : PbcForm s.pbc) : PbcForm (nextExchange s).pbc := by
  unfold Machine.nextExchange; split
  · split
    · exact h.passOn
    · exact { h.onMember _ _ with probe := nofun }
  · exact h.passOn

theorem turnSequence (h : PbcForm s.pbc) : PbcForm (turnSequence s).pbc := by
  unfold Machine.turnSequence; split
  · have h0 : PbcForm { s.pbc with lastCensus := s.now } := { h with }
    dsimp only; split
    · exact nextExchange h0
    · rename_i n hn
      have hnode : isNode n := isNode_of_censusChoice h0.pointer hn
      exact { h0 with
        probe := fun c m x e => by cases e; exact hnode
        pointer := hnode.2 }
  · exact h.nextExchange

theorem beginTurn (h : PbcForm s.pbc) : PbcForm (beginTurn s).pbc := by
  unfold Machine.beginTurn; dsimp only; split
  · exact startSweep { h with }
  · exact turnSequence { h with }

theorem applyProbe {n : Nat} (hn : isNode n) (r : ProbeResult) (h : PbcForm s.pbc) : PbcForm (applyProbe n r s).pbc := by
  have put (e : RosterEntry) : PbcForm (Machine.setRoster n e s).pbc := h.setRoster hn e
  unfold Machine.applyProbe
  split
  · exact put _
  · split
    · split
      · exact h
      · split
        · exact (put _).departure n
        · exact (put _).departure n
    · split <;> exact put _
    · exact put _
  · exact put _
  · split
    · exact (put _).departure n
    · exact put _
    · exact h
  · exact h
  · split
    · exact (put _).departure n
    · exact h
    · exact h.dropRoster n

theorem applyResults {l : Tab ProbeResult} (hl : ∀ kv ∈ l, isNode kv.1) (h : PbcForm s.pbc) :
    PbcForm (l.foldl (fun t kv => Machine.applyProbe kv.1 kv.2 t) s).pbc := by
  induction l generalizing s with
  | nil => exact h
  | cons kv l ih =>
    exact ih (fun x hx => hl x (List.mem_cons_of_mem _ hx)) (h.applyProbe (hl kv (List.mem_cons_self ..)) kv.2)

theorem setFlagIf (c : Bool) (f : Flag) (h : PbcForm s.pbc) : PbcForm (setFlagIf c f s).pbc := by
  rw [(setFlagIf_apart c f s).pbc]; exact h

theorem completeSweep (h : PbcForm s.pbc) : PbcForm (completeSweep s).pbc := by
  have h0 := h.applyResults h.results
  unfold Machine.completeSweep; dsimp only
  generalize s.pbc.results.foldl (fun (t : State) (kv : Nat × ProbeResult) => Machine.applyProbe kv.1 kv.2 t) s = u at h0 ⊢
  refine beginTurn (sendPb _ (setFlagIf _ _ ?_))
  exact { h0 with results := nofun, probe := nofun }

theorem endProbe (r : ProbeResult) (h : PbcForm s.pbc) : PbcForm (endProbe r s).pbc := by
  unfold Machine.endProbe; split
  · rename_i n heard hw
    dsimp only
    have h0 : PbcForm (Machine.setFlagIf (probeChanges r (s.pbc.entry n)) .roster (Machine.applyProbe n r s)).pbc :=
      (h.applyProbe (h.probe _ _ _ hw) r).setFlagIf _ _
    generalize Machine.setFlagIf (probeChanges r (s.pbc.entry n)) .roster (Machine.applyProbe n r s) = u at h0 ⊢
    refine nextExchange ?_
    split
    · exact sendPb _ { h0 with probe := nofun }
    · exact { h0 with probe := nofun }
  · rename_i n heard hw
    dsimp only
    have h0 : PbcForm { s.pbc with results := tput s.pbc.results n r, windowOpen := false } :=
      { h with results := forall_tput (P := fun kv => isNode kv.1) h.results (h.probe _ _ _ hw) }
    split
    · rename_i m hm
      exact sendAndWait _ (fun c k x e => by cases e; exact isNode_of_nextProbeId hm) h0
    · exact completeSweep h0
  · exact h

theorem noteActivity (h : PbcForm s.pbc) : PbcForm (noteActivity s).pbc := by
  unfold Machine.noteActivity; dsimp only
  split
  · exact h
  · exact { h with }
  · exact { h with }
  · exact { h with }
  · split
    · exact { h with probe := nofun }
    · rename_i c n x _ hw _
      exact { h with probe := fun _ _ _ e => by cases e; exact h.probe _ _ _ hw }
    · split <;> exact { h with }
  · split
    · exact { h with probe := nofun }
    · rename_i c n x _ hw _
      exact { h with probe := fun _ _ _ e => by cases e; exact h.probe _ _ _ hw }
    · split <;> exact { h with }

theorem examine (l : List Byte) (h : PbcForm s.pbc) : PbcForm (examine l s).pbc := by
  unfold Machine.examine; split
  · exact { h with }
  · exact h

theorem cleanFrame (l : List Byte) (h : PbcForm s.pbc) : PbcForm (cleanFrame l s).pbc := by
  unfold Machine.cleanFrame; split
  · exact h
  · exact h.noteActivity.examine l

theorem heard (l : List Byte) (h : PbcForm s.pbc) : PbcForm (Machine.lapseReservation (Machine.cleanFrame l s)).pbc :=
  (h.cleanFrame l).lapseReservation

theorem answerProbe (h : PbcForm s.pbc) : PbcForm (answerProbe s).pbc := by
  unfold Machine.answerProbe; split
  · exact h.endProbe _
  · exact h

theorem badPbFrame (h : PbcForm s.pbc) : PbcForm (badPbFrame s).pbc := by
  unfold Machine.badPbFrame; split
  · exact h
  · exact { h.noteActivity.lapseReservation with }

theorem startChecking (h : PbcForm s.pbc) : PbcForm (startChecking s).pbc := { h with }

theorem enterListening (h : PbcForm s.pbc) : PbcForm (enterListening s).pbc := { h with }

theorem leaveMember (n : Nat) (now : Millis) (h : PbcForm s.pbc) :
    PbcForm (match s.pbc.entry n with
      | some e => Machine.departure n (Machine.setRoster n { e with presence := .absent now } s)
      | none => s).pbc := by
  split
  · rename_i e he
    exact (h.setRoster (h.isNode_of_entry he) _).departure n
  · exact h

theorem leaveBus (h : PbcForm s.pbc) : PbcForm (leaveBus s).pbc := by
  have h0 := foldl_keeps (P := fun t : State => PbcForm t.pbc)
    (f := fun (t : State) n => match t.pbc.entry n with
      | some e => Machine.departure n (Machine.setRoster n { e with presence := .absent s.now } t)
      | none => t) (fun _ n ht => leaveMember n s.now ht) s.pbc.memberIds s h
  unfold Machine.leaveBus; dsimp only
  refine setFlagIf _ _ ?_
  generalize s.pbc.memberIds.foldl _ s = u at h0 ⊢
  exact enterListening { h0 with results := nofun, probe := nofun }

theorem applyStallLimit (h : PbcForm s.pbc) : PbcForm (applyStallLimit s).pbc := by
  rw [applyStallLimit_pbc]
  refine { h with sorted := tsorted_map (fun kv => stallNow _ _ kv.2) h.sorted, ids := ?_ }
  intro kv hkv
  obtain ⟨x, hx, rfl⟩ := List.mem_map.1 hkv
  exact h.ids x hx

theorem loseTurn (n : Nat) (h : PbcForm s.pbc) : PbcForm (loseTurn n s).pbc := by
  unfold Machine.loseTurn; dsimp only
  refine passOn (sendPb _ ?_)
  split
  · rename_i e he
    split
    · exact (h.setRoster (h.isNode_of_entry he) _).departure n
    · exact h
  · exact h

theorem takeCargo (n q : Nat) (l : List Byte) (h : PbcForm s.pbc) : PbcForm (takeCargo n q l s).pbc := by
  unfold Machine.takeCargo
  split
  · dsimp only; split
    · exact h.sendPb _
    · split
      · exact sendPb _ (onMember _ _ { h with })
      · split
        · exact sendPb _ (onMember _ _ { h with })
        · exact { h with }
  · exact { h with }

theorem sendLamps (p : Nat) (h : PbcForm s.pbc) : PbcForm (sendLamps p s).pbc := by
  unfold Machine.sendLamps; split
  · exact sendAndWait _ nofun (h.onMember _ _)
  · exact h

theorem stallPanel (p : Nat) (h : PbcForm s.pbc) : PbcForm (stallPanel p s).pbc := by
  unfold Machine.stallPanel; split
  · exact setFlagIf _ _ (h.onMember _ _)
  · exact h

theorem confirmLamps (p : Nat) (l : List (Nat × Image)) (h : PbcForm s.pbc) : PbcForm (confirmLamps p l s).pbc := h.onMember _ _

theorem endSilence (h : PbcForm s.pbc) : PbcForm (endSilence s).pbc := by
  unfold Machine.endSilence; split
  · exact h.startSweep
  · exact h

theorem endAbsence (n : Nat) (h : PbcForm s.pbc) : PbcForm (endAbsence n s).pbc := by
  unfold Machine.endAbsence; split
  · split
    · exact h.removeEntry n
    · exact h
  · exact h

end PbcForm

/-! ### Every effect -/

/-- What keeps the destination records in order and PBC's tables in form keeps the tables in form. -/
theorem TableInv.of_kept {s t : State} (h : TableInv s) (k : ConfigKept s t) (hp : PbcForm s.pbc → PbcForm t.pbc) : TableInv t := by
  rw [tableInv_iff] at h ⊢; exact ⟨hp h.1, k.dests h.2⟩

theorem TableInv.of_calm {s t : State} (k : Calm s t) (h : TableInv s) : TableInv t := by
  rw [tableInv_iff] at h ⊢; exact ⟨k.pbc ▸ h.1, k.dests h.2⟩

theorem tableInv_stable : Stable TableInv where
  calm := .of_calm
  recolour n k i s h := h.of_kept ((markDirty_kept n k _).toConfigKept.after (setKeyCtx_kept n k _ s).toConfigKept)
    fun hp => PbcForm.markDirty (s := setKeyCtx n k (fun x => { x with image := i }) s) n k hp

theorem tableInv_powerOn (straps : Straps) (memory : List Host.Cell) (pending : List Instr) :
    TableInv (State.powerOn straps memory pending) := by
  constructor <;> simp [State.powerOn, Pbc.powerOn, Rc.powerOn, tsorted]

/-- The hub takes an ID that is a node's: an entry of that ID leaves the roster (R7). -/
def takeId (n : Nat) (s : State) : State :=
  if (s.pbc.entry n).isSome then removeEntry n { s with pbc := { s.pbc with id := n } } else { s with pbc := { s.pbc with id := n } }

/-- The ways SET-NODE is accepted (R7). -/
theorem applyNodeId_cases {n : Nat} {s t : State} (e : applyNodeId n s = some t) :
    (s.pbc.node = .asleep ∧ n = 0 ∧ t = s) ∨ (s.pbc.node = .listening ∧ n = 0 ∧ t = { s with pbc := { s.pbc with id := 0, node := .asleep } })
    ∨ (n ≠ 0 ∧ ((s.pbc.node = .asleep ∧ t = enterListening (takeId n s)) ∨ (s.pbc.node = .listening ∧ t = takeId n s)
        ∨ (s.pbc.node = .conflict ∧ t = startChecking (takeId n s)))) := by
  unfold applyNodeId at e
  split at e
  · next h => cases e; exact .inl ⟨h, rfl, rfl⟩
  · next h hn => cases e; exact .inr (.inr ⟨hn, .inl ⟨h, rfl⟩⟩)
  · next h => cases e; exact .inr (.inl ⟨h, rfl, rfl⟩)
  · next h hn => cases e; exact .inr (.inr ⟨hn, .inr (.inl ⟨h, rfl⟩)⟩)
  · cases e
  · next h hn => cases e; exact .inr (.inr ⟨hn, .inr (.inr ⟨h, rfl⟩)⟩)
  · cases e

theorem takeId_rc (n : Nat) (s : State) : (takeId n s).rc = s.rc := by
  unfold takeId; split <;> rfl

theorem PbcForm.takeId {s : State} (n : Nat) (h : PbcForm s.pbc) : PbcForm (takeId n s).pbc := by
  unfold Machine.takeId; split
  · exact PbcForm.removeEntry (s := { s with pbc := { s.pbc with id := n } }) n { h with }
  · exact { h with }

theorem setNode_tables : OwnKeeps TableInv ownSetNode := by
  intro body s h
  unfold ownSetNode
  split
  · split
    · exact h
    · split
      · exact h
      · rename_i n _ _ t e
        rw [tableInv_iff] at h
        have own : TableInv (takeId n.toNat s) := (tableInv_iff _).2 ⟨h.1.takeId _, by rw [takeId_rc]; exact h.2⟩
        obtain ⟨-, -, rfl⟩ | ⟨-, -, rfl⟩ | ⟨-, ⟨-, rfl⟩ | ⟨-, rfl⟩ | ⟨-, rfl⟩⟩ := applyNodeId_cases e
        · exact (tableInv_iff _).2 h
        · exact (tableInv_iff _).2 ⟨{ h.1 with }, h.2⟩
        · exact own.of_kept (enterListening_kept _).toConfigKept PbcForm.enterListening
        · exact own
        · exact own.of_kept (startChecking_kept _).toConfigKept PbcForm.startChecking
  · exact h

theorem applyEnable_form (on : Bool) {s : State} (h : PbcForm s.pbc) : PbcForm (applyEnable on s).state.pbc := by
  unfold applyEnable
  split
  · exact h
  · exact h
  · exact h
  · exact h.startChecking
  · exact h
  · exact h.leaveBus

theorem ownBusEnable_form (body : List Byte) {s : State} (h : PbcForm s.pbc) : PbcForm (ownBusEnable body s).state.pbc := by
  unfold ownBusEnable
  split
  · split
    · exact applyEnable_form _ h
    · split
      · exact h
      · exact applyEnable_form _ (s := { s with pbc := { s.pbc with busAuto := _ } }) { h with }
    · exact h
  · exact h

theorem ownBusAuto_form (body : List Byte) {s : State} (h : PbcForm s.pbc) : PbcForm (ownBusAuto body s).state.pbc := by
  unfold ownBusAuto
  split
  · split
    · exact h
    · exact { h with }
  · exact h

/-- What the stored settings and each act of BUS-TIMING keep, BUS-TIMING keeps. -/
theorem applyBusTiming_keeps {P : State → Prop} (fs : List (Option Nat)) {s : State}
    (h : P { s with pbc := { s.pbc with timing := s.pbc.timing.update fs } }) (hstall : ∀ t, P t → P (applyStallLimit t))
    (habsence : ∀ n t, P t → P (endAbsence n t)) (hsilence : ∀ t, P t → P (endSilence t)) : P (applyBusTiming fs s) := by
  unfold applyBusTiming; dsimp only
  generalize ({ s with pbc := { s.pbc with timing := s.pbc.timing.update fs } } : State) = u at h ⊢
  have h1 : P (if (fieldAt fs 4).isSome then applyStallLimit u else u) := by
    split
    · exact hstall u h
    · exact h
  generalize (if (fieldAt fs 4).isSome then applyStallLimit u else u) = v at h1 ⊢
  have h2 : P (if (fieldAt fs 5).isSome then (v.pbc.roster.map (·.1)).foldl (fun t n => endAbsence n t) v else v) := by
    split
    · exact foldl_keeps (P := P) (fun t n ht => habsence n t ht) _ v h1
    · exact h1
  generalize (if (fieldAt fs 5).isSome then (v.pbc.roster.map (·.1)).foldl (fun t n => endAbsence n t) v else v) = w at h2 ⊢
  split
  · exact hsilence w h2
  · exact h2

theorem busTiming_tables : OwnKeeps TableInv ownBusTiming := by
  intro body s h
  unfold ownBusTiming; split
  · exact h
  · refine applyBusTiming_keeps _ ?_ (fun t ht => ht.of_kept (applyStallLimit_kept t).toConfigKept PbcForm.applyStallLimit)
      (fun n t ht => ht.of_kept (endAbsence_kept n t).toConfigKept (PbcForm.endAbsence n))
      fun t ht => ht.of_kept (endSilence_kept t).toConfigKept PbcForm.endSilence
    rw [tableInv_iff] at h ⊢
    exact ⟨{ h.1 with }, h.2⟩

namespace PbcForm
variable {s : State}

theorem ownSweepNow (h : PbcForm s.pbc) : PbcForm (ownSweepNow s).state.pbc := by
  unfold Machine.ownSweepNow; split
  · exact h
  · dsimp only
    simp only [Answer.state_now]
    have h0 : PbcForm { s.pbc with sweepPending := true } := { h with }
    split
    · exact startSweep h0
    · exact h0

theorem ownForget (body : List Byte) (h : PbcForm s.pbc) : PbcForm (ownForget body s).state.pbc := by
  unfold Machine.ownForget
  repeat' split
  all_goals first
    | exact h
    | exact h.removeEntry _

theorem busAutoStep (h : PbcForm s.pbc) : PbcForm (busAutoStep s).pbc := by
  unfold Machine.busAutoStep; split
  · exact h.startChecking
  · exact h

theorem softResetPbc (s : State) : PbcForm (softResetPbc s).pbc := by
  unfold Machine.softResetPbc; dsimp only
  have h0 : PbcForm { Pbc.powerOn with
      id := s.pbc.id, busAuto := s.pbc.busAuto, timing := s.pbc.timing, lastCensus := s.now
      turn := { s.pbc.turn with holds := false, made := 0, chosen := [] } } := by
    constructor <;> simp [Pbc.powerOn, tsorted]
  have h1 := setFlagIf (s := { s with pbc := _ }) (!s.pbc.roster.isEmpty) .roster h0
  generalize Machine.setFlagIf (!s.pbc.roster.isEmpty) .roster _ = u at h1 ⊢
  split
  · exact h1
  · split
    · exact h1.startChecking
    · exact h1.enterListening

theorem hearActivity (c : Option BusOther) (h : PbcForm s.pbc) : PbcForm (hearActivity c s).pbc := by
  unfold Machine.hearActivity; split
  · exact h.noteActivity
  · split
    · exact h.badPbFrame
    · split
      · exact h
      · exact (h.heard _).answerProbe

theorem pbFrameSent (h : PbcForm s.pbc) : PbcForm (pbFrameSent s).pbc := by
  unfold Machine.pbFrameSent; split
  · exact h
  · dsimp only; split
    · exact { h with }
    · split <;> exact { h with }

theorem hearPass (x : Byte) (h : PbcForm s.pbc) : PbcForm (hearPass x s).pbc := by
  unfold Machine.hearPass; dsimp only
  have h0 := h.heard [x]
  generalize Machine.lapseReservation (Machine.cleanFrame [x] s) = t at h0 ⊢
  refine answerProbe ?_
  split
  · exact { h0 with }
  · exact { h0 with }
  · split
    · exact h0.beginTurn
    · exact h0
  · exact h0

theorem hearAsk (f x : Byte) (h : PbcForm s.pbc) : PbcForm (hearAsk f x s).pbc := by
  unfold Machine.hearAsk; dsimp only
  have h0 := h.heard [f, x]
  generalize Machine.lapseReservation (Machine.cleanFrame [f, x] s) = t at h0 ⊢
  refine answerProbe ?_
  split
  · split
    · exact sendPb _ { h0 with }
    · exact h0.sendPb _
  · exact h0

theorem hearCargo (f x q : Byte) (l : List Byte) (h : PbcForm s.pbc) : PbcForm (hearCargo f x q l s).pbc := by
  unfold Machine.hearCargo; dsimp only
  have h0 := h.cleanFrame [f, x]
  generalize Machine.cleanFrame [f, x] s = t at h0 ⊢
  refine answerProbe (lapseReservation ?_)
  split
  · exact h0.takeCargo _ _ _
  · exact h0

theorem hearRoom (f x : Byte) (h : PbcForm s.pbc) : PbcForm (hearRoom f x s).pbc := by
  unfold Machine.hearRoom; dsimp only
  have h0 := h.heard [f, x]
  generalize Machine.lapseReservation (Machine.cleanFrame [f, x] s) = t at h0 ⊢
  refine answerProbe ?_
  split
  · split
    · exact h0.sendLamps _
    · exact h0
  · exact h0

theorem hearNoroom (f x : Byte) (h : PbcForm s.pbc) : PbcForm (hearNoroom f x s).pbc := by
  unfold Machine.hearNoroom; dsimp only
  have h0 := h.heard [f, x]
  generalize Machine.lapseReservation (Machine.cleanFrame [f, x] s) = t at h0 ⊢
  refine answerProbe ?_
  split
  · split
    · exact (h0.stallPanel _).nextExchange
    · exact h0
  · exact h0

theorem hearGot (f x : Byte) (h : PbcForm s.pbc) : PbcForm (hearGot f x s).pbc := by
  unfold Machine.hearGot; dsimp only
  have h0 := h.heard [f, x]
  generalize Machine.lapseReservation (Machine.cleanFrame [f, x] s) = t at h0 ⊢
  refine answerProbe ?_
  split
  · split
    · exact (h0.confirmLamps _ _).nextExchange
    · exact h0
  · exact h0

theorem hearHere (f k : Byte) (u : BitVec 32) (n : Byte) (h : PbcForm s.pbc) : PbcForm (hearHere f k u n s).pbc := by
  unfold Machine.hearHere; dsimp only
  have h0 := h.heard [f]
  generalize Machine.lapseReservation (Machine.cleanFrame [f] s) = t at h0 ⊢
  split
  · exact h0.endProbe _
  · exact h0

theorem closeProbe (h : PbcForm s.pbc) : PbcForm (closeProbe s).pbc := by
  unfold Machine.closeProbe; split
  · exact h.endProbe _
  · exact h

theorem closeAsk (h : PbcForm s.pbc) : PbcForm (closeAsk s).pbc := by
  unfold Machine.closeAsk; split
  · exact h.nextExchange
  · exact h

theorem closeCargo (h : PbcForm s.pbc) : PbcForm (closeCargo s).pbc := by
  unfold Machine.closeCargo; split
  · exact h.nextExchange
  · exact h

theorem closePass (h : PbcForm s.pbc) : PbcForm (closePass s).pbc := by
  unfold Machine.closePass; split
  · exact h.sendAndWait _ nofun
  · exact h.loseTurn _
  · exact h

theorem lapseRoom (h : PbcForm s.pbc) : PbcForm (lapseRoom s).pbc := by
  unfold Machine.lapseRoom; split
  · exact h.lapseReservation
  · exact h

theorem endChecking (h : PbcForm s.pbc) : PbcForm (endChecking s).pbc := by
  unfold Machine.endChecking; split
  · exact h.startSweep
  · exact h

theorem endCensusInterval (h : PbcForm s.pbc) : PbcForm (endCensusInterval s).pbc := by
  unfold Machine.endCensusInterval; split
  · exact h.beginTurn
  · exact h

end PbcForm

/-! ### KD -/

theorem departPanel_pbc (n : Nat) (s : State) : (departPanel n s).pbc = s.pbc := by
  unfold departPanel; dsimp only
  rw [(deactivatePanel_calm _ n s).pbc]

theorem takeDeparture_pbc (n : Nat) (s : State) : (takeDeparture n s).pbc = s.pbc := by
  unfold takeDeparture; split
  · exact departPanel_pbc n _
  · rfl

theorem paintKey_tables (n : Nat) (s : State) (k : Nat) (h : TableInv s) : TableInv (paintKey n s k) := by
  unfold paintKey; split
  · exact h
  · split
    · exact h
    · exact tableInv_stable.recolour n k _ s h

theorem takeJoin_tables (n : Nat) (s : State) (h : TableInv s) : TableInv (takeJoin n s) := by
  unfold takeJoin; split
  · unfold joinPanel; dsimp only
    refine foldl_keeps (P := TableInv) (paintKey_tables n) _ _ ?_
    exact { h with }
  · exact h

theorem takeDeparture_tables (n : Nat) (s : State) (h : TableInv s) : TableInv (takeDeparture n s) :=
  h.of_kept (takeDeparture_kept n s) fun hp => by rw [takeDeparture_pbc]; exact hp

theorem settleNotices_tables (s : State) (h : TableInv s) : TableInv (settleNotices s) :=
  foldl_keeps (P := TableInv) (fun t x ht => by
    cases x with
    | departure n => exact takeDeparture_tables n t ht
    | join n keys => exact takeJoin_tables n t ht) _ s h

theorem ownProfileLoad_tables (tag : Byte) (s : State) (h : TableInv s) : TableInv (ownProfileLoad tag s).state := by
  unfold ownProfileLoad; split
  · exact h
  · dsimp only
    have h0 : TableInv (settleNotices { s with ml := clearMatrix s.ml }) := settleNotices_tables _ { h with }
    generalize settleNotices { s with ml := clearMatrix s.ml } = u at h0 ⊢
    have h1 : TableInv { u with kd := { u.kd with contexts := [] } } := { h0 with }
    exact .of_calm ((clearPaths_apart _).trans ((setWalk_apart _ _).trans (startTransfer_apart _ _))).calm h1

theorem dispatchOldest_tables (s : State) (h : TableInv s) : TableInv (dispatchOldest s) := by
  unfold dispatchOldest; split
  · exact h
  · rename_i c _ _
    have h0 := tableInv_stable.takeTransitions c.sender c.transitions h
    exact { h0 with }

/-- Every effect keeps the tables in form. -/
theorem tableInv_effects : EffectsKeep TableInv where
  apart k h := h.of_calm k.calm
  powerOn := tableInv_powerOn
  setNode := setNode_tables
  busEnable body s h := h.of_kept (ownBusEnable_kept body s) (ownBusEnable_form body)
  busTiming := busTiming_tables
  busAuto body s h := h.of_kept (ownBusAuto_kept body s).toConfigKept (ownBusAuto_form body)
  sweepNow s h := h.of_kept (ownSweepNow_kept s).toConfigKept PbcForm.ownSweepNow
  forget body s h := h.of_kept (ownForget_kept body s).toConfigKept (PbcForm.ownForget body)
  setPanel := tableInv_stable.ownSetPanel
  setKey := tableInv_stable.ownSetKey
  keyTiming := tableInv_stable.ownKeeps ownKeyTiming_calm
  setSource := tableInv_stable.ownKeeps ownSetSource_calm
  routerTiming := tableInv_stable.ownKeeps ownRouterTiming_calm
  setMixer := tableInv_stable.ownKeeps ownSetMixer_calm
  setBinding := tableInv_stable.ownKeeps ownSetBinding_calm
  setPosition := tableInv_stable.ownKeeps ownSetPosition_calm
  setHouse := tableInv_stable.ownKeeps ownSetHouse_calm
  setLamp := tableInv_stable.ownKeeps ownSetLamp_calm
  lampTiming := tableInv_stable.ownKeeps ownLampTiming_calm
  setPort := tableInv_stable.ownKeeps ownSetPort_calm
  setGroup := tableInv_stable.ownKeeps ownSetGroup_calm
  addStanding := tableInv_stable.ownKeeps ownAddStanding_calm
  standingEntry := tableInv_stable.ownKeeps ownStandingEntry_calm
  dropStanding := tableInv_stable.ownKeeps ownDropStanding_calm
  gainTiming := tableInv_stable.ownKeeps ownGainTiming_calm
  profileLoad := ownProfileLoad_tables
  busAutoStep s h := h.of_kept (busAutoStep_kept s).toConfigKept PbcForm.busAutoStep
  softResetPbc s h := h.of_kept (softResetPbc_kept s).toConfigKept fun _ => PbcForm.softResetPbc s
  softResetKd s h := h.of_kept (softResetKd_kept s) id
  badFrame s h := h.of_kept (badPbFrame_kept s).toConfigKept PbcForm.badPbFrame
  activity c s h := h.of_kept (hearActivity_kept c s) (PbcForm.hearActivity c)
  frameSent s h := h.of_kept (pbFrameSent_kept s).toConfigKept PbcForm.pbFrameSent
  pass t s h := h.of_kept (hearPass_kept t s) (PbcForm.hearPass t)
  ask f t s h := h.of_kept (hearAsk_kept f t s) (PbcForm.hearAsk f t)
  cargo f t q l s h := h.of_kept (hearCargo_kept f t q l s) (PbcForm.hearCargo f t q l)
  room f t s h := h.of_kept (hearRoom_kept f t s) (PbcForm.hearRoom f t)
  noroom f t s h := h.of_kept (hearNoroom_kept f t s) (PbcForm.hearNoroom f t)
  got f t s h := h.of_kept (hearGot_kept f t s) (PbcForm.hearGot f t)
  here f k u n s h := h.of_kept (hearHere_kept f k u n s) (PbcForm.hearHere f k u n)
  probeClose s h := h.of_kept (closeProbe_kept s) PbcForm.closeProbe
  askClose s h := h.of_kept (closeAsk_kept s).toConfigKept PbcForm.closeAsk
  cargoClose s h := h.of_kept (closeCargo_kept s).toConfigKept PbcForm.closeCargo
  passClose s h := h.of_kept (closePass_kept s) PbcForm.closePass
  roomClose s h := h.of_kept (lapseRoom_kept s).toConfigKept PbcForm.lapseRoom
  checking s h := h.of_kept (endChecking_kept s).toConfigKept PbcForm.endChecking
  silence s h := h.of_kept (endSilence_kept s).toConfigKept PbcForm.endSilence
  census s h := h.of_kept (endCensusInterval_kept s).toConfigKept PbcForm.endCensusInterval
  absence n s h := h.of_kept (endAbsence_kept n s).toConfigKept (PbcForm.endAbsence n)
  departure := takeDeparture_tables
  join := takeJoin_tables
  dispatch := dispatchOldest_tables
  tapWindow := tableInv_stable.endTapWindow
  latchLimit := tableInv_stable.endLatchLimit
  refusal := tableInv_stable.endRefusal
  outcome := tableInv_stable.takeOutcome
  fire := tableInv_stable.takeFire
  imageReport := tableInv_stable.takeReportOf

/-- Settles O7: no effect takes an ID that is no node's into a table, or the tables out of their order. -/
theorem tableFormsKept : Obligations.TableFormsKept :=
  fun _ _ h e => tableInv_effects.step h e

end Sys2Proof.Machine
end


section
/-! SUPPORT. The invariant of the Panel Bus, in two halves: what holds of the roster whatever work is in progress, and what the work in
progress asks for. Each operation of PBC keeps the first; the operations that choose new work need only that to give the second (O8). -/

namespace Sys2Proof.Machine

/-! ### The two halves -/

/-- The desired image of a key that has one. -/
def shown (s : State) (n k : Nat) : Option Image := (s.kd.key n k).map (·.image)

/-- A notice of the panel waits for KD. -/
def waits (s : State) (n : Nat) (_ : Nat) : Prop := ∃ x ∈ s.reports.kdPanels, x.node = n

/-- What the link part of a MEMBER entry meets, the keys in `ex` being exempt from the rule that a key whose sent image is not its
desired one is dirty. -/
structure LinkForm (image : Nat → Option Image) (ex : Nat → Prop) (info : Option PanelInfo) (link : Link) : Prop where
  keys : ∃ i, info = some i ∧ link.sent.length = i.keys
  ascending : link.dirty.Pairwise (· < ·)
  below : ∀ k ∈ link.dirty, k < link.sent.length
  dirty : ∀ k i, ¬ ex k → image k = some i → k < link.sent.length → link.sent[k]? ≠ some (some i) → k ∈ link.dirty

theorem LinkForm.mono {image image' : Nat → Option Image} {ex ex' : Nat → Prop} {info : Option PanelInfo} {link : Link}
    (h : LinkForm image ex info link) (hd : ∀ k i, ¬ ex' k → image' k = some i → ¬ ex k ∧ image k = some i) :
    LinkForm image' ex' info link :=
  { h with dirty := fun k i hx hi => h.dirty k i (hd k i hx hi).1 (hd k i hx hi).2 }

/-- The panel information and the link part of an entry that is MEMBER. -/
def RosterEntry.linkPart (e : RosterEntry) : Option (Option PanelInfo × Link) :=
  match e.presence with
  | .member link _ _ => some (e.info, link)
  | _ => none

def Pbc.linkPart (p : Pbc) (n : Nat) : Option (Option PanelInfo × Link) := (p.entry n).bind RosterEntry.linkPart

theorem RosterEntry.linkPart_eq_some {e : RosterEntry} {i : Option PanelInfo} {link : Link} :
    e.linkPart = some (i, link) ↔ ∃ stall ask, e.info = i ∧ e.presence = .member link stall ask := by
  unfold linkPart
  cases h : e.presence <;> simp

theorem Pbc.linkPart_eq_some {p : Pbc} {n : Nat} {i : Option PanelInfo} {link : Link} :
    p.linkPart n = some (i, link) ↔ ∃ e stall ask, p.entry n = some e ∧ e.info = i ∧ e.presence = .member link stall ask := by
  simp only [Pbc.linkPart, Option.bind_eq_some_iff, RosterEntry.linkPart_eq_some]
  constructor
  · rintro ⟨e, he, stall, ask, hi, hp⟩; exact ⟨e, stall, ask, he, hi, hp⟩
  · rintro ⟨e, stall, ask, he, hi, hp⟩; exact ⟨e, he, stall, ask, hi, hp⟩

theorem Pbc.linkPart_of_presence {p : Pbc} {n : Nat} {link : Link} {stall : Nat} {ask : Option Millis}
    (h : p.presence n = some (.member link stall ask)) : ∃ i, p.linkPart n = some (i, link) := by
  obtain ⟨e, he, hp⟩ := Option.map_eq_some_iff.1 h
  exact ⟨e.info, Pbc.linkPart_eq_some.2 ⟨e, stall, ask, he, rfl, hp⟩⟩

/-- A node off the bus, CHECKING or in CONFLICT. -/
abbrev Quiet (p : Pbc) : Prop := p.node ∈ [.asleep, .listening, .checking, .conflict]

/-- The half that does not speak of the work in progress. -/
structure BusForm (ex : Nat → Nat → Prop) (s : State) : Prop where
  own : s.pbc.entry s.pbc.id = none
  ownResult : ∀ kv ∈ s.pbc.results, kv.1 ≠ s.pbc.id
  quietResults : Quiet s.pbc → s.pbc.results = []
  slots : s.pbc.inbound.length + (if s.pbc.reserved.isSome then 1 else 0) ≤ Config.inboundMax
  links : ∀ n i link, s.pbc.linkPart n = some (i, link) → LinkForm (shown s n) (ex n) i link

/-- The half that speaks of the work in progress. -/
structure WorkForm (s : State) : Prop where
  ownProbe : ∀ c n h, s.pbc.work = .probe c n h → n ≠ s.pbc.id
  quietWork : Quiet s.pbc → s.pbc.work = .idle
  carried : ∀ n c i link, s.pbc.work = .cargo n c → s.pbc.linkPart n = some (i, link) → (c.map (·.1)).Nodup ∧ ∀ x ∈ c, x.1 ∈ link.dirty

/-- Both halves. -/
structure BusInv (s : State) : Prop extends BusForm (waits s) s, WorkForm s

theorem panelBusInv_iff (s : State) : PanelBusInv s ↔ TableInv s ∧ BusInv s := by
  constructor
  · refine fun h => ⟨h.tables, ⟨h.own, h.ownResult, fun hq => (h.quiet hq).1, h.slots, fun n i link hl => ?_⟩, h.ownProbe,
      fun hq => (h.quiet hq).2, fun n c i link hw hl => ?_⟩
    · obtain ⟨e, stall, ask, he, rfl, hp⟩ := Pbc.linkPart_eq_some.1 hl
      have l := h.links n e link stall ask he hp
      refine { keys := l.keys, ascending := l.ascending, below := l.below, dirty := fun k i hx hi => ?_ }
      obtain ⟨x, hk, rfl⟩ := Option.map_eq_some_iff.1 hi
      exact l.dirty (fun y hy hn => hx ⟨y, hy, hn⟩) k x hk
    · obtain ⟨e, stall, ask, he, rfl, hp⟩ := Pbc.linkPart_eq_some.1 hl
      exact (h.links n e link stall ask he hp).carried c hw
  · refine fun ⟨ht, h⟩ => ⟨ht, h.own, h.ownResult, h.ownProbe, fun hq => ⟨h.quietResults hq, h.quietWork hq⟩, h.slots,
      fun n e link stall ask he hp => ?_⟩
    have hl := Pbc.linkPart_eq_some.2 ⟨e, stall, ask, he, rfl, hp⟩
    have l := h.links n _ link hl
    refine ⟨l.keys, l.ascending, l.below, fun c hw => h.carried n c _ link hw hl, fun hn k x hk => ?_⟩
    exact l.dirty k x.image (fun ⟨y, hy, e⟩ => hn y hy e) (by unfold shown; rw [hk]; rfl)

/-! ### The link parts after an update of the roster -/

theorem linkPart_setRoster (n : Nat) (e : RosterEntry) (s : State) (m : Nat) :
    (setRoster n e s).pbc.linkPart m = if m = n then e.linkPart else s.pbc.linkPart m := by
  simp only [Pbc.linkPart, Pbc.entry, setRoster, tfind_tput]
  split <;> rfl

theorem linkPart_dropRoster (n : Nat) (s : State) (m : Nat) :
    (dropRoster n s).pbc.linkPart m = if m = n then none else s.pbc.linkPart m := by
  simp only [Pbc.linkPart, Pbc.entry, dropRoster, tfind_tdel]
  split <;> rfl

/-- An update that keeps an entry's link part but for the change `g`. -/
theorem linkPart_tmodify (p : Pbc) (n : Nat) (f : RosterEntry → RosterEntry) (g : Link → Link)
    (hf : ∀ e, (f e).linkPart = e.linkPart.map fun x => (x.1, g x.2)) (m : Nat) :
    Pbc.linkPart { p with roster := tmodify p.roster n f } m
      = if m = n then (p.linkPart m).map fun x => (x.1, g x.2) else p.linkPart m := by
  simp only [Pbc.linkPart, Pbc.entry, tfind_tmodify]
  split
  · cases tfind p.roster m with
    | none => rfl
    | some e => exact hf e
  · rfl

theorem linkPart_onMember (n : Nat) {f : Link → Nat → Option Millis → Presence} {g : Link → Link} (s : State)
    (hf : ∀ link stall ask, ∃ stall' ask', f link stall ask = .member (g link) stall' ask') (m : Nat) :
    (onMember n f s).pbc.linkPart m = if m = n then (s.pbc.linkPart m).map fun x => (x.1, g x.2) else s.pbc.linkPart m := by
  refine linkPart_tmodify s.pbc n _ g (fun e => ?_) m
  cases hp : e.presence with
  | member link stall ask =>
    obtain ⟨stall', ask', h⟩ := hf link stall ask
    simp [RosterEntry.linkPart, hp, h]
  | absent since => simp [RosterEntry.linkPart, hp]
  | contested => simp [RosterEntry.linkPart, hp]

/-- What marking a key does to a link part. -/
def addDirty (k : Nat) (link : Link) : Link :=
  if k < link.sent.length then { link with dirty := insertAsc link.dirty k } else link

theorem linkPart_markDirty (n k : Nat) (s : State) (m : Nat) :
    (markDirty n k s).pbc.linkPart m = if m = n then (s.pbc.linkPart m).map fun x => (x.1, addDirty k x.2) else s.pbc.linkPart m := by
  refine linkPart_tmodify s.pbc n _ (addDirty k) (fun e => ?_) m
  cases hp : e.presence with
  | member link stall ask => by_cases h : k < link.sent.length <;> simp [RosterEntry.linkPart, addDirty, hp, h]
  | absent since => simp [RosterEntry.linkPart, hp]
  | contested => simp [RosterEntry.linkPart, hp]

theorem entry_tmodify_eq_none {p : Pbc} {n m : Nat} {f : RosterEntry → RosterEntry} (h : p.entry m = none) :
    Pbc.entry { p with roster := tmodify p.roster n f } m = none := by
  simp only [Pbc.entry, tfind_tmodify] at h ⊢
  rw [h]; split <;> rfl

theorem pairwise_insertAsc {l : List Nat} (k : Nat) (h : l.Pairwise (· < ·)) : (insertAsc l k).Pairwise (· < ·) := by
  induction l with
  | nil => simp [insertAsc]
  | cons a l ih =>
    obtain ⟨ha, hl⟩ := List.pairwise_cons.1 h
    simp only [insertAsc]
    split
    · next hk => exact List.pairwise_cons.2 ⟨fun b hb => by
        rcases List.mem_cons.1 hb with rfl | hb
        · exact hk
        · exact Nat.lt_trans hk (ha b hb), h⟩
    · split
      · exact h
      · next h1 h2 => exact List.pairwise_cons.2 ⟨fun b hb => by
          rcases mem_insertAsc.1 hb with rfl | hb
          · omega
          · exact ha b hb, ih hl⟩

/-- A key made dirty needs no exemption. -/
theorem LinkForm.addDirty {image image' : Nat → Option Image} {ex ex' : Nat → Prop} {info : Option PanelInfo} {link : Link} {k : Nat}
    (h : LinkForm image ex info link) (hd : ∀ j i, j ≠ k → ¬ ex' j → image' j = some i → ¬ ex j ∧ image j = some i) :
    LinkForm image' ex' info (addDirty k link) := by
  unfold Machine.addDirty
  split
  · refine ⟨h.keys, pairwise_insertAsc k h.ascending, fun j hj => ?_, fun j i hx hi hlt hs => mem_insertAsc.2 ?_⟩
    · rcases mem_insertAsc.1 hj with rfl | hj
      · assumption
      · exact h.below j hj
    · by_cases hjk : j = k
      · exact .inl hjk
      · exact .inr (h.dirty j i (hd j i hjk hx hi).1 (hd j i hjk hx hi).2 hlt hs)
  · next hk =>
    refine { h with dirty := fun j i hx hi hlt hs => ?_ }
    have hjk : j ≠ k := fun e => hk (e ▸ hlt)
    exact h.dirty j i (hd j i hjk hx hi).1 (hd j i hjk hx hi).2 hlt hs

/-! ### The half that does not speak of the work in progress -/

namespace BusForm
variable {s : State} {ex : Nat → Nat → Prop}

theorem mono {ex' : Nat → Nat → Prop} (hx : ∀ n k, ex n k → ex' n k) (h : BusForm ex s) : BusForm ex' s :=
  { h with links := fun n i link hl => (h.links n i link hl).mono fun k _ hn hi => ⟨fun e => hn (hx n k e), hi⟩ }

theorem calm {t : State} (k : Calm s t) (h : BusForm ex s) : BusForm ex t := by
  obtain ⟨own, res, quiet, slots, links⟩ := h
  have hs : shown t = shown s := funext fun n => funext fun j => k.images n j
  exact ⟨k.pbc ▸ own, k.pbc ▸ res, k.pbc ▸ quiet, k.pbc ▸ slots, by rw [k.pbc, hs]; exact links⟩

/-- A node other than the hub gets an entry that is not MEMBER. -/
theorem setRoster {n : Nat} {e : RosterEntry} (he : e.linkPart = none) (hn : n ≠ s.pbc.id) (h : BusForm ex s) :
    BusForm ex (setRoster n e s) := by
  refine { h with own := ?_, links := fun m i link hl => ?_ }
  · simp only [Machine.setRoster, Pbc.entry, tfind_tput, if_neg (Ne.symm hn)]; exact h.own
  · rw [linkPart_setRoster] at hl
    split at hl
    · rw [he] at hl; cases hl
    · exact h.links m i link hl

/-- A node other than the hub joins: what KD has of its keys is exempt until KD has taken the notice. -/
theorem setMember {n : Nat} (i : PanelInfo) (hn : n ≠ s.pbc.id) (hx : ∀ k, ex n k) (h : BusForm ex s) :
    BusForm ex (Machine.setRoster n (newMember i) s) := by
  refine { h with own := ?_, links := fun m j link hl => ?_ }
  · simp only [Machine.setRoster, Pbc.entry, tfind_tput, if_neg (Ne.symm hn)]; exact h.own
  · rw [linkPart_setRoster] at hl
    split at hl
    · next hm =>
      subst hm
      cases hl
      exact { keys := ⟨i, rfl, List.length_replicate ..⟩, ascending := .nil, below := nofun, dirty := fun k _ hk => absurd (hx k) hk }
    · exact h.links m j link hl

theorem dropRoster (n : Nat) (h : BusForm ex s) : BusForm ex (dropRoster n s) := by
  refine { h with own := ?_, links := fun m i link hl => ?_ }
  · have := h.own
    simp only [Machine.dropRoster, Pbc.entry, tfind_tdel] at this ⊢
    rw [this]; split <;> rfl
  · rw [linkPart_dropRoster] at hl
    split at hl
    · cases hl
    · exact h.links m i link hl

theorem onMember {n : Nat} {f : Link → Nat → Option Millis → Presence} {g : Link → Link}
    (hf : ∀ link stall ask, ∃ stall' ask', f link stall ask = .member (g link) stall' ask')
    (hg : ∀ i link, s.pbc.linkPart n = some (i, link) → LinkForm (shown s n) (ex n) i link → LinkForm (shown s n) (ex n) i (g link))
    (h : BusForm ex s) : BusForm ex (onMember n f s) := by
  refine { h with own := entry_tmodify_eq_none h.own, links := fun m i link hl => ?_ }
  rw [linkPart_onMember n s hf] at hl
  split at hl
  · next hm =>
    subst hm
    obtain ⟨⟨j, l⟩, hj, e⟩ := Option.map_eq_some_iff.1 hl
    cases e
    exact hg j l hj (h.links m j l hj)
  · exact h.links m i link hl

/-- Only the stall fields, the sequence numbers or the like of a MEMBER entry change. -/
theorem onMember_same {n : Nat} {f : Link → Nat → Option Millis → Presence} {g : Link → Link}
    (hf : ∀ link stall ask, ∃ stall' ask', f link stall ask = .member (g link) stall' ask')
    (hg : ∀ link, (g link).sent = link.sent ∧ (g link).dirty = link.dirty) (h : BusForm ex s) : BusForm ex (Machine.onMember n f s) :=
  h.onMember hf fun i link _ l => by
    obtain ⟨hs, hd⟩ := hg link
    exact ⟨hs ▸ l.keys, hd ▸ l.ascending, by rw [hs, hd]; exact l.below, by rw [hs, hd]; exact l.dirty⟩

end BusForm

/-! ### Notices -/

theorem waits_departure (n : Nat) (s : State) (m k : Nat) : waits (departure n s) m k ↔ waits s m k ∨ m = n := by
  simp only [waits, departure_reports, List.mem_append, List.mem_singleton]
  constructor
  · rintro ⟨x, hx | rfl, rfl⟩
    · exact .inl ⟨x, hx, rfl⟩
    · exact .inr rfl
  · rintro (⟨x, hx, rfl⟩ | rfl)
    · exact ⟨x, .inl hx, rfl⟩
    · exact ⟨_, .inr rfl, rfl⟩

theorem waits_join (n j : Nat) (s : State) (m k : Nat) : waits (join n j s) m k ↔ waits s m k ∨ m = n := by
  simp only [waits, join_reports, List.mem_append, List.mem_singleton]
  constructor
  · rintro ⟨x, hx | rfl, rfl⟩
    · exact .inl ⟨x, hx, rfl⟩
    · exact .inr rfl
  · rintro (⟨x, hx, rfl⟩ | rfl)
    · exact ⟨x, .inl hx, rfl⟩
    · exact ⟨_, .inr rfl, rfl⟩

/-- The half that does not speak of the work in progress, a panel with a waiting notice being exempt. -/
abbrev RosterInv (s : State) : Prop := BusForm (waits s) s

namespace RosterInv
variable {s : State}

theorem departure (n : Nat) (h : RosterInv s) : RosterInv (departure n s) := by
  refine { h.mono (fun m k hw => (waits_departure n s m k).2 (.inl hw)) with slots := ?_ }
  have h0 := h.slots
  have h1 := List.length_filter_le (fun c : Stored => c.sender != n) s.pbc.inbound
  rw [departure_pbc]; dsimp only
  cases hr : s.pbc.reserved with
  | none => simp only [hr, Option.filter_none, Option.isSome_none, Bool.false_eq_true, if_false] at h0 ⊢; omega
  | some r =>
    simp only [hr, Option.isSome_some, if_true] at h0
    split <;> omega

theorem join (n j : Nat) (h : RosterInv s) : RosterInv (join n j s) :=
  { h.mono (fun m k hw => (waits_join n j s m k).2 (.inl hw)) with }

theorem release (n : Nat) (h : RosterInv s) : RosterInv (release n s) := { h with }

theorem setFlagIf (c : Bool) (f : Flag) (h : RosterInv s) : RosterInv (setFlagIf c f s) := by
  have k := setFlagIf_apart c f s
  have hw : waits (Machine.setFlagIf c f s) = waits s := by unfold waits; rw [k.notices]
  unfold RosterInv; rw [hw]; exact BusForm.calm k.calm h

end RosterInv

end Sys2Proof.Machine
end


section
/-! SUPPORT. Every operation of PBC keeps the invariant of the Panel Bus (O8). -/

namespace Sys2Proof.Machine

variable {s : State}

theorem waits_of_calm {t : State} (k : Calm s t) : waits t = waits s := by unfold waits; rw [k.notices]

theorem BusInv.of_calm {t : State} (k : Calm s t) (h : BusInv s) : BusInv t := by
  obtain ⟨hb, hw⟩ := h
  refine ⟨?_, ?_⟩
  · rw [waits_of_calm k]; exact hb.calm k
  · obtain ⟨hp, hq, hc⟩ := hw
    exact ⟨k.pbc ▸ hp, k.pbc ▸ hq, k.pbc ▸ hc⟩

/-! ### Work that is chosen anew -/

/-- Work that is neither a probe nor a cargo asks for nothing but a node on the bus. -/
theorem WorkForm.plain (hp : ∀ c n h, s.pbc.work ≠ .probe c n h) (hc : ∀ n c, s.pbc.work ≠ .cargo n c)
    (hq : Quiet s.pbc → s.pbc.work = .idle) : WorkForm s :=
  ⟨fun c n h e => absurd e (hp c n h), hq, fun n c _ _ e => absurd e (hc n c)⟩

theorem WorkForm.of_probe {c : Bool} {n : Nat} {x : Bool} (hw : s.pbc.work = .probe c n x) (hn : n ≠ s.pbc.id)
    (hq : ¬ Quiet s.pbc) : WorkForm s :=
  ⟨fun _ _ _ e => by rw [hw] at e; cases e; exact hn, fun q => absurd q hq, fun _ _ _ _ e => by rw [hw] at e; cases e⟩

theorem BusInv.not_quiet (h : BusInv s) (hw : s.pbc.work ≠ .idle) : ¬ Quiet s.pbc := fun q => hw (h.quietWork q)

theorem ne_own_of_nextProbeId {own p n : Nat} (h : nextProbeId own p = some n) : n ≠ own := by
  simpa using List.find?_some h

theorem firstProbe_ne_own (own : Nat) : (nextProbeId own 0).getD 1 ≠ own := by
  cases h : nextProbeId own 0 with
  | none =>
    have h1 := List.find?_eq_none.1 h 1 (by simp)
    have h2 := List.find?_eq_none.1 h 2 (by simp)
    simp only [bne_iff_ne, ne_eq, not_not] at h1 h2
    omega
  | some n => exact ne_own_of_nextProbeId h

theorem ne_own_of_censusChoice {p : Pbc} {n : Nat} (h : censusChoice p = some n) : n ≠ p.id := by
  have := List.find?_some h
  simp only [Bool.and_eq_true, bne_iff_ne, ne_eq] at this
  exact this.1

theorem startSweep_bus (h : RosterInv s) : BusInv (startSweep s) where
  own := h.own
  ownResult := nofun
  quietResults _ := rfl
  slots := h.slots
  links := h.links
  toWorkForm := .of_probe rfl (firstProbe_ne_own _) (by simp [startSweep])

theorem passOn_bus (h : RosterInv s) (hq : ¬ Quiet s.pbc) : BusInv (passOn s) := by
  unfold passOn; split
  · exact ⟨{ h with }, .plain nofun nofun fun _ => rfl⟩
  · exact ⟨{ h with }, .plain nofun nofun fun q => absurd q hq⟩

theorem nextExchange_bus (h : RosterInv s) (hq : ¬ Quiet s.pbc) : BusInv (nextExchange s) := by
  unfold nextExchange; split
  · split
    · exact passOn_bus h hq
    · rename_i p _
      have h0 : RosterInv (onMember p (fun link stall ask => .member link stall (ask.map fun _ => s.now)) s) :=
        h.onMember_same (g := id) (fun _ _ _ => ⟨_, _, rfl⟩) fun _ => ⟨rfl, rfl⟩
      exact ⟨{ h0 with }, .plain nofun nofun fun q => absurd q hq⟩
  · exact passOn_bus h hq

theorem turnSequence_bus (h : RosterInv s) (hq : ¬ Quiet s.pbc) : BusInv (turnSequence s) := by
  unfold turnSequence; split
  · have h0 : RosterInv { s with pbc := { s.pbc with lastCensus := s.now } } := { h with }
    dsimp only; split
    · exact nextExchange_bus h0 hq
    · rename_i n hn
      have hne : n ≠ s.pbc.id := ne_own_of_censusChoice hn
      exact ⟨{ h0 with }, .of_probe rfl hne hq⟩
  · exact nextExchange_bus h hq

theorem beginTurn_bus (h : RosterInv s) (hq : ¬ Quiet s.pbc) : BusInv (beginTurn s) := by
  unfold beginTurn; dsimp only
  have h0 : RosterInv { s with
      pbc := { s.pbc with
        silentSince := none
        turn := { holds := true, made := 0, chosen := [], budget := s.pbc.timing.turnBudget, started := s.now } } } := { h with }
  split
  · exact startSweep_bus h0
  · exact turnSequence_bus h0 hq

/-! ### Probes -/

/-- What the result of a probe leaves of PBC. -/
theorem applyProbe_pbc (n : Nat) (r : ProbeResult) (s : State) :
    ∃ roster inbound reserved, (applyProbe n r s).pbc = { s.pbc with roster := roster, inbound := inbound, reserved := reserved } := by
  unfold applyProbe
  repeat' split
  all_goals exact ⟨_, _, _, rfl⟩

theorem applyProbe_id (n : Nat) (r : ProbeResult) (s : State) : (applyProbe n r s).pbc.id = s.pbc.id := by
  obtain ⟨_, _, _, e⟩ := applyProbe_pbc n r s; rw [e]

theorem applyProbe_node (n : Nat) (r : ProbeResult) (s : State) : (applyProbe n r s).pbc.node = s.pbc.node := by
  obtain ⟨_, _, _, e⟩ := applyProbe_pbc n r s; rw [e]

theorem linkPart_absent (i : Option PanelInfo) (t : Millis) : RosterEntry.linkPart { info := i, presence := .absent t } = none := rfl

theorem linkPart_contested (i : Option PanelInfo) : RosterEntry.linkPart { info := i, presence := .contested } = none := rfl

/-- A panel joins: its entry is fresh, and the notice that waits for KD exempts its keys. -/
theorem RosterInv.joins {n : Nat} (i : PanelInfo) (hn : n ≠ s.pbc.id) (h : RosterInv s) :
    RosterInv (setRoster n (newMember i) (Machine.join n i.keys s)) :=
  BusForm.setMember (s := Machine.join n i.keys s) i hn (fun k => (waits_join n i.keys s n k).2 (.inr rfl)) (h.join n i.keys)

theorem applyProbe_bus {n : Nat} (r : ProbeResult) (hn : n ≠ s.pbc.id) (h : RosterInv s) : RosterInv (applyProbe n r s) := by
  have joins (t : State) (ht : RosterInv t) (i : PanelInfo) (e : t.pbc.id = s.pbc.id) :
      RosterInv (setRoster n (newMember i) (Machine.join n i.keys t)) := ht.joins i (e ▸ hn)
  have leaves (e : RosterEntry) (he : e.linkPart = none) : RosterInv (setRoster n e s) := BusForm.setRoster he hn h
  unfold applyProbe
  split
  · exact joins s h _ rfl
  · split
    · split
      · exact h
      · split
        · exact joins _ (h.departure n) _ rfl
        · exact joins _ ((h.departure n).release n) _ rfl
    · split
      · exact joins s h _ rfl
      · exact joins _ (h.release n) _ rfl
    · exact joins s h _ rfl
  · exact leaves _ (linkPart_contested _)
  · split
    · exact ((leaves _ (linkPart_contested _)).departure n).release n
    · exact (leaves _ (linkPart_contested _)).release n
    · exact h
  · exact h
  · split
    · exact (leaves _ (linkPart_absent _ _)).departure n
    · exact h
    · exact RosterInv.release (s := dropRoster n s) n (BusForm.dropRoster n h)

theorem applyResults_bus {l : Tab ProbeResult} (hl : ∀ kv ∈ l, kv.1 ≠ s.pbc.id) (h : RosterInv s) :
    RosterInv (l.foldl (fun t kv => applyProbe kv.1 kv.2 t) s) := by
  induction l generalizing s with
  | nil => exact h
  | cons kv l ih =>
    refine ih (fun x hx => ?_) (applyProbe_bus kv.2 (hl kv (List.mem_cons_self ..)) h)
    rw [applyProbe_id]; exact hl x (List.mem_cons_of_mem _ hx)

theorem sendRing_bus (h : RosterInv s) : RosterInv (sendRing s) := { h with }

theorem completeSweep_bus (h : RosterInv s) : BusInv (completeSweep s) := by
  have h0 := applyResults_bus h.ownResult h
  unfold completeSweep; dsimp only
  generalize s.pbc.results.foldl (fun (t : State) (kv : Nat × ProbeResult) => applyProbe kv.1 kv.2 t) s = u at h0 ⊢
  have h1 : RosterInv { u with pbc := { u.pbc with node := .member, results := [], work := .idle } } :=
    { h0 with ownResult := nofun, quietResults := fun _ => rfl }
  refine beginTurn_bus (sendRing_bus (h1.setFlagIf _ _)) ?_
  show ¬ Quiet (setFlagIf _ _ _).pbc
  rw [(setFlagIf_apart _ _ _).pbc]
  simp

theorem endProbe_bus (r : ProbeResult) (h : BusInv s) : BusInv (endProbe r s) := by
  unfold endProbe; split
  · rename_i n heard hw
    have hq : ¬ Quiet s.pbc := h.not_quiet (by simp [hw])
    dsimp only
    have h0 : RosterInv (setFlagIf (probeChanges r (s.pbc.entry n)) .roster (applyProbe n r s)) :=
      (applyProbe_bus r (h.ownProbe _ _ _ hw) h.toBusForm).setFlagIf _ _
    have hq0 : ¬ Quiet (setFlagIf (probeChanges r (s.pbc.entry n)) .roster (applyProbe n r s)).pbc := by
      rw [(setFlagIf_apart _ _ _).pbc]
      unfold Quiet; rw [applyProbe_node]; exact hq
    generalize setFlagIf (probeChanges r (s.pbc.entry n)) .roster (applyProbe n r s) = u at h0 hq0 ⊢
    have h1 : RosterInv { u with pbc := { u.pbc with work := .idle, windowOpen := false } } := { h0 with }
    split
    · exact nextExchange_bus (sendRing_bus h1) hq0
    · exact nextExchange_bus h1 hq0
  · rename_i n heard hw
    have hq : ¬ Quiet s.pbc := h.not_quiet (by simp [hw])
    dsimp only
    have h0 : RosterInv { s with pbc := { s.pbc with results := tput s.pbc.results n r, windowOpen := false } } :=
      { h.toBusForm with
        ownResult := forall_tput (P := fun kv => kv.1 ≠ s.pbc.id) h.ownResult (h.ownProbe _ _ _ hw)
        quietResults := fun q => absurd q hq }
    split
    · rename_i m hm
      exact ⟨{ h0 with }, .of_probe rfl (ne_own_of_nextProbeId hm) hq⟩
    · exact completeSweep_bus h0
  · exact h

/-! ### What the hub takes from the line -/

theorem reserved_slots {p : Pbc} (f : Nat × RoomStage → Nat × RoomStage)
    (h : p.inbound.length + (if p.reserved.isSome then 1 else 0) ≤ Config.inboundMax) :
    p.inbound.length + (if (p.reserved.map f).isSome then 1 else 0) ≤ Config.inboundMax := by
  rw [Option.isSome_map]; exact h

theorem noteActivity_bus (h : BusInv s) : BusInv (noteActivity s) := by
  have hs := reserved_slots (fun (r : Nat × RoomStage) => if r.2 = .window then (r.1, .heard) else r) h.slots
  unfold noteActivity; dsimp only
  split
  · exact h
  · exact { h with slots := hs }
  · exact { h with slots := hs }
  · exact { h with slots := hs }
  all_goals
    split
    · exact ⟨{ h.toBusForm with slots := hs }, .plain nofun nofun fun _ => rfl⟩
    · rename_i c n x _ hw _
      exact ⟨{ h.toBusForm with slots := hs }, .of_probe rfl (h.ownProbe _ _ _ hw) (h.not_quiet (by rw [hw]; nofun))⟩
    · split <;> exact { h with slots := hs }

theorem examine_bus (l : List Byte) (h : BusInv s) : BusInv (examine l s) := by
  unfold examine; split
  · next hc =>
    have hq : Quiet s.pbc := by simp [Quiet, hc.1]
    exact { h with quietResults := fun _ => h.quietResults hq, quietWork := fun _ => h.quietWork hq }
  · exact h

theorem cleanFrame_bus (l : List Byte) (h : BusInv s) : BusInv (cleanFrame l s) := by
  unfold cleanFrame; split
  · exact h
  · exact examine_bus l (noteActivity_bus h)

theorem lapseReservation_bus (h : BusInv s) : BusInv (lapseReservation s) :=
  { h with slots := Nat.le_trans (Nat.add_le_add_left (Nat.zero_le _) _) h.slots }

theorem heard_bus (l : List Byte) (h : BusInv s) : BusInv (lapseReservation (cleanFrame l s)) :=
  lapseReservation_bus (cleanFrame_bus l h)

theorem answerProbe_bus (h : BusInv s) : BusInv (answerProbe s) := by
  unfold answerProbe; split
  · exact endProbe_bus _ h
  · exact h

theorem badPbFrame_bus (h : BusInv s) : BusInv (badPbFrame s) := by
  unfold badPbFrame; split
  · exact h
  · exact { lapseReservation_bus (noteActivity_bus h) with }

/-! ### Node states -/

theorem startChecking_bus (h : RosterInv s) (hr : s.pbc.results = []) (hw : s.pbc.work = .idle) : BusInv (startChecking s) :=
  ⟨{ h with quietResults := fun _ => hr }, .plain (by simp [startChecking, hw]) (by simp [startChecking, hw]) fun _ => hw⟩

theorem enterListening_bus (h : RosterInv s) (hr : s.pbc.results = []) (hw : s.pbc.work = .idle) : BusInv (enterListening s) :=
  ⟨{ h with quietResults := fun _ => hr }, .plain (by simp [enterListening, hw]) (by simp [enterListening, hw]) fun _ => hw⟩

theorem ne_own_of_entry {e : RosterEntry} {n : Nat} (h : RosterInv s) (he : s.pbc.entry n = some e) : n ≠ s.pbc.id := by
  rintro rfl; rw [h.own] at he; cases he

theorem leaveMember_bus (n : Nat) (now : Millis) (h : RosterInv s) :
    RosterInv (match s.pbc.entry n with
      | some e => departure n (setRoster n { e with presence := .absent now } s)
      | none => s) := by
  split
  · rename_i e he
    have h0 : RosterInv (setRoster n { e with presence := .absent now } s) :=
      BusForm.setRoster (linkPart_absent _ _) (ne_own_of_entry h he) h
    exact h0.departure n
  · exact h

theorem leaveBus_bus (h : RosterInv s) : BusInv (leaveBus s) := by
  have h0 := foldl_keeps (P := RosterInv)
    (f := fun (t : State) n => match t.pbc.entry n with
      | some e => departure n (setRoster n { e with presence := .absent s.now } t)
      | none => t) (fun _ n ht => leaveMember_bus n s.now ht) s.pbc.memberIds s h
  unfold leaveBus; dsimp only
  generalize s.pbc.memberIds.foldl _ s = u at h0 ⊢
  have h1 : RosterInv { u with
      pbc := { u.pbc with
        checkingExpiry := none, sweepPending := false, results := [], work := .idle, windowOpen := false, tx := [],
        silentSince := none, reserved := none, inbound := [], turn := { u.pbc.turn with holds := false, chosen := [] } } } :=
    { h0 with ownResult := nofun, quietResults := fun _ => rfl, slots := Nat.zero_le _ }
  exact (enterListening_bus h1 rfl rfl).of_calm (setFlagIf_apart _ _ _).calm

/-! ### The roster and its entries -/

/-- Fewer entries, or as many with the same link parts, ask for no more. -/
theorem removeEntry_bus (n : Nat) (h : BusInv s) : BusInv (removeEntry n s) := by
  refine .of_calm (setFlag_apart _ _).calm ⟨RosterInv.release (s := dropRoster n s) n (BusForm.dropRoster n h.toBusForm), ?_⟩
  refine { h with carried := fun m c i link hw hl => h.carried m c i link hw ?_ }
  have e : (dropRoster n s).pbc.linkPart m = some (i, link) := hl
  rw [linkPart_dropRoster] at e
  split at e
  · cases e
  · exact e

theorem linkPart_stallNow (limit : Nat) (now : Millis) (e : RosterEntry) : (stallNow limit now e).linkPart = e.linkPart := by
  unfold stallNow
  split
  · next hp => split <;> simp [RosterEntry.linkPart, hp]
  · rfl

theorem linkPart_map {p : Pbc} (f : RosterEntry → RosterEntry) (hf : ∀ e, (f e).linkPart = e.linkPart) (m : Nat) :
    Pbc.linkPart { p with roster := p.roster.map fun kv => (kv.1, f kv.2) } m = p.linkPart m := by
  simp only [Pbc.linkPart, Pbc.entry, tfind_map p.roster (fun _ e => f e)]
  cases tfind p.roster m with
  | none => rfl
  | some e => exact hf e

theorem applyStallLimit_bus (h : BusInv s) : BusInv (applyStallLimit s) := by
  have k : Calm { s with pbc := (applyStallLimit s).pbc } (applyStallLimit s) := by
    unfold applyStallLimit; dsimp only
    rw [(setFlagIf_apart _ _ _).pbc]
    exact (setFlagIf_apart _ _ _).calm
  refine .of_calm k ?_
  rw [applyStallLimit_pbc]
  have hl := linkPart_map (p := s.pbc) (stallNow s.pbc.timing.stallLimit s.now) (linkPart_stallNow _ _)
  refine ⟨{ h.toBusForm with own := ?_, links := fun n i link e => h.links n i link (hl n ▸ e) },
    { h with carried := fun n c i link hw e => h.carried n c i link hw (hl n ▸ e) }⟩
  have h0 := h.own
  simp only [Pbc.entry] at h0 ⊢
  rw [tfind_map s.pbc.roster (fun _ e => stallNow s.pbc.timing.stallLimit s.now e), h0]; rfl

theorem endAbsence_bus (n : Nat) (h : BusInv s) : BusInv (endAbsence n s) := by
  unfold endAbsence; split
  · split
    · exact removeEntry_bus n h
    · exact h
  · exact h

theorem endSilence_bus (h : BusInv s) : BusInv (endSilence s) := by
  unfold endSilence; split
  · exact startSweep_bus h.toBusForm
  · exact h

/-! ### Cargo and lamps -/

theorem onMember_bus {n : Nat} {f : Link → Nat → Option Millis → Presence} {g : Link → Link}
    (hf : ∀ link stall ask, ∃ stall' ask', f link stall ask = .member (g link) stall' ask')
    (hg : ∀ link, (g link).sent = link.sent ∧ (g link).dirty = link.dirty) (h : BusInv s) : BusInv (onMember n f s) := by
  refine ⟨h.onMember_same hf hg, { h with carried := fun m c i link hw hl => ?_ }⟩
  rw [linkPart_onMember n s hf] at hl
  split at hl
  · obtain ⟨⟨j, l⟩, hj, e⟩ := Option.map_eq_some_iff.1 hl
    cases e
    rw [(hg l).2]; exact h.carried m c j l hw hj
  · exact h.carried m c i link hw hl

theorem sendPb_bus (f : PbFrame) (h : BusInv s) : BusInv (sendPb f s) := { h with }

theorem acceptSeq_bus (n q : Nat) (h : BusInv s) : BusInv (acceptSeq n q s) :=
  onMember_bus (g := fun link => { link with lastIn := some q }) (fun _ _ _ => ⟨_, _, rfl⟩) (fun _ => ⟨rfl, rfl⟩) h

theorem discardCargo_bus (h : BusInv s) : BusInv (discardCargo s) := { h with }

/-- The reservation lapses at the frame's end: with the cargo stored the buffer has its four slots still (R23, R24). -/
theorem storeCargo_slots {n : Nat} {p : Pbc} (h : p.inbound.length + (if p.reserved.isSome then 1 else 0) ≤ Config.inboundMax)
    (hr : (p.reserved.any (·.1 == n) || 0 < freeSlots p) = true) : p.inbound.length + 1 ≤ Config.inboundMax := by
  cases e : p.reserved with
  | none =>
    simp only [freeSlots, e, Option.any_none, Bool.false_or, Option.isSome_none, Bool.false_eq_true, if_false, decide_eq_true_eq] at hr
    omega
  | some r => simpa [e] using h

theorem takeCargo_bus (n q : Nat) (l : List Byte) (h : BusInv s) : BusInv (lapseReservation (takeCargo n q l s)) := by
  unfold takeCargo
  split
  · dsimp only; split
    · exact lapseReservation_bus (sendPb_bus _ h)
    · split
      · exact lapseReservation_bus (sendPb_bus _ (acceptSeq_bus _ _ (discardCargo_bus h)))
      · split
        · next x _ hr =>
          have h0 : BusInv (lapseReservation { s with pbc := { s.pbc with inbound := s.pbc.inbound ++ [⟨n, x⟩] } }) :=
            { h with slots := by simpa [lapseReservation] using storeCargo_slots h.slots hr }
          exact sendPb_bus _ (acceptSeq_bus n q h0)
        · exact lapseReservation_bus (discardCargo_bus h)
  · exact lapseReservation_bus (discardCargo_bus h)

theorem sendLamps_bus (p : Nat) (hq : ¬ Quiet s.pbc) (h : BusInv s) : BusInv (sendLamps p s) := by
  unfold sendLamps; split
  · rename_i link _ _ hp
    obtain ⟨i, hl⟩ := Pbc.linkPart_of_presence hp
    have hf : ∀ (link : Link) (stall : Nat) (ask : Option Millis), ∃ stall' ask',
        Presence.member { link with outSeq := (link.outSeq + 1) % 256 } 0 none
          = .member ((fun l : Link => { l with outSeq := (l.outSeq + 1) % 256 }) link) stall' ask' := fun _ _ _ => ⟨_, _, rfl⟩
    have h0 : RosterInv (onMember p (fun link _ _ => .member { link with outSeq := (link.outSeq + 1) % 256 } 0 none) s) :=
      h.onMember_same hf fun _ => ⟨rfl, rfl⟩
    refine ⟨{ h0 with }, ⟨nofun, fun q => absurd q hq, fun n c j l hw e => ?_⟩⟩
    obtain ⟨rfl, rfl⟩ := Work.cargo.inj hw
    have e' : (onMember p (fun link _ _ => .member { link with outSeq := (link.outSeq + 1) % 256 } 0 none) s).pbc.linkPart p
        = some (j, l) := e
    rw [linkPart_onMember p s hf, if_pos rfl, hl] at e'
    cases e'
    have ht := (h.links p i link hl).ascending.sublist (List.take_sublist Config.lampsMax link.dirty)
    constructor
    · rw [List.map_map]
      have hn : (link.dirty.take Config.lampsMax).Nodup := ht.imp fun hlt => Nat.ne_of_lt hlt
      simpa [Function.comp_def] using hn
    · intro x hx
      obtain ⟨k, hk, rfl⟩ := List.mem_map.1 hx
      exact List.mem_of_mem_take hk
  · exact h

theorem stallPanel_bus (p : Nat) (h : BusInv s) : BusInv (stallPanel p s) := by
  unfold stallPanel; split
  · exact .of_calm (setFlagIf_apart _ _ _).calm
      (onMember_bus (g := id) (fun _ _ _ => ⟨_, _, rfl⟩) (fun _ => ⟨rfl, rfl⟩) h)
  · exact h

end Sys2Proof.Machine
end


section
/-! SUPPORT. Every effect keeps the invariant of the Panel Bus (O8). -/

namespace Sys2Proof.Machine

variable {s : State}

/-! ### GOT -/

/-- What GOT does to a link part for one key carried (R20). -/
def confirmKey (image : Nat → Option Image) (l : Link) (c : Nat × Image) : Link :=
  { l with
    sent := l.sent.set c.1 (some c.2)
    dirty := if image c.1 = some c.2 then l.dirty.filter (· != c.1) else l.dirty }

theorem mem_confirmKey_dirty {image : Nat → Option Image} {l : Link} {c : Nat × Image} {k : Nat} (h : k ∈ l.dirty) (hk : k ≠ c.1) :
    k ∈ (confirmKey image l c).dirty := by
  unfold confirmKey; dsimp only
  split
  · exact List.mem_filter.2 ⟨h, by simpa using hk⟩
  · exact h

theorem LinkForm.confirmKey {image : Nat → Option Image} {ex : Nat → Prop} {info : Option PanelInfo} {l : Link} {c : Nat × Image}
    (h : LinkForm image ex info l) (hc : c.1 ∈ l.dirty) : LinkForm image ex info (confirmKey image l c) := by
  have hsub : ∀ k ∈ (Machine.confirmKey image l c).dirty, k ∈ l.dirty := by
    unfold Machine.confirmKey; dsimp only
    split
    · exact fun k hk => (List.mem_filter.1 hk).1
    · exact fun k hk => hk
  have hlen : (Machine.confirmKey image l c).sent.length = l.sent.length := List.length_set ..
  refine ⟨hlen ▸ h.keys, ?_, fun k hk => hlen ▸ h.below k (hsub k hk), fun k i hx hi hlt hs => ?_⟩
  · unfold Machine.confirmKey; dsimp only
    split
    · exact h.ascending.filter _
    · exact h.ascending
  · rw [hlen] at hlt
    by_cases hk : k = c.1
    · subst hk
      have hne : ¬ image c.1 = some c.2 := fun e => hs (by
        rw [hi] at e; cases e
        simp [Machine.confirmKey, hlt])
      simpa [Machine.confirmKey, hne] using hc
    · refine mem_confirmKey_dirty (h.dirty k i hx hi hlt fun e => hs ?_) hk
      simpa [Machine.confirmKey, List.getElem?_set_ne (Ne.symm hk)] using e

theorem LinkForm.confirmKeys {image : Nat → Option Image} {ex : Nat → Prop} {info : Option PanelInfo} {l : Link}
    {c : List (Nat × Image)} (hc : (c.map (·.1)).Nodup) (hd : ∀ x ∈ c, x.1 ∈ l.dirty) (h : LinkForm image ex info l) :
    LinkForm image ex info (c.foldl (Machine.confirmKey image) l) := by
  induction c generalizing l with
  | nil => exact h
  | cons x c ih =>
    obtain ⟨hx, hc⟩ := List.nodup_cons.1 hc
    refine ih hc (fun y hy => ?_) (h.confirmKey (hd x (List.mem_cons_self ..)))
    refine mem_confirmKey_dirty (hd y (List.mem_cons_of_mem _ hy)) fun e => hx ?_
    exact List.mem_map.2 ⟨y, hy, e⟩

theorem confirmLamps_bus {p : Nat} {c : List (Nat × Image)} (hw : s.pbc.work = .cargo p c) (h : BusInv s) : RosterInv (confirmLamps p c s) := by
  have h0 : RosterInv (onMember p (fun link stall ask => .member (c.foldl (confirmKey (shown s p)) link) stall ask) s) :=
    h.onMember (g := fun link => c.foldl (confirmKey (shown s p)) link) (fun _ _ _ => ⟨_, _, rfl⟩) fun i link hl l => by
      obtain ⟨hn, hd⟩ := h.carried p c i link hw hl
      exact l.confirmKeys hn hd
  exact h0

theorem loseTurn_bus (n : Nat) (hq : ¬ Quiet s.pbc) (h : RosterInv s) : BusInv (loseTurn n s) := by
  unfold loseTurn; dsimp only
  split
  · rename_i e he
    split
    · have h0 : RosterInv (setRoster n { e with presence := .absent s.now } s) :=
        BusForm.setRoster (linkPart_absent _ _) (ne_own_of_entry h he) h
      have h1 : RosterInv (setFlag .roster (departure n (setRoster n { e with presence := .absent s.now } s))) :=
        { h0.departure n with }
      exact passOn_bus (sendRing_bus h1) hq
    · exact passOn_bus (sendRing_bus h) hq
  · exact passOn_bus (sendRing_bus h) hq

/-! ### Requests -/

theorem quiet_of_eq {x : NodeState} (e : s.pbc.node = x) (hx : x ∈ [NodeState.asleep, .listening, .checking, .conflict]) : Quiet s.pbc := by
  rw [Quiet, e]; exact hx

theorem takeId_bus (n : Nat) (hq : Quiet s.pbc) (h : BusInv s) : BusInv (takeId n s) := by
  have hr := h.quietResults hq
  have hw := h.quietWork hq
  unfold takeId; split
  · have h0 : RosterInv (dropRoster n s) := BusForm.dropRoster n h.toBusForm
    have h1 : RosterInv (dropRoster n { s with pbc := { s.pbc with id := n } }) :=
      { h0 with
        own := by simp [dropRoster, Pbc.entry, tfind_tdel]
        ownResult := by simp [dropRoster, hr] }
    exact .of_calm (setFlag_apart _ _).calm ⟨h1.release n, .plain (by simp [release, dropRoster, hw])
      (by simp [release, dropRoster, hw]) fun _ => hw⟩
  · next he =>
    have hown : s.pbc.entry n = none := by simpa using he
    exact ⟨{ h.toBusForm with own := hown, ownResult := by simp [hr] },
      .plain (by simp [hw]) (by simp [hw]) fun _ => hw⟩

theorem takeId_quiet (n : Nat) (hq : Quiet s.pbc) (h : BusInv s) : (takeId n s).pbc.results = [] ∧ (takeId n s).pbc.work = .idle := by
  unfold takeId; split <;> exact ⟨h.quietResults hq, h.quietWork hq⟩

theorem applyNodeId_bus {n : Nat} {t : State} (ht : TableInv s) (h : BusInv s) (e : applyNodeId n s = some t) : BusInv t := by
  obtain ⟨-, -, rfl⟩ | ⟨hn, -, rfl⟩ | ⟨-, ⟨hn, rfl⟩ | ⟨hn, rfl⟩ | ⟨hn, rfl⟩⟩ := applyNodeId_cases e
  · exact h
  · have hq := quiet_of_eq hn (by decide)
    have hr := h.quietResults hq
    have hw := h.quietWork hq
    have hown : s.pbc.entry 0 = none := by
      cases e0 : s.pbc.entry 0 with
      | none => rfl
      | some e => exact absurd (((tableInv_iff s).1 ht).1.isNode_of_entry e0).1 (by decide)
    exact ⟨{ h.toBusForm with own := hown, ownResult := by simp [hr], quietResults := fun _ => hr },
      .plain (by simp [hw]) (by simp [hw]) fun _ => hw⟩
  · have hq := quiet_of_eq hn (by decide)
    exact enterListening_bus (takeId_bus n hq h).toBusForm (takeId_quiet n hq h).1 (takeId_quiet n hq h).2
  · exact takeId_bus n (quiet_of_eq hn (by decide)) h
  · have hq := quiet_of_eq hn (by decide)
    exact startChecking_bus (takeId_bus n hq h).toBusForm (takeId_quiet n hq h).1 (takeId_quiet n hq h).2

theorem applyEnable_bus (on : Bool) (h : BusInv s) : BusInv (applyEnable on s).state := by
  unfold applyEnable
  split
  · exact h
  · exact h
  · exact h
  · next hn =>
    have hq := quiet_of_eq hn (by decide)
    exact startChecking_bus h.toBusForm (h.quietResults hq) (h.quietWork hq)
  · exact h
  · exact leaveBus_bus h.toBusForm

theorem ownBusEnable_bus (body : List Byte) (h : BusInv s) : BusInv (ownBusEnable body s).state := by
  unfold ownBusEnable
  split
  · split
    · exact applyEnable_bus _ h
    · split
      · exact h
      · exact applyEnable_bus _ (s := { s with pbc := { s.pbc with busAuto := _ } }) { h with }
    · exact h
  · exact h

theorem ownBusAuto_bus (body : List Byte) (h : BusInv s) : BusInv (ownBusAuto body s).state := by
  unfold ownBusAuto
  split
  · split
    · exact h
    · exact { h with }
  · exact h

theorem ownBusTiming_bus (body : List Byte) (h : BusInv s) : BusInv (ownBusTiming body s).state := by
  unfold ownBusTiming; split
  · exact h
  · exact applyBusTiming_keeps _ { h with } (fun _ ht => applyStallLimit_bus ht) (fun n _ ht => endAbsence_bus n ht)
      fun _ ht => endSilence_bus ht

theorem ownSweepNow_bus (h : BusInv s) : BusInv (ownSweepNow s).state := by
  unfold ownSweepNow; split
  · exact h
  · dsimp only
    simp only [Answer.state_now]
    have h0 : BusInv { s with pbc := { s.pbc with sweepPending := true } } := { h with }
    split
    · exact startSweep_bus h0.toBusForm
    · exact h0

theorem ownForget_bus (body : List Byte) (h : BusInv s) : BusInv (ownForget body s).state := by
  unfold ownForget
  repeat' split
  all_goals first
    | exact h
    | exact removeEntry_bus _ h

theorem busAutoStep_bus (h : BusInv s) : BusInv (busAutoStep s) := by
  unfold busAutoStep; split
  · next hc =>
    have hq := quiet_of_eq hc.1 (by decide)
    exact startChecking_bus h.toBusForm (h.quietResults hq) (h.quietWork hq)
  · exact h

theorem softResetPbc_bus (s : State) : BusInv (softResetPbc s) := by
  unfold softResetPbc; dsimp only
  have h0 : BusInv { s with
      pbc := { Pbc.powerOn with
        id := s.pbc.id, busAuto := s.pbc.busAuto, timing := s.pbc.timing, lastCensus := s.now
        turn := { s.pbc.turn with holds := false, made := 0, chosen := [] } } } :=
    ⟨⟨rfl, nofun, fun _ => rfl, Nat.zero_le _, nofun⟩, .plain nofun nofun fun _ => rfl⟩
  have k := (setFlagIf_apart (!s.pbc.roster.isEmpty) .roster { s with
      pbc := { Pbc.powerOn with
        id := s.pbc.id, busAuto := s.pbc.busAuto, timing := s.pbc.timing, lastCensus := s.now
        turn := { s.pbc.turn with holds := false, made := 0, chosen := [] } } })
  have h1 := BusInv.of_calm k.calm h0
  have hr := congrArg Pbc.results k.pbc
  have hw := congrArg Pbc.work k.pbc
  generalize setFlagIf (!s.pbc.roster.isEmpty) .roster _ = u at h1 hr hw ⊢
  split
  · exact h1
  · split
    · exact startChecking_bus h1.toBusForm hr hw
    · exact enterListening_bus h1.toBusForm hr hw

/-! ### Frames and timers -/

theorem hearActivity_bus (c : Option BusOther) (h : BusInv s) : BusInv (hearActivity c s) := by
  unfold hearActivity; split
  · exact noteActivity_bus h
  · split
    · exact badPbFrame_bus h
    · split
      · exact h
      · exact answerProbe_bus (heard_bus _ h)

theorem pbFrameSent_bus (h : BusInv s) : BusInv (pbFrameSent s) := by
  unfold pbFrameSent; split
  · exact h
  · dsimp only; split
    · exact { h with slots := reserved_slots _ h.slots }
    · split <;> exact { h with }

theorem noteActivity_node (s : State) : (noteActivity s).pbc.node = s.pbc.node := by
  unfold noteActivity; dsimp only
  repeat' split
  all_goals rfl

theorem cleanFrame_node (l : List Byte) (hn : s.pbc.node = .member) : (cleanFrame l s).pbc.node = .member := by
  simp [cleanFrame, examine, noteActivity_node, hn]

theorem hearPass_bus (x : Byte) (h : BusInv s) : BusInv (hearPass x s) := by
  unfold hearPass; dsimp only
  have h0 := heard_bus [x] h
  have hm := cleanFrame_node (s := s) [x]
  have e : (lapseReservation (cleanFrame [x] s)).pbc.node = (cleanFrame [x] s).pbc.node := rfl
  rw [← e] at hm
  generalize lapseReservation (cleanFrame [x] s) = t at h0 hm ⊢
  refine answerProbe_bus ?_
  split
  · exact { h0 with }
  · exact { h0 with }
  · next hn =>
    split
    · exact beginTurn_bus h0.toBusForm (by simp [Quiet, hm hn])
    · exact h0
  · exact h0

theorem hearAsk_bus (f x : Byte) (h : BusInv s) : BusInv (hearAsk f x s) := by
  unfold hearAsk; dsimp only
  have h0 := heard_bus [f, x] h
  have hres : (lapseReservation (cleanFrame [f, x] s)).pbc.reserved = none := rfl
  generalize lapseReservation (cleanFrame [f, x] s) = t at h0 hres ⊢
  refine answerProbe_bus ?_
  split
  · split
    · next hc =>
      refine sendPb_bus _ { h0 with slots := ?_ }
      simp only [freeSlots, hres, Option.isSome_none, Bool.and_eq_true, decide_eq_true_eq] at hc
      have := hc.2
      simp only [Option.isSome_some, if_true]
      simp only [Bool.false_eq_true, if_false] at this
      omega
    · exact sendPb_bus _ h0
  · exact h0

theorem hearCargo_bus (f x q : Byte) (l : List Byte) (h : BusInv s) : BusInv (hearCargo f x q l s) := by
  unfold hearCargo; dsimp only
  have h0 := cleanFrame_bus [f, x] h
  generalize cleanFrame [f, x] s = t at h0 ⊢
  refine answerProbe_bus ?_
  split
  · exact takeCargo_bus _ _ _ h0
  · exact lapseReservation_bus h0

theorem hearRoom_bus (f x : Byte) (h : BusInv s) : BusInv (hearRoom f x s) := by
  unfold hearRoom; dsimp only
  have h0 := heard_bus [f, x] h
  generalize lapseReservation (cleanFrame [f, x] s) = t at h0 ⊢
  refine answerProbe_bus ?_
  split
  · next hw =>
    split
    · exact sendLamps_bus _ (h0.not_quiet (by simp [hw])) h0
    · exact h0
  · exact h0

theorem hearNoroom_bus (f x : Byte) (h : BusInv s) : BusInv (hearNoroom f x s) := by
  unfold hearNoroom; dsimp only
  have h0 := heard_bus [f, x] h
  generalize lapseReservation (cleanFrame [f, x] s) = t at h0 ⊢
  refine answerProbe_bus ?_
  split
  · next p hw =>
    split
    · have hn : (stallPanel p t).pbc.node = t.pbc.node := by
        unfold stallPanel; split
        · rw [(setFlagIf_apart _ _ _).pbc]; rfl
        · rfl
      exact nextExchange_bus (stallPanel_bus _ h0).toBusForm (by unfold Quiet; rw [hn]; exact h0.not_quiet (by simp [hw]))
    · exact h0
  · exact h0

theorem hearGot_bus (f x : Byte) (h : BusInv s) : BusInv (hearGot f x s) := by
  unfold hearGot; dsimp only
  have h0 := heard_bus [f, x] h
  generalize lapseReservation (cleanFrame [f, x] s) = t at h0 ⊢
  refine answerProbe_bus ?_
  split
  · next hw =>
    split
    · exact nextExchange_bus (confirmLamps_bus hw h0) (h0.not_quiet (by simp [hw]))
    · exact h0
  · exact h0

theorem hearHere_bus (f k : Byte) (u : BitVec 32) (n : Byte) (h : BusInv s) : BusInv (hearHere f k u n s) := by
  unfold hearHere; dsimp only
  have h0 := heard_bus [f] h
  generalize lapseReservation (cleanFrame [f] s) = t at h0 ⊢
  split
  · exact endProbe_bus _ h0
  · exact h0

theorem closeProbe_bus (h : BusInv s) : BusInv (closeProbe s) := by
  unfold closeProbe; split
  · exact endProbe_bus _ h
  · exact h

theorem closeAsk_bus (h : BusInv s) : BusInv (closeAsk s) := by
  unfold closeAsk; split
  · next hw _ => exact nextExchange_bus h.toBusForm (h.not_quiet (by simp [hw]))
  · exact h

theorem closeCargo_bus (h : BusInv s) : BusInv (closeCargo s) := by
  unfold closeCargo; split
  · next hw _ => exact nextExchange_bus h.toBusForm (h.not_quiet (by simp [hw]))
  · exact h

theorem closePass_bus (h : BusInv s) : BusInv (closePass s) := by
  unfold closePass; split
  · next hw _ =>
    have hq : ¬ Quiet s.pbc := h.not_quiet (by simp [hw])
    exact ⟨{ h.toBusForm with }, .plain nofun nofun fun q => absurd q hq⟩
  · next hw _ => exact loseTurn_bus _ (h.not_quiet (by simp [hw])) h.toBusForm
  · exact h

theorem lapseRoom_bus (h : BusInv s) : BusInv (lapseRoom s) := by
  unfold lapseRoom; split
  · exact lapseReservation_bus h
  · exact h

theorem endChecking_bus (h : BusInv s) : BusInv (endChecking s) := by
  unfold endChecking; split
  · exact startSweep_bus h.toBusForm
  · exact h

theorem endCensusInterval_bus (h : BusInv s) : BusInv (endCensusInterval s) := by
  unfold endCensusInterval; split
  · next hc => exact beginTurn_bus h.toBusForm (by simp [Quiet, hc.1])
  · exact h

end Sys2Proof.Machine
end


section
/-! SUPPORT. KD's part of the invariant of the Panel Bus: a key whose desired image changes is dirty, and a panel's notice is taken
with the keys of its context (O8). -/

namespace Sys2Proof.Machine

variable {s : State}

/-! ### A new desired image -/

theorem shown_setImage (n k : Nat) (i : Image) (s : State) {m j : Nat} (h : ¬ (m = n ∧ j = k)) :
    shown (setKeyCtx n k (fun x => { x with image := i }) s) m j = shown s m j := by
  unfold shown; rw [key_setKeyCtx, if_neg h]

theorem linkPart_recolour (n k : Nat) (i : Image) (s : State) (m : Nat) :
    (markDirty n k (setKeyCtx n k (fun x => { x with image := i }) s)).pbc.linkPart m
      = if m = n then (s.pbc.linkPart m).map fun x => (x.1, addDirty k x.2) else s.pbc.linkPart m :=
  linkPart_markDirty n k _ m

/-- A key that takes an image and is marked dirty needs no exemption any more. -/
theorem BusForm.recolour {ex ex' : Nat → Nat → Prop} (n k : Nat) (i : Image)
    (hx : ∀ m j, ¬ (m = n ∧ j = k) → ¬ ex' m j → ¬ ex m j) (h : BusForm ex s) :
    BusForm ex' (markDirty n k (setKeyCtx n k (fun x => { x with image := i }) s)) := by
  refine { h with own := entry_tmodify_eq_none h.own, links := fun m j link hl => ?_ }
  rw [linkPart_recolour] at hl
  split at hl
  · next hm =>
    subst hm
    obtain ⟨⟨p, l⟩, hp, e⟩ := Option.map_eq_some_iff.1 hl
    cases e
    refine (h.links m p l hp).addDirty fun j' i' hj hx' hi => ⟨hx m j' (fun e => hj e.2) hx', ?_⟩
    rw [← shown_setImage m k i s fun e => hj e.2]; exact hi
  · next hm =>
    refine (h.links m j link hl).mono fun j' i' hx' hi => ⟨hx m j' (fun e => hm e.1) hx', ?_⟩
    rw [← shown_setImage n k i s fun e => hm e.1]; exact hi

theorem mem_addDirty {k j : Nat} {l : Link} (h : j ∈ l.dirty) : j ∈ (addDirty k l).dirty := by
  unfold addDirty; split
  · exact mem_insertAsc.2 (.inr h)
  · exact h

theorem WorkForm.recolour (n k : Nat) (i : Image) (h : WorkForm s) :
    WorkForm (markDirty n k (setKeyCtx n k (fun x => { x with image := i }) s)) := by
  refine { h with carried := fun m c j link hw hl => ?_ }
  rw [linkPart_recolour] at hl
  split at hl
  · obtain ⟨⟨p, l⟩, hp, e⟩ := Option.map_eq_some_iff.1 hl
    cases e
    obtain ⟨hn, hd⟩ := h.carried m c p l hw hp
    exact ⟨hn, fun x hx => mem_addDirty (hd x hx)⟩
  · exact h.carried m c j link hw hl

theorem busInv_stable : Stable BusInv where
  calm := .of_calm
  recolour n k i _ h := ⟨h.toBusForm.recolour n k i fun _ _ _ hx => hx, h.toWorkForm.recolour n k i⟩

/-! ### Notices -/

theorem mem_of_takeFirst {α : Type} {p : α → Bool} {l rest : List α} {a : α} (h : takeFirst p l = some (a, rest)) :
    p a = true ∧ ∀ x ∈ l, x = a ∨ x ∈ rest := by
  induction l generalizing rest with
  | nil => cases h
  | cons b l ih =>
    simp only [takeFirst] at h
    split at h
    · next hb => cases h; exact ⟨hb, fun x hx => List.mem_cons.1 hx⟩
    · obtain ⟨⟨c, r⟩, hr, e⟩ := Option.map_eq_some_iff.1 h
      cases e
      obtain ⟨ha, hm⟩ := ih hr
      refine ⟨ha, fun x hx => ?_⟩
      rcases List.mem_cons.1 hx with rfl | hx
      · exact .inr (List.mem_cons_self ..)
      · exact (hm x hx).imp_right (List.mem_cons_of_mem _)

/-- While KD is taking a notice of a panel, that panel's keys are exempt. -/
theorem BusForm.take_notice {n : Nat} {a : PanelNotice} {rest : List PanelNotice}
    (h : takeFirst (fun (x : PanelNotice) => x.node == n) s.reports.kdPanels = some (a, rest)) (hb : RosterInv s) :
    BusForm (fun m k => m = n ∨ waits { s with reports := { s.reports with kdPanels := rest } } m k)
      { s with reports := { s.reports with kdPanels := rest } } := by
  obtain ⟨ha, hm⟩ := mem_of_takeFirst h
  have h0 : BusForm (fun m k => m = n ∨ waits { s with reports := { s.reports with kdPanels := rest } } m k) s := by
    refine hb.mono ?_
    rintro m k ⟨x, hx, rfl⟩
    rcases hm x hx with rfl | hx
    · exact .inl (by simpa using ha)
    · exact .inr ⟨x, hx, rfl⟩
  exact { h0 with }

/-- A context put in place or deleted: the keys of the other panels show what they did. -/
theorem BusForm.setContexts {ex ex' : Nat → Nat → Prop} {c : Tab Context} (h : BusForm ex s)
    (hx : ∀ m k i, ¬ ex' m k → shown { s with kd := { s.kd with contexts := c } } m k = some i → ¬ ex m k ∧ shown s m k = some i) :
    BusForm ex' { s with kd := { s.kd with contexts := c } } :=
  { h with links := fun m j link hl => (h.links m j link hl).mono fun k i => hx m k i }

theorem shown_tdel (n : Nat) (s : State) (m k : Nat) :
    shown { s with kd := { s.kd with contexts := tdel s.kd.contexts n } } m k = if m = n then none else shown s m k := by
  simp only [shown, Kd.key, tfind_tdel]
  split <;> rfl

theorem takeDeparture_bus (n : Nat) (h : BusInv s) : BusInv (takeDeparture n s) := by
  unfold takeDeparture; split
  · next rest hf =>
    have h0 := BusForm.take_notice hf h.toBusForm
    have hw : WorkForm { s with reports := { s.reports with kdPanels := rest } } := { h.toWorkForm with }
    generalize ({ s with reports := { s.reports with kdPanels := rest } } : State) = u at h0 hw ⊢
    unfold departPanel; dsimp only
    have k := deactivatePanel_calm (fun _ => true) n u
    have hwaits := waits_of_calm k
    have h1 := BusForm.calm k h0
    have hp : (deactivatePanel (fun _ => true) n u).pbc = u.pbc := k.pbc
    generalize deactivatePanel (fun _ => true) n u = v at k h1 hwaits hp ⊢
    refine ⟨?_, ?_⟩
    · have h2 : BusForm (waits v) { v with kd := { v.kd with contexts := tdel v.kd.contexts n } } := by
        refine h1.setContexts fun m k i hx hi => ?_
        rw [shown_tdel] at hi
        split at hi
        · cases hi
        · next hm => exact ⟨fun e => e.elim hm fun e => hx (by rw [hwaits]; exact e), hi⟩
      exact h2
    · obtain ⟨hq, hr, hc⟩ := hw
      exact ⟨by rw [hp]; exact hq, by rw [hp]; exact hr, by rw [hp]; exact hc⟩
  · exact h

/-! ### Joins -/

/-- Painting a key ends its exemption. -/
theorem paintKey_form {ex : Nat → Nat → Prop} (n k : Nat) (h : BusForm ex s) :
    BusForm (fun m j => ex m j ∧ ¬ (m = n ∧ j = k)) (paintKey n s k) := by
  have absent (e : shown s n k = none) : BusForm (fun m j => ex m j ∧ ¬ (m = n ∧ j = k)) s := by
    refine { h with links := fun m j link hl => (h.links m j link hl).mono fun j' i hx hi => ⟨fun he => hx ⟨he, ?_⟩, hi⟩ }
    rintro ⟨rfl, rfl⟩
    rw [e] at hi; cases hi
  unfold paintKey; split
  · next hc => exact absent (by simp [shown, Kd.key, hc])
  · next c hc =>
    split
    · next hk => exact absent (by simp [shown, Kd.key, hc, hk])
    · exact h.recolour n k _ fun m j hne hx he => hx ⟨he, hne⟩

theorem paintKey_work (n k : Nat) (h : WorkForm s) : WorkForm (paintKey n s k) := by
  unfold paintKey; split
  · exact h
  · split
    · exact h
    · exact h.recolour n k _

theorem paintKeys_form {ex : Nat → Nat → Prop} (n : Nat) (l : List Nat) (h : BusForm ex s) :
    BusForm (fun m j => ex m j ∧ ¬ (m = n ∧ j ∈ l)) (l.foldl (paintKey n) s) := by
  induction l generalizing s ex with
  | nil => exact h.mono fun m j he => ⟨he, fun e => nomatch e.2⟩
  | cons k l ih =>
    refine (ih (paintKey_form n k h)).mono ?_
    rintro m j ⟨⟨he, hk⟩, hl⟩
    refine ⟨he, fun e => ?_⟩
    rcases List.mem_cons.1 e.2 with rfl | hj
    · exact hk ⟨e.1, rfl⟩
    · exact hl ⟨e.1, hj⟩

theorem tfind_range_map {α : Type} (f : Nat → α) (l : List Nat) (k : Nat) :
    tfind (l.map fun j => (j, f j)) k = if k ∈ l then some (f k) else none := by
  induction l with
  | nil => rfl
  | cons j l ih =>
    simp only [List.map_cons, tfind, ih, List.mem_cons]
    by_cases h : k = j
    · subst h; simp
    · simp [h]

/-- The context a join makes (R51). -/
def freshContext (keys : Nat) : Context :=
  { keys := (List.range keys).map fun k => (k, freshKey imageOff), dest := none, preset := none }

theorem shown_freshContext (n keys : Nat) (s : State) (m k : Nat) :
    shown { s with kd := { s.kd with contexts := tput s.kd.contexts n (freshContext keys) } } m k
      = if m = n then (if k ∈ List.range keys then some imageOff else none) else shown s m k := by
  simp only [shown, Kd.key, tfind_tput]
  split
  · simp only [Option.bind_some, freshContext, tfind_range_map]
    split <;> rfl
  · rfl

theorem joinPanel_form {ex ex' : Nat → Nat → Prop} (n keys : Nat) (hx : ∀ m k, ¬ ex' m k → ex m k → m = n) (h : BusForm ex s) :
    BusForm ex' (joinPanel n keys s) := by
  have h0 : BusForm (fun m k => ex' m k ∨ (m = n ∧ k ∈ List.range keys))
      { s with kd := { s.kd with contexts := tput s.kd.contexts n (freshContext keys) } } := by
    refine h.setContexts fun m k i he hi => ?_
    rw [shown_freshContext] at hi
    split at hi
    · next hm =>
      split at hi
      · next hk => exact absurd (.inr ⟨hm, hk⟩) he
      · cases hi
    · next hm => exact ⟨fun e => hm (hx m k (fun e' => he (.inl e')) e), hi⟩
  refine (paintKeys_form n (List.range keys) h0).mono ?_
  rintro m k ⟨he | he, hne⟩
  · exact he
  · exact absurd he hne

theorem joinPanel_work (n keys : Nat) (h : WorkForm s) : WorkForm (joinPanel n keys s) := by
  unfold joinPanel; dsimp only
  exact foldl_keeps (P := WorkForm) (fun _ k ht => paintKey_work n k ht) _ _ { h with }

theorem takeJoin_bus (n : Nat) (h : BusInv s) : BusInv (takeJoin n s) := by
  unfold takeJoin; split
  · next keys rest hf =>
    have h0 := BusForm.take_notice hf h.toBusForm
    have hw : WorkForm { s with reports := { s.reports with kdPanels := rest } } := { h.toWorkForm with }
    generalize ({ s with reports := { s.reports with kdPanels := rest } } : State) = u at h0 hw ⊢
    refine ⟨?_, joinPanel_work n keys hw⟩
    have e : waits (joinPanel n keys u) = waits u := by unfold waits; rw [(joinPanel_kept n keys u).notices]
    rw [e]
    exact joinPanel_form n keys (fun m k hx he => he.resolve_right hx) h0
  · exact h

theorem settleNotices_bus (h : BusInv s) : BusInv (settleNotices s) :=
  foldl_keeps (P := BusInv) (fun t x ht => by
    cases x with
    | departure n => exact takeDeparture_bus n ht
    | join n keys => exact takeJoin_bus n ht) _ s h

/-! ### Every effect -/

theorem ownProfileLoad_bus (tag : Byte) (h : BusInv s) : BusInv (ownProfileLoad tag s).state := by
  unfold ownProfileLoad; split
  · exact h
  · dsimp only
    have h0 : BusInv (settleNotices { s with ml := clearMatrix s.ml }) := settleNotices_bus { h with }
    generalize settleNotices { s with ml := clearMatrix s.ml } = u at h0 ⊢
    have h1 : BusInv { u with kd := { u.kd with contexts := [] } } :=
      ⟨BusForm.setContexts (ex := waits u) h0.toBusForm (fun _ _ _ _ hi => nomatch hi), { h0.toWorkForm with }⟩
    exact .of_calm ((clearPaths_apart _).trans ((setWalk_apart _ _).trans (startTransfer_apart _ _))).calm h1

theorem softResetKd_bus (h : BusInv s) : BusInv (softResetKd s) := by
  refine ⟨{ h.toBusForm with links := fun n i link hl => (h.links n i link hl).mono (fun _ _ _ hi => nomatch hi) }, { h.toWorkForm with }⟩

theorem dispatchOldest_bus (h : BusInv s) : BusInv (dispatchOldest s) := by
  unfold dispatchOldest; split
  · exact h
  · rename_i c _ _
    have h0 := busInv_stable.takeTransitions c.sender c.transitions h
    generalize c.transitions.foldl (takeTransition c.sender) s = u at h0 ⊢
    refine { h0 with slots := Nat.le_trans (Nat.add_le_add_right ?_ _) h0.slots }
    rw [List.length_drop]; omega

theorem busInv_powerOn (straps : Straps) (memory : List Host.Cell) (pending : List Instr) :
    BusInv (State.powerOn straps memory pending) :=
  ⟨⟨rfl, nofun, fun _ => rfl, Nat.zero_le _, nofun⟩, .plain nofun nofun fun _ => rfl⟩

theorem ownSetNode_bus (body : List Byte) (ht : TableInv s) (h : BusInv s) : BusInv (ownSetNode body s).state := by
  unfold ownSetNode
  split
  · split
    · exact h
    · split
      · exact h
      · next e => exact applyNodeId_bus ht h e
  · exact h

/-- The invariant of the Panel Bus, as `EffectsKeep` takes it. -/
def PanelBusForm (s : State) : Prop := TableInv s ∧ BusInv s

theorem panelBusForm_stable : Stable PanelBusForm where
  calm k h := ⟨h.1.of_calm k, h.2.of_calm k⟩
  recolour n k i s h := ⟨tableInv_stable.recolour n k i s h.1, busInv_stable.recolour n k i s h.2⟩

theorem panelBus_effects : EffectsKeep PanelBusForm where
  apart k h := panelBusForm_stable.calm k.calm h
  powerOn a b c := ⟨tableInv_powerOn a b c, busInv_powerOn a b c⟩
  setNode body s h := ⟨tableInv_effects.setNode body s h.1, ownSetNode_bus body h.1 h.2⟩
  busEnable body s h := ⟨tableInv_effects.busEnable body s h.1, ownBusEnable_bus body h.2⟩
  busTiming body s h := ⟨tableInv_effects.busTiming body s h.1, ownBusTiming_bus body h.2⟩
  busAuto body s h := ⟨tableInv_effects.busAuto body s h.1, ownBusAuto_bus body h.2⟩
  sweepNow s h := ⟨tableInv_effects.sweepNow s h.1, ownSweepNow_bus h.2⟩
  forget body s h := ⟨tableInv_effects.forget body s h.1, ownForget_bus body h.2⟩
  setPanel := panelBusForm_stable.ownSetPanel
  setKey := panelBusForm_stable.ownSetKey
  keyTiming := panelBusForm_stable.ownKeeps ownKeyTiming_calm
  setSource := panelBusForm_stable.ownKeeps ownSetSource_calm
  routerTiming := panelBusForm_stable.ownKeeps ownRouterTiming_calm
  setMixer := panelBusForm_stable.ownKeeps ownSetMixer_calm
  setBinding := panelBusForm_stable.ownKeeps ownSetBinding_calm
  setPosition := panelBusForm_stable.ownKeeps ownSetPosition_calm
  setHouse := panelBusForm_stable.ownKeeps ownSetHouse_calm
  setLamp := panelBusForm_stable.ownKeeps ownSetLamp_calm
  lampTiming := panelBusForm_stable.ownKeeps ownLampTiming_calm
  setPort := panelBusForm_stable.ownKeeps ownSetPort_calm
  setGroup := panelBusForm_stable.ownKeeps ownSetGroup_calm
  addStanding := panelBusForm_stable.ownKeeps ownAddStanding_calm
  standingEntry := panelBusForm_stable.ownKeeps ownStandingEntry_calm
  dropStanding := panelBusForm_stable.ownKeeps ownDropStanding_calm
  gainTiming := panelBusForm_stable.ownKeeps ownGainTiming_calm
  profileLoad tag s h := ⟨tableInv_effects.profileLoad tag s h.1, ownProfileLoad_bus tag h.2⟩
  busAutoStep s h := ⟨tableInv_effects.busAutoStep s h.1, busAutoStep_bus h.2⟩
  softResetPbc s h := ⟨tableInv_effects.softResetPbc s h.1, softResetPbc_bus s⟩
  softResetKd s h := ⟨tableInv_effects.softResetKd s h.1, softResetKd_bus h.2⟩
  badFrame s h := ⟨tableInv_effects.badFrame s h.1, badPbFrame_bus h.2⟩
  activity c s h := ⟨tableInv_effects.activity c s h.1, hearActivity_bus c h.2⟩
  frameSent s h := ⟨tableInv_effects.frameSent s h.1, pbFrameSent_bus h.2⟩
  pass t s h := ⟨tableInv_effects.pass t s h.1, hearPass_bus t h.2⟩
  ask f t s h := ⟨tableInv_effects.ask f t s h.1, hearAsk_bus f t h.2⟩
  cargo f t q l s h := ⟨tableInv_effects.cargo f t q l s h.1, hearCargo_bus f t q l h.2⟩
  room f t s h := ⟨tableInv_effects.room f t s h.1, hearRoom_bus f t h.2⟩
  noroom f t s h := ⟨tableInv_effects.noroom f t s h.1, hearNoroom_bus f t h.2⟩
  got f t s h := ⟨tableInv_effects.got f t s h.1, hearGot_bus f t h.2⟩
  here f k u n s h := ⟨tableInv_effects.here f k u n s h.1, hearHere_bus f k u n h.2⟩
  probeClose s h := ⟨tableInv_effects.probeClose s h.1, closeProbe_bus h.2⟩
  askClose s h := ⟨tableInv_effects.askClose s h.1, closeAsk_bus h.2⟩
  cargoClose s h := ⟨tableInv_effects.cargoClose s h.1, closeCargo_bus h.2⟩
  passClose s h := ⟨tableInv_effects.passClose s h.1, closePass_bus h.2⟩
  roomClose s h := ⟨tableInv_effects.roomClose s h.1, lapseRoom_bus h.2⟩
  checking s h := ⟨tableInv_effects.checking s h.1, endChecking_bus h.2⟩
  silence s h := ⟨tableInv_effects.silence s h.1, endSilence_bus h.2⟩
  census s h := ⟨tableInv_effects.census s h.1, endCensusInterval_bus h.2⟩
  absence n s h := ⟨tableInv_effects.absence n s h.1, endAbsence_bus n h.2⟩
  departure n s h := ⟨tableInv_effects.departure n s h.1, takeDeparture_bus n h.2⟩
  join n s h := ⟨tableInv_effects.join n s h.1, takeJoin_bus n h.2⟩
  dispatch s h := ⟨tableInv_effects.dispatch s h.1, dispatchOldest_bus h.2⟩
  tapWindow := panelBusForm_stable.endTapWindow
  latchLimit := panelBusForm_stable.endLatchLimit
  refusal := panelBusForm_stable.endRefusal
  outcome := panelBusForm_stable.takeOutcome
  fire := panelBusForm_stable.takeFire
  imageReport := panelBusForm_stable.takeReportOf

/-- Settles O8: no effect breaks the invariant of the Panel Bus. -/
theorem panelBusInvariantKept : Obligations.PanelBusInvariantKept :=
  fun s t h e => (panelBusInv_iff t).2 (panelBus_effects.step ((panelBusInv_iff s).1 h) e)

end Sys2Proof.Machine
end


section
/-! SUPPORT. The table of R14, row by row (O31). -/

namespace Sys2Proof.Machine

/-- What the result of a probe of `n` makes of the state: the entry after it, the notices for KD and the releases for RC. -/
structure ProbeLeaves (n : Nat) (s t : State) (x : Option RosterEntry) (kd : List PanelNotice) (rc : List Nat) : Prop where
  frame : OnlyChanges [.pbc, .reports] s t
  entry : ∀ m, t.pbc.entry m = if m = n then x else s.pbc.entry m
  pbc : t.pbc = { s.pbc with
    roster := t.pbc.roster
    inbound := if kd.contains (.departure n) then s.pbc.inbound.filter (·.sender != n) else s.pbc.inbound
    reserved := if kd.contains (.departure n) then s.pbc.reserved.filter (·.1 != n) else s.pbc.reserved }
  reports : t.reports = { s.reports with kdPanels := s.reports.kdPanels ++ kd, rcReleases := s.reports.rcReleases ++ rc }

namespace ProbeLeaves
variable {n : Nat} {s t : State} {x : Option RosterEntry} {kd : List PanelNotice} {rc : List Nat}

theorem refl (h : s.pbc.entry n = x) : ProbeLeaves n s s x [] [] where
  frame := .refl _ s
  entry m := by split <;> simp_all
  pbc := rfl
  reports := by simp

theorem setRoster (n : Nat) (e : RosterEntry) (s : State) : ProbeLeaves n s (setRoster n e s) (some e) [] [] where
  frame p hp := by cases p <;> first | rfl | simp at hp
  entry m := tfind_tput s.pbc.roster n m e
  pbc := rfl
  reports := by simp

theorem dropRoster (n : Nat) (s : State) : ProbeLeaves n s (dropRoster n s) none [] [] where
  frame p hp := by cases p <;> first | rfl | simp at hp
  entry m := tfind_tdel s.pbc.roster n m
  pbc := rfl
  reports := by simp

theorem release (h : ProbeLeaves n s t x kd rc) : ProbeLeaves n s (release n t) x kd (rc ++ [n]) where
  frame := h.frame.trans fun p hp => by cases p <;> first | rfl | simp at hp
  entry := h.entry
  pbc := h.pbc
  reports := by simp [h.reports]

theorem join (keys : Nat) (h : ProbeLeaves n s t x kd rc) : ProbeLeaves n s (join n keys t) x (kd ++ [.join n keys]) rc where
  frame := h.frame.trans fun p hp => by cases p <;> first | rfl | simp at hp
  entry := h.entry
  pbc := by simpa using h.pbc
  reports := by simp [h.reports]

theorem departure (h : ProbeLeaves n s t x [] rc) : ProbeLeaves n s (departure n t) x [.departure n] rc where
  frame := h.frame.trans fun p hp => by cases p <;> first | rfl | simp at hp
  entry := h.entry
  pbc := by rw [departure_pbc, h.pbc]; simp
  reports := by simp [h.reports]

end ProbeLeaves

/-! ### The rows -/

section
variable {n : Nat} {i : PanelInfo} {e : RosterEntry} {s : State}

theorem sameUnit_iff : e.sameUnit i = true ↔ ∃ j, e.info = some j ∧ j.unit = i.unit := by
  unfold RosterEntry.sameUnit
  cases e.info <;> simp

theorem not_sameUnit_iff : e.sameUnit i = false ↔ ∀ j, e.info = some j → j.unit ≠ i.unit := by
  rw [← Bool.not_eq_true, sameUnit_iff]; simp only [not_exists, not_and, ne_eq]

theorem isMember_iff : e.isMember = true ↔ ∃ link stall ask, e.presence = .member link stall ask := by
  unfold RosterEntry.isMember
  cases h : e.presence <;> simp

theorem probe_new (h : s.pbc.entry n = none) :
    ProbeLeaves n s (applyProbe n (.present i) s) (some (newMember i)) [.join n i.keys] []
    ∧ ProbeLeaves n s (applyProbe n .contested s) (some ⟨none, .contested⟩) [] [] ∧ ProbeLeaves n s (applyProbe n .absent s) none [] [] := by
  simp only [applyProbe, h]
  exact ⟨(ProbeLeaves.setRoster n _ s).join _, .setRoster n _ s, .refl h⟩

theorem probe_member (h : s.pbc.entry n = some e) (hm : e.isMember = true) :
    (e.info = some i → ProbeLeaves n s (applyProbe n (.present i) s) (some e) [] [])
    ∧ (e.info ≠ some i → e.sameUnit i = true →
        ProbeLeaves n s (applyProbe n (.present i) s) (some (newMember i)) [.departure n, .join n i.keys] [])
    ∧ (e.sameUnit i = false →
        ProbeLeaves n s (applyProbe n (.present i) s) (some (newMember i)) [.departure n, .join n i.keys] [n])
    ∧ ProbeLeaves n s (applyProbe n .contested s) (some { e with presence := .contested }) [.departure n] [n]
    ∧ ProbeLeaves n s (applyProbe n .absent s) (some { e with presence := .absent s.now }) [.departure n] [] := by
  obtain ⟨link, stall, ask, hp⟩ := isMember_iff.1 hm
  simp only [applyProbe, h, hp]
  refine ⟨fun hi => ?_, fun hi hu => ?_, fun hu => ?_, (ProbeLeaves.setRoster n _ s).departure.release,
    (ProbeLeaves.setRoster n _ s).departure⟩
  · rw [if_pos hi]; exact .refl h
  · rw [if_neg hi, if_pos hu]; exact (ProbeLeaves.setRoster n _ s).departure.join _
  · have hi : e.info ≠ some i := fun hi => not_sameUnit_iff.1 hu i hi rfl
    rw [if_neg hi, if_neg (by simp [hu])]; exact (ProbeLeaves.setRoster n _ s).departure.release.join _

theorem probe_absent {since : Millis} (h : s.pbc.entry n = some e) (hp : e.presence = .absent since) :
    (e.sameUnit i = true → ProbeLeaves n s (applyProbe n (.present i) s) (some (newMember i)) [.join n i.keys] [])
    ∧ (e.sameUnit i = false → ProbeLeaves n s (applyProbe n (.present i) s) (some (newMember i)) [.join n i.keys] [n])
    ∧ ProbeLeaves n s (applyProbe n .contested s) (some { e with presence := .contested }) [] [n]
    ∧ ProbeLeaves n s (applyProbe n .absent s) (some e) [] [] := by
  simp only [applyProbe, h, hp]
  refine ⟨fun hu => ?_, fun hu => ?_, (ProbeLeaves.setRoster n _ s).release, .refl h⟩
  · rw [if_pos hu]; exact (ProbeLeaves.setRoster n _ s).join _
  · rw [if_neg (by simp [hu])]; exact (ProbeLeaves.setRoster n _ s).release.join _

theorem probe_contested (h : s.pbc.entry n = some e) (hp : e.presence = .contested) :
    ProbeLeaves n s (applyProbe n (.present i) s) (some (newMember i)) [.join n i.keys] []
    ∧ ProbeLeaves n s (applyProbe n .contested s) (some e) [] [] ∧ ProbeLeaves n s (applyProbe n .absent s) none [] [n] := by
  simp only [applyProbe, h, hp]
  exact ⟨(ProbeLeaves.setRoster n _ s).join _, .refl h, (ProbeLeaves.dropRoster n s).release⟩

end

/-- Settles O31: each row of the table of R14, from the operations it is made of. -/
theorem probeResultTable : Obligations.ProbeResultTable := by
  intro n i e s
  have all {r : ProbeResult} {x : Option RosterEntry} {kd : List PanelNotice} {rc : List Nat}
      (h : ProbeLeaves n s (applyProbe n r s) x kd rc) := And.intro h.frame (And.intro h.entry (And.intro h.pbc h.reports))
  refine ⟨fun h => ?_, fun h hm => ?_, fun since h hp => ?_, fun h hp => ?_⟩
  · obtain ⟨a, b, c⟩ := probe_new (i := i) h
    exact ⟨all a, all b, all c⟩
  · obtain ⟨a, b, c, d, f⟩ := probe_member (i := i) h hm
    exact ⟨fun hi => all (a hi), fun hi hu => all (b hi (sameUnit_iff.2 hu)), fun hu => all (c (not_sameUnit_iff.2 hu)), all d, all f⟩
  · obtain ⟨a, b, c, d⟩ := probe_absent (i := i) h hp
    exact ⟨fun hu => all (a (sameUnit_iff.2 hu)), fun hu => all (b (not_sameUnit_iff.2 hu)), all c, all d⟩
  · obtain ⟨a, b, c⟩ := probe_contested (i := i) h hp
    exact ⟨all a, all b, all c⟩

end Sys2Proof.Machine
end


section
/-! SUPPORT. Long lists, and the bytes the encoders give (O21). -/

namespace Sys2Proof.Machine

/-! ### Long lists (R203) -/

/-- The whole items that fit: those in front, within the room, and what follows would not fit. -/
theorem fitItems_spec (room : Nat) (items : List (List Byte)) :
    ∃ rest, items = fitItems room items ++ rest ∧ (fitItems room items).flatten.length ≤ room
      ∧ ∀ x xs, rest = x :: xs → room < (fitItems room items).flatten.length + x.length := by
  induction items generalizing room with
  | nil => exact ⟨[], by simp [fitItems], by simp [fitItems], nofun⟩
  | cons a l ih =>
    by_cases h : a.length ≤ room
    · obtain ⟨rest, h1, h2, h3⟩ := ih (room - a.length)
      have e : fitItems room (a :: l) = a :: fitItems (room - a.length) l := by simp [fitItems, h]
      rw [e]
      refine ⟨rest, by rw [List.cons_append, ← h1], ?_, fun x xs hx => ?_⟩
      · rw [List.flatten_cons, List.length_append]; omega
      · have := h3 x xs hx
        rw [List.flatten_cons, List.length_append]; omega
    · have e : fitItems room (a :: l) = [] := by simp [fitItems, h]
      rw [e]
      refine ⟨a :: l, rfl, by simp, fun x xs hx => ?_⟩
      cases hx
      simp only [List.flatten_nil, List.length_nil]; omega

@[simp] theorem length_e1 (n : Nat) : (e1 n).length = 1 := rfl
@[simp] theorem length_e2 (n : Nat) : (e2 n).length = 2 := rfl
@[simp] theorem length_e4 (n : BitVec 32) : (e4 n).length = 4 := rfl
@[simp] theorem length_eBool (b : Bool) : (eBool b).length = 1 := rfl
@[simp] theorem length_eTime (t : Option Millis) : (eTime t).length = 4 := by cases t <;> rfl
@[simp] theorem length_eRemaining (now : Millis) (t : Option Millis) : (eRemaining now t).length = 4 := length_eTime _

theorem longList_spec (front tail : List Byte) (items : List (List Byte)) (skip : Nat) (h : front.length + tail.length + 6 ≤ 240) :
    ∃ given rest, items.drop skip = given ++ rest
      ∧ longList front items skip tail = front ++ e2 items.length ++ e2 given.length ++ given.flatten ++ tail
      ∧ (longList front items skip tail).length + 2 ≤ 240
      ∧ ∀ x xs, rest = x :: xs → 240 < (longList front items skip tail).length + 2 + x.length := by
  obtain ⟨rest, h1, h2, h3⟩ := fitItems_spec (Config.bodyMax - (front.length + tail.length + 6)) (items.drop skip)
  have hb : Config.bodyMax = 240 := rfl
  rw [hb] at h1 h2 h3
  have hl : (longList front items skip tail).length
      = front.length + 4 + (fitItems (240 - (front.length + tail.length + 6)) (items.drop skip)).flatten.length + tail.length := by
    simp only [longList, List.length_append, length_e2, hb]
  refine ⟨_, rest, h1, rfl, ?_, fun x xs hx => ?_⟩
  · omega
  · have := h3 x xs hx; omega

/-! ### Encoders (R202) -/

theorem e1_eq (n : Nat) : e1 n = [BitVec.ofNat 8 n] := rfl
theorem e2_eq (n : Nat) : e2 n = [BitVec.ofNat 8 (n / 256), BitVec.ofNat 8 n] := rfl
theorem e4_eq (n : BitVec 32) : e4 n = [n.extractLsb' 24 8, n.extractLsb' 16 8, n.extractLsb' 8 8, n.extractLsb' 0 8] := rfl
theorem eBool_eq (b : Bool) : eBool b = [if b then 1 else 0] := rfl
theorem eIndex_eq (o : Option Nat) : eIndex o = [BitVec.ofNat 8 (o.getD 255)] := by cases o <;> rfl
theorem eWide_eq (o : Option Nat) : eWide o = e2 (o.getD 65535) := by cases o <;> rfl
theorem eTime_eq (o : Option Millis) : eTime o = e4 (o.getD 0xFFFFFFFF) := by cases o <;> rfl
theorem eRemaining_eq (now : Millis) (o : Option Millis) : eRemaining now o = e4 ((o.map fun e => e - now).getD 0xFFFFFFFF) := eTime_eq _
theorem eGain_eq (g : Gain) : eGain g = [match g with | .mute => 0x80 | .steps n => BitVec.ofInt 8 n] := by cases g <;> rfl

theorem flatMap_e1 (l : List Nat) : l.flatMap e1 = l.map (BitVec.ofNat 8) := by
  induction l with
  | nil => rfl
  | cons a l ih => simp [e1_eq, ih]

end Sys2Proof.Machine
end


section
/-! SUPPORT. The eight reads are answered at once and change nothing (O21). -/

namespace Sys2Proof.Machine

/-- A request answered at once with its content, nothing being changed. -/
def ReadAnswers (i : Instr) (tag kind : Byte) (content : List Byte) (s : State) : Prop :=
  ∃ t, exec i s = .next t ∧ OnlyChanges [.cp] s t ∧ Answered s t tag kind .ok content 0

section
variable {tag : Byte} {body : List Byte} {skip : Nat} {s : State}

/-! The body of a request read by its first byte. -/

theorem ownReadDest_records {hi lo c : Byte} (hs : skipOf body = some skip) : ownReadDest (0 :: hi :: lo :: c :: body) s =
    if 255 < beNat [hi, lo] || c.toNat < 1 || 32 < c.toNat then .refuse .range s
    else .now .ok (longList [] ((recordRange (beNat [hi, lo]) c.toNat).map (recordBytes s.rc)) skip (destTail s.rc)) s := by
  change (match skipOf body with | none => Answer.refuse .malformed s | some skip => _) = _
  rw [hs]

theorem ownReadDest_salvo {n : Byte} (hs : skipOf body = some skip) : ownReadDest (1 :: n :: body) s =
    if 63 < n.toNat then .refuse .range s
    else .now .ok (longList (eBool (!(s.rc.salvo n.toNat).isEmpty)) ((s.rc.salvo n.toNat).map fun p => e2 p.1 ++ e2 p.2) skip
      (e2 (s.rc.firesOf n.toNat) ++ destTail s.rc)) s := by
  change (match skipOf body with | none => Answer.refuse .malformed s | some skip => _) = _
  rw [hs]

theorem ownReadTally_positions (hs : skipOf body = some skip) :
    ownReadTally (0 :: body) s = .now .ok (longList [] (positionList.map (positionBytes s)) skip (tallyTail s.tr)) s := by
  change (match skipOf body with | none => Answer.refuse .malformed s | some skip => _) = _
  rw [hs]

theorem ownReadPaths_port {p : Byte} (hs : skipOf body = some skip) : ownReadPaths (1 :: p :: body) s =
    if 95 < p.toNat then .refuse .range s
    else .now .ok (longList (portFront s.te p.toNat)
      ((s.te.paths.filter (·.2.listener == p.toNat)).map fun kv => entryBytes kv.2) skip []) s := by
  change (match skipOf body with | none => Answer.refuse .malformed s | some skip => _) = _
  rw [hs]

theorem ownReadPaths_pair {a l : Byte} (hs : skipOf body = some skip) : ownReadPaths (2 :: a :: l :: body) s =
    if 95 < a.toNat || 95 < l.toNat then .refuse .range s
    else if a = l then .refuse .malformed s
    else .now .ok (longList (pairFront (s.te.entry a.toNat l.toNat))
      ((((s.te.entry a.toNat l.toNat).map (·.causes)).getD []).map causeBytes) skip []) s := by
  change (match skipOf body with | none => Answer.refuse .malformed s | some skip => _) = _
  rw [hs]

theorem ownReadPaths_group {g : Byte} : ownReadPaths [3, g] s =
    if 31 < g.toNat then .refuse .range s
    else .now .ok (e2 (s.te.group g.toNat).length ++ (s.te.group g.toNat).flatMap e1) s := rfl

theorem ownReadPaths_slots {k c : Byte} : ownReadPaths [4, k, c] s =
    if 127 < k.toNat || c.toNat < 1 || 32 < c.toNat then .refuse .range s
    else .now .ok (((List.range' k.toNat c.toNat).filter (· ≤ 127)).flatMap (slotBytes s.te)) s := rfl

theorem readRoster_answers (h : Admitted .read tag body s) (hs : skipOf body = some skip) :
    ReadAnswers (.readRoster tag body) tag 0x06 (longList (rosterFront s.pbc) (s.pbc.roster.map rosterBytes) skip []) s :=
  answers_unchanged (k := .readRoster) ownReadRoster rfl h (by unfold ownReadRoster; rw [hs]; rfl)

theorem readQueue_answers (h : Admitted .read tag body s) (hs : skipOf body = some skip) :
    ReadAnswers (.readQueue tag body) tag 0x14 (longList (queueFront s.rc) (s.rc.queue.map (queueBytes s)) skip (queueTail s)) s :=
  answers_unchanged (k := .readQueue) ownReadQueue rfl h (by unfold ownReadQueue; rw [hs]; rfl)

theorem nodeByte_of {n : Byte} (h1 : 1 ≤ n.toNat) (h2 : n.toNat ≤ 63) : nodeByte n = true := by simp [nodeByte, h1, h2]

theorem readPanel_answers {n : Byte} (h : Admitted .read tag (n :: body) s) (hs : skipOf body = some skip) (h1 : 1 ≤ n.toNat)
    (h2 : n.toNat ≤ 63) :
    ReadAnswers (.readPanel tag (n :: body)) tag 0x0A (longList (panelFront s n.toNat) (keyItems s n.toNat) skip []) s := by
  refine answers_unchanged (k := .readPanel) ownReadPanel rfl h ?_
  simp only [ownReadPanel, hs, nodeByte_of h1 h2]
  rfl

theorem readDest_answers {d c : Byte} (h : Admitted .read tag (0 :: 0 :: d :: c :: body) s) (hs : skipOf body = some skip)
    (h1 : 1 ≤ c.toNat) (h2 : c.toNat ≤ 32) :
    ReadAnswers (.readDest tag (0 :: 0 :: d :: c :: body)) tag 0x0F
      (longList [] (((List.range' d.toNat c.toNat).filter (· ≤ 255)).map (recordBytes s.rc)) skip (destTail s.rc)) s := by
  refine answers_unchanged (k := .readDest) ownReadDest rfl h ?_
  have hb : beNat [0, d] = d.toNat := by simp [beNat]
  have hr : (decide (255 < d.toNat) || decide (c.toNat < 1) || decide (32 < c.toNat)) = false := by
    simp only [Bool.or_eq_false_iff, decide_eq_false_iff_not]; omega
  rw [ownReadDest_records hs, hb, hr]
  rfl

theorem readDest_refuses {hi d c : Byte} (h : Admitted .read tag (0 :: hi :: d :: c :: body) s) (hs : skipOf body = some skip)
    (hr : hi ≠ 0 ∨ c = 0 ∨ 32 < c.toNat) : Refuses (.readDest tag (0 :: hi :: d :: c :: body)) s tag 0x0F .range := by
  refine refuses_of (k := .readDest) ownReadDest rfl h ?_
  have hb : beNat [hi, d] = hi.toNat * 256 + d.toNat := by simp [beNat]
  have hr : (decide (255 < beNat [hi, d]) || decide (c.toNat < 1) || decide (32 < c.toNat)) = true := by
    rw [hb]
    simp only [Bool.or_eq_true, decide_eq_true_eq]
    rcases hr with hr | rfl | hr
    · have : hi.toNat ≠ 0 := fun e => hr (BitVec.eq_of_toNat_eq e)
      omega
    · exact .inl (.inr (by decide))
    · exact .inr hr
  rw [ownReadDest_records hs, hr]
  rfl

theorem readSalvo_answers {n : Byte} (h : Admitted .read tag (1 :: n :: body) s) (hs : skipOf body = some skip) (hn : n.toNat ≤ 63) :
    ReadAnswers (.readDest tag (1 :: n :: body)) tag 0x0F
      (longList (eBool (!(s.rc.salvo n.toNat).isEmpty)) ((s.rc.salvo n.toNat).map fun p => e2 p.1 ++ e2 p.2) skip
        (e2 (s.rc.firesOf n.toNat) ++ destTail s.rc)) s := by
  refine answers_unchanged (k := .readDest) ownReadDest rfl h ?_
  rw [ownReadDest_salvo hs, if_neg (Nat.not_lt.2 hn)]
  rfl

theorem readMixer_a (h : Admitted .read tag [0] s) : ReadAnswers (.readMixer tag [0]) tag 0x16 (mixerBytes s.now s.mm.a) s :=
  answers_unchanged (k := .readMixer) ownReadMixer rfl h rfl

theorem readMixer_b (h : Admitted .read tag [1] s) : ReadAnswers (.readMixer tag [1]) tag 0x16 (mixerBytes s.now s.mm.b) s :=
  answers_unchanged (k := .readMixer) ownReadMixer rfl h rfl

theorem readMixer_both (h : Admitted .read tag [2] s) :
    ReadAnswers (.readMixer tag [2]) tag 0x16 (mixerBytes s.now s.mm.a ++ mixerBytes s.now s.mm.b) s :=
  answers_unchanged (k := .readMixer) ownReadMixer rfl h rfl

theorem readPaths_summary (h : Admitted .read tag [0] s) : ReadAnswers (.readPaths tag [0]) tag 0x22 (summaryBytes s) s :=
  answers_unchanged (k := .readPaths) ownReadPaths rfl h rfl

theorem readTally_positions (h : Admitted .read tag (0 :: body) s) (hs : skipOf body = some skip) :
    ReadAnswers (.readTally tag (0 :: body)) tag 0x1A (longList [] ((List.range 24).map (positionBytes s)) skip (tallyTail s.tr)) s := by
  refine answers_unchanged (k := .readTally) ownReadTally rfl h ?_
  rw [ownReadTally_positions hs]
  rfl

theorem readTally_bindings {x : Mixer} (h : Admitted .read tag [1, BitVec.ofNat 8 (mixerCode x)] s) :
    ReadAnswers (.readTally tag [1, BitVec.ofNat 8 (mixerCode x)]) tag 0x1A (bindingsContent s.tr x) s := by
  cases x <;> exact answers_unchanged (k := .readTally) ownReadTally rfl h rfl

theorem readPaths_port {p : Byte} (h : Admitted .read tag (1 :: p :: body) s) (hs : skipOf body = some skip) (hp : p.toNat ≤ 95) :
    ReadAnswers (.readPaths tag (1 :: p :: body)) tag 0x22
      (longList (portFront s.te p.toNat) ((s.te.paths.filter (·.2.listener == p.toNat)).map fun kv => entryBytes kv.2) skip []) s := by
  refine answers_unchanged (k := .readPaths) ownReadPaths rfl h ?_
  rw [ownReadPaths_port hs, if_neg (Nat.not_lt.2 hp)]
  rfl

theorem readPaths_pair {a l : Byte} (h : Admitted .read tag (2 :: a :: l :: body) s) (hs : skipOf body = some skip) (ha : a.toNat ≤ 95)
    (hl : l.toNat ≤ 95) (hne : a ≠ l) :
    ReadAnswers (.readPaths tag (2 :: a :: l :: body)) tag 0x22
      (longList (pairFront (s.te.entry a.toNat l.toNat))
        ((((s.te.entry a.toNat l.toNat).map (·.causes)).getD []).map causeBytes) skip []) s := by
  refine answers_unchanged (k := .readPaths) ownReadPaths rfl h ?_
  have hr : (decide (95 < a.toNat) || decide (95 < l.toNat)) = false := by
    simp only [Bool.or_eq_false_iff, decide_eq_false_iff_not]; omega
  rw [ownReadPaths_pair hs, hr, if_neg Bool.false_ne_true, if_neg hne]
  rfl

theorem readPaths_group {g : Byte} (h : Admitted .read tag [3, g] s) (hg : g.toNat ≤ 31) :
    ReadAnswers (.readPaths tag [3, g]) tag 0x22 (e2 (s.te.group g.toNat).length ++ (s.te.group g.toNat).flatMap e1) s := by
  refine answers_unchanged (k := .readPaths) ownReadPaths rfl h ?_
  rw [ownReadPaths_group, if_neg (Nat.not_lt.2 hg)]
  rfl

theorem readPaths_slots {k c : Byte} (h : Admitted .read tag [4, k, c] s) (hk : k.toNat ≤ 127) (h1 : 1 ≤ c.toNat)
    (h2 : c.toNat ≤ 32) :
    ReadAnswers (.readPaths tag [4, k, c]) tag 0x22
      (((List.range' k.toNat c.toNat).filter (· ≤ 127)).flatMap (slotBytes s.te)) s := by
  refine answers_unchanged (k := .readPaths) ownReadPaths rfl h ?_
  have hr : (decide (127 < k.toNat) || decide (c.toNat < 1) || decide (32 < c.toNat)) = false := by
    simp only [Bool.or_eq_false_iff, decide_eq_false_iff_not]; omega
  rw [ownReadPaths_slots, hr]
  rfl

theorem readMatrix_answers (h : Admitted .read tag [] s) : ReadAnswers (.readMatrix tag []) tag 0x24 (matrixContent s) s :=
  answers_unchanged (k := .readMatrix) (noFields ownReadMatrix) rfl h rfl

end

end Sys2Proof.Machine
end


section
/-! SUPPORT. The contents of the eight reads, byte by byte (O21). -/

namespace Sys2Proof.Machine

/-! ### The ring (R4) -/

theorem mem_memberIds {p : Pbc} {n : Nat} : n ∈ p.memberIds ↔ ∃ e, (n, e) ∈ p.roster ∧ e.isMember = true := by
  simp only [Pbc.memberIds, List.mem_map, List.mem_filter, Prod.exists]
  constructor
  · rintro ⟨a, e, ⟨h, hm⟩, rfl⟩; exact ⟨e, h, hm⟩
  · rintro ⟨e, h, hm⟩; exact ⟨n, e, ⟨h, hm⟩, rfl⟩

theorem mem_ring {p : Pbc} {n : Nat} : n ∈ p.ring ↔ (n = p.id ∧ n ≠ 0) ∨ ∃ e, (n, e) ∈ p.roster ∧ e.isMember = true := by
  unfold Pbc.ring
  split
  next h0 =>
    rw [mem_memberIds, h0]
    exact ⟨.inr, fun h => h.resolve_left fun h => h.2 h.1⟩
  next h0 =>
    rw [mem_insertAsc, mem_memberIds]
    exact or_congr_left ⟨fun h => ⟨h, h ▸ h0⟩, And.left⟩

theorem insertAsc_sorted {l : List Nat} (i : Nat) (h : l.Pairwise (· < ·)) : (insertAsc l i).Pairwise (· < ·) := by
  induction l with
  | nil => exact List.pairwise_singleton _ _
  | cons a l ih =>
    obtain ⟨ha, hl⟩ := List.pairwise_cons.1 h
    unfold insertAsc
    split
    next hi =>
      refine List.pairwise_cons.2 ⟨fun x hx => ?_, h⟩
      rcases List.mem_cons.1 hx with rfl | hx
      · exact hi
      · exact hi.trans (ha x hx)
    next hi =>
      split
      next => exact h
      next hne =>
        refine List.pairwise_cons.2 ⟨fun x hx => ?_, ih hl⟩
        rcases mem_insertAsc.1 hx with rfl | hx
        · omega
        · exact ha x hx

theorem keys_ascend {α : Type} {t : Tab α} (h : tsorted t = true) : (t.map (·.1)).Pairwise (· < ·) := by
  induction t with
  | nil => exact List.Pairwise.nil
  | cons kv t ih =>
    obtain ⟨ha, ht⟩ := (tsorted_cons kv.1 kv.2 t).1 h
    exact List.pairwise_cons.2 ⟨List.forall_mem_map.2 ha, ih ht⟩

theorem ring_sorted {p : Pbc} (h : tsorted p.roster = true) : p.ring.Pairwise (· < ·) := by
  have hm : p.memberIds.Pairwise (· < ·) := (keys_ascend h).sublist (List.filter_sublist.map _)
  unfold Pbc.ring
  split
  · exact hm
  · exact insertAsc_sorted _ hm

/-! ### The pieces of the contents (R202) -/

theorem shownContext_eq (s : State) (n : Nat) : shownContext s n =
    match s.pbc.presence n with
    | some (.member _ _ _) => tfind s.kd.contexts n
    | _ => none := by
  unfold shownContext Pbc.presence
  cases h : s.pbc.entry n with
  | none => rfl
  | some e => cases hp : e.presence <;> simp [RosterEntry.isMember, hp]

theorem requesterBytes_fire {rc : Rc} {serial : Nat} {f : Fire} (h : rc.fires.find? (·.serial == serial) = some f) :
    requesterBytes rc (.fire serial) = e1 2 ++ e1 f.salvo ++ f.party.bytes := by
  simp only [requesterBytes, h]

/-- READ-QUEUE's tail ends in the whole fires that fit with the two lists before them. -/
theorem queueTail_spec (s : State) : ∃ given rest, s.rc.fires.map fireBytes = given ++ rest
    ∧ queueTail s =
        e2 s.rc.queries.length ++ s.rc.queries.flatMap (fun q => e2 q.dest ++ eRemaining s.now q.expiry) ++ e2 s.rc.querySet.length
          ++ e2 s.rc.fires.length ++ e2 given.length ++ given.flatten ++ e2 s.rc.badFrames ++ e2 s.rc.strays ++ e2 s.rc.violations
    ∧ (s.rc.queries.length ≤ 2 → (queueFront s.rc).length + (queueTail s).length + 6 ≤ 240)
    ∧ ∀ x xs, rest = x :: xs → 240 < (queueFront s.rc).length + (queueTail s).length + 6 + x.length := by
  have hq : (s.rc.queries.flatMap fun q => e2 q.dest ++ eRemaining s.now q.expiry).length = 6 * s.rc.queries.length := by
    rw [List.length_flatMap]
    simp only [List.length_append, length_e2, length_eRemaining, List.map_const', List.sum_replicate_nat]
    omega
  obtain ⟨rest, h1, h2, h3⟩ := fitItems_spec (240 - (5 + (6 + 6 * s.rc.queries.length) + 6 + 8)) (s.rc.fires.map fireBytes)
  generalize hg : fitItems (240 - (5 + (6 + 6 * s.rc.queries.length) + 6 + 8)) (s.rc.fires.map fireBytes) = given at h1 h2 h3
  have ht : queueTail s =
      e2 s.rc.queries.length ++ s.rc.queries.flatMap (fun q => e2 q.dest ++ eRemaining s.now q.expiry) ++ e2 s.rc.querySet.length
        ++ e2 s.rc.fires.length ++ e2 given.length ++ given.flatten ++ e2 s.rc.badFrames ++ e2 s.rc.strays ++ e2 s.rc.violations := by
    have hr : Config.bodyMax - ((queueFront s.rc).length
        + (e2 s.rc.queries.length ++ s.rc.queries.flatMap (fun q => e2 q.dest ++ eRemaining s.now q.expiry) ++ e2 s.rc.querySet.length
          ++ e2 s.rc.fires.length).length + (e2 s.rc.badFrames ++ e2 s.rc.strays ++ e2 s.rc.violations).length + 8)
        = 240 - (5 + (6 + 6 * s.rc.queries.length) + 6 + 8) := by
      simp only [queueFront, List.length_append, length_e2, length_eBool, hq, Config.bodyMax]
      omega
    simp only [queueTail, hr, hg]
    simp only [List.append_assoc]
  have hl : (queueFront s.rc).length + (queueTail s).length = 19 + 6 * s.rc.queries.length + given.flatten.length := by
    rw [ht]
    simp only [queueFront, List.length_append, length_e2, length_eBool, hq]
    omega
  refine ⟨given, rest, h1, ht, fun hn => by omega, fun x xs hx => ?_⟩
  have := h3 x xs hx
  omega

end Sys2Proof.Machine
end


section
/-! SUPPORT. What the eight reads give (O21). -/

namespace Sys2Proof.Machine

/-- Settles O21: the long lists by `longList_spec`, the answers read by read, and the contents field by field, each enumerated
code by its cases. -/
theorem readRequestsAnswer : Obligations.ReadRequestsAnswer := by
  refine ⟨longList_spec, fun tag s => ⟨fun body skip h hs => ⟨readRoster_answers h hs, readQueue_answers h hs⟩,
    fun n body skip h hs => readPanel_answers h hs, fun d c body skip h hs => readDest_answers h hs,
    fun hi d c body skip h hs => readDest_refuses h hs, fun n body skip h hs => readSalvo_answers h hs,
    fun h => ⟨readMixer_a h, readPaths_summary h⟩, readMixer_b, readMixer_both, fun body skip h hs => readTally_positions h hs,
    fun x h => readTally_bindings h, fun p body skip h hs => readPaths_port h hs, fun a l body skip h hs => readPaths_pair h hs,
    fun g h => readPaths_group h, fun k c h => readPaths_slots h, readMatrix_answers⟩, ?_⟩
  intro s b w signed flag index wide four time left gain image party colour code
  refine ⟨⟨fun n => ⟨rfl, rfl⟩, fun _ => rfl⟩, ?_, ?_, ?_, ?_, ?_, ?_, ?_, ?_, ?_, ?_, ?_, ?_, ?_, ?_, ?_⟩
  -- READ-ROSTER: an entry
  case refine_1 =>
    intro n e panel
    refine ⟨fun link stall ask h => ?_, fun since h => ?_, fun h => ?_⟩
    all_goals
      obtain ⟨info, presence⟩ := e
      simp only at h
      subst h
      simp only [panel, rosterBytes, Presence.code, eWide_eq, eTime_eq, e1_eq, e2_eq, e4_eq, eBool_eq, b, w, flag, wide, time, four,
        List.append_assoc, List.cons_append, List.nil_append]
      rcases info with _ | ⟨kind, unit, keys⟩
      · rfl
      · cases kind <;> rfl
  -- READ-ROSTER: what stands before the entries, and the ring
  case refine_2 =>
    refine ⟨?_, fun n => mem_ring, ring_sorted⟩
    unfold rosterFront
    simp only [eIndex_eq, flatMap_e1, e1_eq, e2_eq, eBool_eq, b, w, flag, index,
        List.append_assoc, List.cons_append, List.nil_append]
    rw [List.map_eq_flatMap (f := fun c : Stored => BitVec.ofNat 8 c.sender)]
    cases s.pbc.node <;> rfl
  -- READ-PANEL
  case refine_3 =>
    intro n shown target entry link live
    have hc : shownContext s n = shown := shownContext_eq s n
    have he (e : KeyEntry) : e.bytes = entry e := by
      cases e with
      | talk x mode lw level limit => cases x <;> cases mode <;> rfl
      | listen x level => cases x <;> rfl
      | _ => rfl
    have hi (i : Image) : i.bytes = image i := by
      obtain ⟨colour, pattern⟩ := i
      cases colour <;> cases pattern <;> rfl
    have hsent (k : Nat) : sentBytes s n k = (match link.sent[k]? with
        | some (some i) => image i
        | _ => [5, 0]) := by
      unfold sentBytes
      rcases hp : s.pbc.presence n with _ | (⟨l, stall, ask⟩ | since | _) <;> simp only [link, hp]
      case some.member => rcases l.sent[k]? with _ | _ | i <;> first | rfl | exact hi i
      all_goals rfl
    have hdirty (k : Nat) : isDirty s n k = link.dirty.contains k := by
      unfold isDirty
      rcases hp : s.pbc.presence n with _ | _ | _ | _ <;> simp only [link, hp] <;> rfl
    have hk (k : Nat) : (match tfind (((shownContext s n).map (·.keys)).getD []) k with
      | some x => keyCtxBytes s n k x
      | none => e1 KeyState.idle.code) = live k := by
      rw [hc]
      simp only [live]
      rcases shown with _ | c
      · rfl
      · simp only [Option.map_some, Option.getD_some, Option.bind_some]
        rcases tfind c.keys k with _ | x
        · rfl
        · simp only [keyCtxBytes, hsent, hdirty, hi, eRemaining_eq, eBool_eq]
          cases x.state <;> rfl
    refine ⟨fun r hr => ?_, fun hr => ?_, ?_⟩
    · unfold keyItems
      simp only [hr, Kd.entry, he]
      exact List.map_congr_left fun k _ => congrArg (entry (tget .none r.keys k) ++ ·) (hk k)
    · unfold keyItems
      simp only [hr]
      refine (List.map_congr_left fun k _ => hk k).trans ?_
      rw [hc]
      rcases shown with _ | c <;> rfl
    · unfold panelFront
      rw [hc]
      refine congrArg₂ (w s.kd.tapWindow ++ w s.kd.unassigned ++ w s.kd.duplicate ++ · ++ ·) ?_ ?_
      · rcases tfind s.kd.records n with _ | r
        · rfl
        · simp only [eIndex_eq]
          cases r.mode <;> rfl
      · rcases shown with _ | c
        · rfl
        · simp only [eWide_eq]
          rfl
  -- READ-DEST: a record and the count of fires
  case refine_4 =>
    intro i d
    refine ⟨?_, List.countP_eq_length_filter⟩
    have hp : protectBytes d.protect = (match d.protect with
        | none => [0xFF, 0xFF]
        | some p => [b (p.owner.getD 0), if p.kind = .protect then 0 else 1]) := by
      rcases d.protect with _ | ⟨owner, kind⟩
      · rfl
      · cases kind <;> rfl
    unfold recordBytes
    simp only [eIndex_eq, eWide_eq]
    exact congrArg (_ ++ · ++ _) hp
  -- READ-DEST: what follows the records
  case refine_5 => simp only [destTail, List.countP_eq_length_filter]; rfl
  -- READ-QUEUE: an entry
  case refine_6 =>
    intro e head state
    have hs : (match e.state with
        | .waiting => e1 0 ++ eTime none
        | .sent x => e1 1 ++ eRemaining s.now x) = state := by
      rcases e with ⟨_, _, _, _ | x⟩
      · rfl
      · simp only [state, eRemaining_eq]; rfl
    refine ⟨fun tag h => ?_, fun n k h => ?_, fun serial f h hf => ?_⟩
    · unfold queueBytes; rw [h]
      exact congrArg (e2 e.dest ++ e2 e.source ++ [0, 0xFF] ++ [0, tag, 0] ++ ·) hs
    · unfold queueBytes; rw [h]
      exact congrArg (e2 e.dest ++ e2 e.source ++ [1, 0xFF] ++ [1, b n, b k] ++ ·) hs
    · unfold queueBytes; rw [h, requesterBytes_fire hf]
      exact congrArg (e2 e.dest ++ e2 e.source ++ _ ++ ·) hs
  -- READ-QUEUE: what stands before the entries
  case refine_7 => rfl
  -- READ-QUEUE: what follows them
  case refine_8 =>
    have hp (q : Party) : q.bytes = party q := by cases q <;> rfl
    have hf : s.rc.fires.map fireBytes =
        s.rc.fires.map (fun f => [b f.salvo] ++ party f.party ++ w f.done ++ w f.other ++ w f.skipped) :=
      List.map_congr_left fun f _ => by rw [← hp]; rfl
    obtain ⟨given, rest, h1, h2, h3, h4⟩ := queueTail_spec s
    simp only [eRemaining_eq] at h2
    exact ⟨given, rest, hf ▸ h1, h2, h3, h4⟩
  -- READ-MIXER
  case refine_9 =>
    intro m t k
    unfold mixerBytes
    simp only [keyerBytes, e1_eq, eBool_eq, eTime_eq, eRemaining_eq, List.append_assoc, List.cons_append, List.nil_append]
    cases m.line <;> cases m.mode <;> rfl
  -- READ-TALLY: a position
  case refine_10 =>
    intro p x
    have hc : e1 x.colours.code =
        [(if x.colours.red then 1 else 0) + (if x.colours.amber then 2 else 0) + (if x.colours.green then 4 else 0)] := by
      rcases x.colours with ⟨_ | _, _ | _, _ | _⟩ <;> rfl
    unfold positionBytes
    simp only [eIndex_eq, eRemaining_eq]
    exact congrArg (_ ++ · ++ _ ++ _ ++ _ ++ _ ++ _) hc
  -- READ-TALLY: what follows the positions
  case refine_11 =>
    have hs (x : Stop) : stopBytes x = [code x.mixer, b x.input, colour x.colour, if x.kind = .loop then 0 else 1] ++ w x.dest := by
      rcases x with ⟨_ | _, _, _ | _ | _, _ | _, _⟩ <;> rfl
    unfold tallyTail
    rw [flatMap_e1, funext hs]
    rfl
  -- READ-TALLY: bindings and contributions
  case refine_12 =>
    intro m mine
    unfold bindingsContent
    refine congrArg₂ (· ++ w mine.length ++ ·) (List.flatMap_congr fun i _ => ?_) (List.flatMap_congr fun c _ => ?_)
    · cases s.tr.binding m i <;> rfl
    · rcases c with ⟨_, _ | _, _, _ | _ | _⟩ <;> rfl
  -- READ-PATHS: the summary
  case refine_13 =>
    intro all
    unfold summaryBytes
    simp only [all, List.filter_map, List.length_map, List.map_map, List.countP_eq_length_filter]
    rfl
  -- READ-PATHS: entries, causes, slots, and what stands before the lists
  case refine_14 =>
    intro e c p k x state gains r groups
    have hs : e1 e.code ++ eInt e.level = state := by
      simp only [state, PathEntry.code]
      cases e.opened <;> rfl
    have hg : gainBytes e = gains := by
      unfold gainBytes
      simp only [eGain_eq]
      cases h : e.sync <;> simp only [gains, gain, h] <;> rfl
    have hr : portBytes r =
        [match r.kind with
          | .panel => 0
          | .headset => 1
          | .fourwire => 2
          | .ifb => 3
          | .speaker => 4,
          signed r.receive, signed r.inTrim, signed r.outTrim, b r.dim,
          match r.duck with
          | .steps n => b n
          | .full => 0xFF,
          index r.program, index r.guardPos] := by
      unfold portBytes
      simp only [eIndex_eq]
      rcases r with ⟨_ | _ | _ | _ | _, _, _, _, _, _ | _, _, _⟩ <;> rfl
    refine ⟨by unfold isLive; cases c.origin <;> simp, ?_, ?_, rfl, ?_, fun n key h => ?_, fun n key h => ?_, fun slot h => ?_,
      fun h => ?_, fun h => ?_⟩
    · unfold entryBytes
      rw [hg, List.append_assoc (e1 e.talker), hs]
      rfl
    · unfold portFront
      simp only [flatMap_e1]
      exact congrArg (· ++ w groups.length ++ groups.map b) hr
    · change eBool true ++ e1 e.code ++ eInt e.level ++ gainBytes e = _
      rw [List.append_assoc (eBool true), hs, hg]
      rfl
    · unfold causeBytes; rw [h]; rfl
    · unfold causeBytes; rw [h]; rfl
    · unfold causeBytes; rw [h]; rfl
    · unfold slotBytes; rw [h]; rfl
    · unfold slotBytes; rw [h]; rfl
  -- READ-MATRIX
  case refine_15 =>
    intro d f
    have hl : e1 s.ml.line.code = [match s.ml.line with
        | .up => 0
        | .down => 1
        | .clearing => 2] := by cases s.ml.line <;> rfl
    unfold matrixContent
    simp only [hl, eRemaining_eq, eGain_eq, List.countP_eq_length_filter, List.filter_map, List.length_map]
    rfl

end Sys2Proof.Machine
end


section
/-! SUPPORT. The images of the keys and their timers (O36). -/

namespace Sys2Proof.Machine

theorem dueOpt_iff {now : Millis} {o : Option Millis} :
    dueOpt now o = true ↔ ∃ t, o = some t ∧ (now - t).toNat < 2 ^ 31 := by
  cases o with
  | none => simp [dueOpt]
  | some e =>
    simp only [dueOpt, due, elapsed, Option.some.injEq, exists_eq_left']
    exact decide_eq_true_iff

section
variable {s : State} {n k : Nat} {c : Context} {x : KeyCtx} {r : PanelRec}

/-! ### The rows of each kind (R52 to R55) -/

theorem composeImage_none (h : tfind s.kd.records n = none) : composeImage s n k c x = imageOff := by
  unfold composeImage; rw [h]

theorem composeImage_refused (h : tfind s.kd.records n = some r) (hx : x.refusalExpiry ≠ none) :
    composeImage s n k c x = imageRefused := by
  unfold composeImage; rw [h]
  exact if_pos (Option.isSome_iff_ne_none.2 hx)

theorem composeImage_kind (h : tfind s.kd.records n = some r) (hx : x.refusalExpiry = none) :
    composeImage s n k c x = kindImage s n r.port c.dest c.preset x.state (tget .none r.keys k) := by
  unfold composeImage; rw [h]
  exact if_neg (by simp [hx])

theorem redOnPort_iff {tr : Tr} {p : Nat} :
    redOnPort tr p = true ↔ ∃ z < 24, (tr.position z).port = some p ∧ (tr.position z).colours.red = true := by
  simp [redOnPort, positionList]

theorem talkLit_iff {port : Option Nat} {targets : List Nat} : (port.any fun p => targets.any fun x => s.te.isOpen x p) = true ↔
    ∃ p q, port = some p ∧ q ∈ targets ∧ s.te.isOpen q p = true := by
  cases port <;> simp

theorem idleTalkImage_lit {port : Option Nat} {target : KeyTarget}
    (h : ∃ p q, port = some p ∧ q ∈ targetPorts s.te s.tr.live target ∧ s.te.isOpen q p = true) :
    idleTalkImage s port target = ⟨.amber, .slow⟩ :=
  if_pos (talkLit_iff.2 h)

theorem idleTalkImage_red {port : Option Nat} {q : Nat}
    (h : ¬ ∃ p z, port = some p ∧ z ∈ [q] ∧ s.te.isOpen z p = true) (hq : redOnPort s.tr q = true) :
    idleTalkImage s port (.port q) = ⟨.red, .wink⟩ :=
  (if_neg (mt talkLit_iff.1 h)).trans (if_pos hq)

theorem idleTalkImage_off {port : Option Nat} {target : KeyTarget}
    (h : ¬ ∃ p q, port = some p ∧ q ∈ targetPorts s.te s.tr.live target ∧ s.te.isOpen q p = true)
    (hq : ∀ q, target = .port q → ¬ redOnPort s.tr q = true) : idleTalkImage s port target = imageOff := by
  refine (if_neg (mt talkLit_iff.1 h)).trans ?_
  cases target with
  | port q => exact if_neg (hq q rfl)
  | _ => rfl

/-- The colour of a tally set, WHITE where it is empty. -/
theorem keyColour_of (set : Colours) : ((set.highest).map Colour.keyColour).getD .white =
    if set.red then .red else if set.amber then .amber else if set.green then .green else .white := by
  rcases set with ⟨_ | _, _ | _, _ | _⟩ <;> rfl

theorem highest_isSome (set : Colours) : ((set.highest).map Colour.keyColour).isSome = true ↔ set ≠ ⟨false, false, false⟩ := by
  rcases set with ⟨_ | _, _ | _, _ | _⟩ <;> decide

theorem bind_highest (s : State) (o : Option Nat) : (o.bind fun p => (s.tr.position p).colours.highest)
    = ((o.map fun z => (s.tr.position z).colours).getD ⟨false, false, false⟩).highest := by
  cases o <;> rfl

theorem any_dest_iff {dest : Option Nat} {f : DestRec → Bool} :
    ((dest.map s.rc.dest).any f) = true ↔ ∃ d, dest = some d ∧ f (s.rc.dest d) = true := by
  cases dest <;> simp

theorem panels_contains {q : Requester} : q.panels.contains n = true ↔ ∃ j, q = .party (.panel n j) := by
  rcases q with (_ | ⟨m, j⟩) | _ <;> simp [Requester.panels, eq_comm]

theorem isPanel_iff {q : Party} : q.isPanel n = true ↔ ∃ j, q = .panel n j := by
  cases q <;> simp [Party.isPanel]

theorem takeImage_asked {dest : Option Nat} :
    (dest.any fun d => s.rc.queue.any fun e => e.dest == d && e.requester.panels.contains n) = true ↔
    ∃ d, dest = some d ∧ ∃ q ∈ s.rc.queue, q.dest = d ∧ ∃ j, q.requester = .party (.panel n j) := by
  cases dest with
  | none => simp
  | some d => simp only [Option.any_some, List.any_eq_true, Bool.and_eq_true, beq_iff_eq, panels_contains, Option.some.injEq,
      exists_eq_left']

theorem salvoImage_fires {i : Nat} : (s.rc.fires.any fun f => f.salvo == i && f.party.isPanel n) = true ↔
    ∃ f ∈ s.rc.fires, f.salvo = i ∧ ∃ j, f.party = .panel n j := by
  simp only [List.any_eq_true, Bool.and_eq_true, beq_iff_eq, isPanel_iff]

theorem ownProtect_iff {p : Option Protect} : ownProtect p n = true ↔ p = some ⟨some n, .protect⟩ := by simp [ownProtect]

end

/-! ### A key whose image changes (R52) -/

theorem refreshKey_eq {n k : Nat} {c : Context} {x : KeyCtx} {s : State} (hc : tfind s.kd.contexts n = some c)
    (hx : tfind c.keys k = some x) : refreshKey s n k =
      if composeImage s n k c x = x.image then s
      else markDirty n k (setKeyCtx n k (fun y => { y with image := composeImage s n k c x }) s) := by
  unfold refreshKey; simp only [hc, hx]

theorem markDirty_presence {n k : Nat} {s : State} {link : Link} {stall : Nat} {ask : Option Millis}
    (h : s.pbc.presence n = some (.member link stall ask)) (hk : k < link.sent.length) :
    (markDirty n k s).pbc.presence n = some (.member { link with dirty := insertAsc link.dirty k } stall ask) := by
  obtain ⟨e, he, hp⟩ := Option.map_eq_some_iff.1 h
  have he : tfind s.pbc.roster n = some e := he
  unfold Pbc.presence Pbc.entry markDirty
  simp only [tfind_tmodify, he, hp, if_true, Option.map_some, if_pos hk]

end Sys2Proof.Machine
end


section
/-! SUPPORT. Key timers and images (O36). -/

namespace Sys2Proof.Machine

section
variable {s : State} {n k : Nat} {c : Context} {x : KeyCtx} {r : PanelRec}

/-- The rows of a TALK key (R53). -/
theorem talkImage_rows {port dest preset : Option Nat} {target : KeyTarget} {m : TalkMode} {lw : Bool} {l : Int} {lim : Nat}
    {st : KeyState} :
    let image := kindImage s n port dest preset st (.talk target m lw l lim)
    let lit := ∃ p q, port = some p ∧ q ∈ targetPorts s.te s.tr.live target ∧ s.te.isOpen q p = true
    (st ∈ [.timing, .held, .latched] → image = ⟨.green, .steady⟩)
    ∧ (st = .unlatching → image = ⟨.green, .slow⟩)
    ∧ (st = .idle → lit → image = ⟨.amber, .slow⟩)
    ∧ (∀ q, st = .idle → ¬ lit → target = .port q → redOnPort s.tr q = true → image = ⟨.red, .wink⟩)
    ∧ (st = .idle → ¬ lit → (∀ q, target = .port q → ¬ redOnPort s.tr q = true) → image = ⟨.off, .steady⟩) := by
  intro image lit
  refine ⟨fun h => ?_, ?_, ?_, ?_, ?_⟩
  · simp only [List.mem_cons, List.not_mem_nil, or_false] at h
    rcases h with rfl | rfl | rfl <;> rfl
  · rintro rfl; rfl
  · rintro rfl h; exact idleTalkImage_lit h
  · rintro q rfl h rfl hq; exact idleTalkImage_red h hq
  · rintro rfl h hq; exact idleTalkImage_off h hq

/-- The rows of a SOURCE key (R54). -/
theorem sourceImage_rows {dest preset : Option Nat} {i : Nat} :
    let set : Colours := ((s.rc.source i).position.map fun z => (s.tr.position z).colours).getD ⟨false, false, false⟩
    let colour : KeyColour := if set.red then .red else if set.amber then .amber else if set.green then .green else .white
    let confirmed := ∃ d, dest = some d ∧ (s.rc.dest d).confirmed = some i
    let next := (∃ d, dest = some d ∧ (s.rc.dest d).pending = some i) ∨ preset = some i
    (confirmed → sourceImage s dest preset i = ⟨colour, .steady⟩)
    ∧ (¬ confirmed → next → sourceImage s dest preset i = ⟨colour, .slow⟩)
    ∧ (¬ confirmed → ¬ next → set ≠ ⟨false, false, false⟩ → sourceImage s dest preset i = ⟨colour, .wink⟩)
    ∧ (¬ confirmed → ¬ next → ¬ set ≠ ⟨false, false, false⟩ → sourceImage s dest preset i = ⟨.off, .steady⟩) := by
  intro set colour confirmed next
  have h1 : ((dest.map s.rc.dest).any fun r => r.confirmed == some i) = true ↔ confirmed := by
    simp only [any_dest_iff, beq_iff_eq, confirmed]
  have h2 : (((dest.map s.rc.dest).any fun r => r.pending == some i) || preset == some i) = true ↔ next := by
    simp only [Bool.or_eq_true, any_dest_iff, beq_iff_eq, next]
  have h3 : ((set.highest).map Colour.keyColour).isSome = true ↔ set ≠ ⟨false, false, false⟩ := highest_isSome set
  have e : sourceImage s dest preset i =
      if ((dest.map s.rc.dest).any fun r => r.confirmed == some i) = true then ⟨colour, .steady⟩
      else if (((dest.map s.rc.dest).any fun r => r.pending == some i) || preset == some i) = true then ⟨colour, .slow⟩
      else if ((set.highest).map Colour.keyColour).isSome = true then ⟨colour, .wink⟩
      else imageOff := by
    unfold sourceImage
    simp only [bind_highest, keyColour_of]
    rfl
  rw [e]
  refine ⟨fun a => if_pos (h1.2 a), fun a b => ?_, fun a b c => ?_, fun a b c => ?_⟩
  · rw [if_neg (mt h1.1 a), if_pos (h2.2 b)]
  · rw [if_neg (mt h1.1 a), if_neg (mt h2.1 b), if_pos (h3.2 c)]
  · rw [if_neg (mt h1.1 a), if_neg (mt h2.1 b), if_neg (mt h3.1 c)]; rfl

/-- The rows of a DEST key (R55). -/
theorem destImage_rows {dest : Option Nat} {d : Nat} :
    let p := (s.rc.dest d).protect
    let colour : KeyColour := if p = none then .white else if p = some ⟨some n, .protect⟩ then .amber else .red
    (dest = some d → destImage s n dest d = ⟨colour, .steady⟩)
    ∧ (dest ≠ some d → p ≠ none → destImage s n dest d = ⟨colour, .wink⟩)
    ∧ (dest ≠ some d → p = none → destImage s n dest d = ⟨.off, .steady⟩) := by
  intro p colour
  have e : destImage s n dest d =
      if dest = some d then ⟨colour, .steady⟩ else if p.isSome then ⟨colour, .wink⟩ else imageOff := by
    unfold destImage
    simp only [Option.isNone_iff_eq_none, ownProtect_iff]
    rfl
  rw [e]
  refine ⟨fun h => if_pos h, fun h hp => ?_, fun h hp => ?_⟩
  · rw [if_neg h, if_pos (Option.isSome_iff_ne_none.2 hp)]
  · rw [if_neg h, if_neg (by simp [hp])]; rfl

/-- The rows of a PROTECT key on a destination (R55). -/
theorem protectImage_rows {d : Nat} :
    let p := (s.rc.dest d).protect
    (p = none → protectImage s n (some d) = ⟨.off, .steady⟩)
    ∧ (p = some ⟨some n, .protect⟩ → protectImage s n (some d) = ⟨.amber, .steady⟩)
    ∧ (p ≠ none → p ≠ some ⟨some n, .protect⟩ → protectImage s n (some d) = ⟨.red, .steady⟩) := by
  intro p
  have e : protectImage s n (some d) =
      if p = none then imageOff else if p = some ⟨some n, .protect⟩ then ⟨.amber, .steady⟩ else ⟨.red, .steady⟩ := by
    unfold protectImage
    simp only [Option.isNone_iff_eq_none, ownProtect_iff]
    rfl
  rw [e]
  refine ⟨fun h => if_pos h, fun h => ?_, fun h1 h2 => ?_⟩
  · rw [if_neg (by simp [h]), if_pos h]
  · rw [if_neg h1, if_neg h2]

/-! ### The timers (R39, R40, R49) -/

theorem tapWindow_ends (h : s.kd.key n k = some x) (hs : x.state = .timing) (hd : dueOpt s.now x.tapExpiry = true) :
    EndsIn (.tapWindowExpiry n k) s
      (refreshKey (setKeyCtx n k (fun y => { y with state := .held, tapExpiry := none, latchExpiry := none }) s) n k) := by
  have e : endTapWindow n k s =
      refreshKey (setKeyCtx n k (fun y => { y with state := .held, tapExpiry := none, latchExpiry := none }) s) n k := by
    unfold endTapWindow; simp only [h, if_pos (And.intro hs hd)]; rfl
  exact congrArg finish e

theorem tapWindow_early (h : s.kd.key n k = some x) (hd : ¬ (x.state = .timing ∧ dueOpt s.now x.tapExpiry = true)) :
    EndsIn (.tapWindowExpiry n k) s s := by
  have e : endTapWindow n k s = s := by unfold endTapWindow; simp only [h, if_neg hd]
  exact congrArg finish e

theorem latchLimit_ends (h : s.kd.key n k = some x) (hs : x.state = .latched) (hd : dueOpt s.now x.latchExpiry = true) :
    EndsIn (.latchLimitExpiry n k) s (refreshKey (deactivateKey n k s) n k) := by
  have e : endLatchLimit n k s = refreshKey (deactivateKey n k s) n k := by unfold endLatchLimit; simp only [h, if_pos (And.intro hs hd)]
  exact congrArg finish e

theorem latchLimit_early (h : s.kd.key n k = some x) (hd : ¬ (x.state = .latched ∧ dueOpt s.now x.latchExpiry = true)) :
    EndsIn (.latchLimitExpiry n k) s s := by
  have e : endLatchLimit n k s = s := by unfold endLatchLimit; simp only [h, if_neg hd]
  exact congrArg finish e

theorem refusal_ends (h : s.kd.key n k = some x) (hd : dueOpt s.now x.refusalExpiry = true) :
    EndsIn (.refusalIndicationExpiry n k) s (refreshKey (setKeyCtx n k (fun y => { y with refusalExpiry := none }) s) n k) := by
  have e : endRefusal n k s = refreshKey (setKeyCtx n k (fun y => { y with refusalExpiry := none }) s) n k := by
    unfold endRefusal; simp only [h, if_pos hd]
  exact congrArg finish e

theorem refusal_early (h : s.kd.key n k = some x) (hd : ¬ dueOpt s.now x.refusalExpiry = true) :
    EndsIn (.refusalIndicationExpiry n k) s s := by
  have e : endRefusal n k s = s := by unfold endRefusal; simp only [h, if_neg hd]
  exact congrArg finish e

end

/-- Settles O36: the rows kind by kind, the change of an image by `refreshKey_eq`, and each timer due or not. -/
theorem keyTimersAndImages : Obligations.KeyTimersAndImages := by
  refine ⟨fun n k c x r s => ⟨composeImage_none, composeImage_refused, fun hr hx => ?_⟩, fun n k c x s hc hx => ?_,
    fun n k x s h => ?_⟩
  · intro e shows redOn
    have hk (i : Image) : shows i ↔ kindImage s n r.port c.dest c.preset x.state e = i := by
      simp only [shows]; rw [composeImage_kind hr hx]
    simp only [hk, redOn, ← redOnPort_iff]
    refine ⟨fun h => by rw [h]; rfl, fun target m lw ll lim h => ?_, fun target l h => by rw [h]; rfl, fun p h => by rw [h]; rfl,
      fun i h => ?_, fun d h => ?_, fun h => ?_, fun h => ?_, fun i h => ?_⟩
    · rw [h]; exact talkImage_rows
    · rw [h]; exact sourceImage_rows
    · rw [h]; exact destImage_rows
    · rw [h]
      exact ⟨fun ha => if_pos (takeImage_asked.2 ha), fun ha => if_neg (mt takeImage_asked.1 ha)⟩
    · rw [h]
      exact ⟨fun hd => by rw [hd]; rfl, fun d hd => by rw [hd]; exact protectImage_rows⟩
    · rw [h]
      exact ⟨fun ha => if_pos (salvoImage_fires.2 ha), fun ha => if_neg (mt salvoImage_fires.1 ha)⟩
  · rw [refreshKey_eq hc hx]
    refine ⟨fun h => if_pos h, fun h => ?_⟩
    rw [if_neg h]
    have hk : s.kd.key n k = some x := by simp only [Kd.key, hc, Option.bind_some, hx]
    refine ⟨?_, ?_, fun m j hmj => ?_, fun link stall ask hp hl => markDirty_presence hp hl⟩
    · have := refreshKey_frame s n k
      rwa [refreshKey_eq hc hx, if_neg h] at this
    · rw [markDirty_kd, key_setKeyCtx, if_pos ⟨rfl, rfl⟩, hk]; rfl
    · rw [markDirty_kd, key_setKeyCtx, if_neg (by tauto)]
  · intro isDue
    have hd (o : Option Millis) : isDue o ↔ dueOpt s.now o = true := dueOpt_iff.symm
    simp only [hd]
    exact ⟨tapWindow_ends h, fun hn => tapWindow_early h (by tauto), latchLimit_ends h, fun hn => latchLimit_early h (by tauto),
      refusal_ends h, refusal_early h⟩

end Sys2Proof.Machine
end


section
/-! SUPPORT. The state right after power-on (O2, O3). -/

namespace Sys2Proof.Machine

theorem exec_powerOn (rate skip : Bool) (unit : BitVec 32) (s : State) : exec (.powerOn rate skip unit) s =
    .next (State.powerOn { rateHigh := rate, profileSkip := skip, unit := unit } s.pm.memory s.pending) := by
  have hd : (State.powerOn { rateHigh := rate, profileSkip := skip, unit := unit } s.pm.memory s.pending).cp.due = 0 := by
    change (0 : FlagSet) &&& 0 &&& ~~~0 = 0
    decide
  exact congrArg _ (announce_of_not_due _ hd)

/-- The power-on query set holds every destination that no query of the window asks (R98). -/
theorem queried_at_powerOn : ∀ d ≤ 255, d ∈ Rc.powerOn.querySet ∨ ∃ q ∈ Rc.powerOn.queries, q.dest = d := by
  intro d hd
  have hset : Rc.powerOn.querySet = List.range' 2 254 := by
    change (List.range 256).drop 2 = _
    rw [List.range_eq_range', List.drop_range']
  rw [hset, List.mem_range'_1]
  rcases Nat.lt_or_ge d 2 with h | h
  · right
    interval_cases d
    · exact ⟨⟨0, none⟩, by simp [Rc.powerOn], rfl⟩
    · exact ⟨⟨1, none⟩, by simp [Rc.powerOn], rfl⟩
  · left; omega

/-- Settles O2: every value is the one the block's `powerOn` names. -/
theorem powerOnValues : Obligations.PowerOnValues := by
  intro rate skip unit s
  refine ⟨_, exec_powerOn rate skip unit s, rfl, rfl, by cases skip <;> rfl, rfl, rfl, ?cp, ?pbc, ⟨rfl, rfl, rfl, rfl, rfl⟩, ?rc, ?mm,
    ⟨rfl, rfl, rfl, rfl, rfl, rfl, rfl⟩, ⟨rfl, rfl, rfl, rfl, rfl, rfl, rfl⟩,
    ⟨rfl, rfl, rfl, rfl, rfl, rfl, rfl, rfl, rfl, rfl⟩, rfl, by cases skip <;> rfl, ?pm⟩
  case cp => exact ⟨rfl, rfl, rfl, rfl, rfl, rfl, rfl, rfl, rfl, rfl⟩
  case pbc => exact ⟨rfl, rfl, rfl, rfl, rfl, rfl, rfl, rfl, rfl, rfl, rfl, rfl, rfl, rfl, rfl, rfl, rfl, rfl, rfl, rfl, rfl, rfl⟩
  case rc => exact ⟨rfl, rfl, rfl, rfl, rfl, rfl, rfl, rfl, rfl, rfl, rfl, rfl, queried_at_powerOn, rfl⟩
  case mm => intro x; cases x <;> rfl
  case pm => cases skip <;> exact ⟨rfl, rfl⟩

theorem cpInv_reset : CpInv State.reset := ⟨by decide, Nat.zero_le _, Nat.zero_le _, rfl⟩

theorem routerQueueInv_reset : RouterQueueInv State.reset where
  length := Nat.zero_le _
  waiting := .nil
  sent := .nil
  pending := nofun
  window := Nat.le_refl 2
  filled := rfl
  serials := nofun
  distinct := .nil
  requesters := nofun
  ascending := (List.pairwise_lt_range).sublist (List.drop_sublist _ _)

theorem pathTableInv_reset : PathTableInv State.reset where
  sorted := rfl
  pairs := nofun
  causes := Nat.zero_le _
  entries := Nat.zero_le _
  opened := nofun
  standing := ⟨rfl, nofun⟩
  slots := nofun
  outstanding := Nat.zero_le _
  muteAll := by decide
  queued := nofun
  idle := fun _ => ⟨rfl, rfl, rfl⟩
  sent := nofun
  removals := nofun

theorem targetInv_reset : TargetInv State.reset := ⟨nofun, nofun, nofun⟩

theorem causeInv_reset : CauseInv State.reset := ⟨⟨rfl, nofun⟩, nofun, nofun, nofun⟩

theorem imageInv_reset : ImageInv State.reset where
  records := ⟨rfl, nofun⟩
  salvos := ⟨rfl, nofun, Nat.zero_le _⟩
  dests := ⟨rfl, nofun⟩
  groups := nofun
  standing := ⟨rfl, nofun⟩
  save := nofun
  transfer := fun _ h => Option.some.inj h ▸ rfl

/-- Settles O3, invariant by invariant. -/
theorem resetMeetsTheInvariants : Obligations.ResetMeetsTheInvariants :=
  ⟨cpInv_reset, settingsInRange_powerOn _ _ _, rfl, tableInv_powerOn _ _ _,
    (panelBusInv_iff _).2 ⟨tableInv_powerOn _ _ _, busInv_powerOn _ _ _⟩, routerQueueInv_reset, pathTableInv_reset, targetInv_reset,
    causeInv_reset, imageInv_reset⟩

end Sys2Proof.Machine
end


section
/-! SUPPORT. Wrong bodies are refused (O17). -/

namespace Sys2Proof.Machine

section
variable {i : Instr} {k : ReqKind} {c : Class} {tag : Byte} {body : List Byte} {s : State}

/-- A request without fields refuses a body. -/
theorem noFields_refuses {own : State → Answer} (hi : exec i s = request k c (noFields own) tag body s) (hb : body ≠ [])
    (h : Admitted c tag body s) : Refuses i s tag k.byte .malformed :=
  refuses_of (noFields own) hi h (if_neg (by simpa using hb))

theorem nodeByte_eq_false {b : Byte} (h : b = 0 ∨ 63 < b.toNat) : nodeByte b = false := by
  rcases h with rfl | h
  · rfl
  · simp only [nodeByte, Bool.and_eq_false_iff, decide_eq_false_iff_not]; omega

/-- Two bytes whose high one is not 0 are an index past 255. -/
theorem lt_beNat {hi lo : Byte} (h : hi ≠ 0) : 255 < beNat [hi, lo] := by
  have h0 : hi.toNat ≠ 0 := fun e => h (BitVec.eq_of_toNat_eq e)
  have hb : beNat [hi, lo] = hi.toNat * 256 + lo.toNat := by simp [beNat]
  omega

end

/-- Settles O17, request by request: the form, then the range, then the state. -/
theorem wrongBodiesAreRefused : Obligations.WrongBodiesAreRefused := by
  intro tag b c d body s
  refine ⟨fun hb h => ⟨?_, ?_⟩, fun hb h => ?_, fun hb h => ⟨?_, ?_⟩, fun hb h => ?_, fun hb h => ⟨?_, ?_⟩, fun hr h => ?_,
    fun hr h => ?_, fun hr h => ?_, fun hr h => ?_, fun hr h => ?_, fun hr h => ?_, fun hr fs hf hok h => ?_, fun hr skip hs h => ?_,
    fun hr h => ⟨?_, ?_⟩, fun hr h => ?_⟩
  · exact noFields_refuses (k := .sweepNow) (own := ownSweepNow) rfl hb h
  · exact noFields_refuses (k := .takeCancel) (own := ownTakeCancel) rfl hb h
  · exact noFields_refuses (k := .readMatrix) (own := ownReadMatrix) rfl hb h
  · exact noFields_refuses (k := .status) (own := ownStatus) rfl hb h
  · exact noFields_refuses (k := .identify) (own := ownIdentify) rfl hb h
  · exact noFields_refuses (k := .reset) (own := ownReset tag) rfl hb h
  · exact noFields_refuses (k := .profileSave) (own := ownProfileSave tag) rfl hb h
  · exact noFields_refuses (k := .profileLoad) (own := ownProfileLoad tag) rfl hb h
  · exact refuses_of (k := .setNode) ownSetNode rfl h (if_pos hr)
  · refine refuses_of (k := .forget) ownForget rfl h (if_pos ?_)
    rw [nodeByte_eq_false hr]; rfl
  · exact refuses_of (k := .fireSalvo) (ownFireSalvo tag) rfl h (if_pos hr)
  · exact refuses_of (k := .call) ownCall rfl h (if_pos hr)
  · exact refuses_of (k := .setPosition) ownSetPosition rfl h (if_pos (by simp [hr]))
  · exact refuses_of (k := .dropStanding) ownDropStanding rfl h (if_pos hr)
  · refine refuses_of (k := .setLamp) ownSetLamp rfl h ?_
    simp only [ownSetLamp, hf, hok, Bool.not_true, if_pos hr]
    rfl
  · refine refuses_of (k := .readPanel) ownReadPanel rfl h ?_
    simp only [ownReadPanel, hs, nodeByte_eq_false hr]
    rfl
  · exact refuses_of (k := .setDest) ownSetDest rfl h (if_pos (lt_beNat hr))
  · exact refuses_of (k := .protect) ownProtectRequest rfl h (if_pos (lt_beNat hr))
  · refine refuses_of (k := .take) (ownTake tag) rfl h (if_pos ?_)
    simp [lt_beNat hr]

end Sys2Proof.Machine
end


section
/-! SUPPORT. The roster under the Panel Bus's operations, SET-NODE and BUS-ENABLE (O22). -/

namespace Sys2Proof.Machine

/-! ### The roster -/

theorem tfind_of_mem {α : Type} {t : Tab α} {i : Nat} {x : α} (h : tsorted t = true) (hm : (i, x) ∈ t) : tfind t i = some x := by
  induction t with
  | nil => simp at hm
  | cons kv t ih =>
    obtain ⟨k, v⟩ := kv
    obtain ⟨ha, ht⟩ := (tsorted_cons k v t).1 h
    rcases List.mem_cons.1 hm with e | hm
    · cases e; simp [tfind]
    · have : k < i := ha _ hm
      exact (if_neg (Nat.ne_of_gt this)).trans (ih ht hm)

theorem entry_setRoster (n : Nat) (e : RosterEntry) (s : State) (m : Nat) :
    (setRoster n e s).pbc.entry m = if m = n then some e else s.pbc.entry m := tfind_tput _ _ _ _

theorem mem_memberIds_of_sorted {p : Pbc} (h : tsorted p.roster = true) {n : Nat} :
    n ∈ p.memberIds ↔ ∃ e, p.entry n = some e ∧ e.isMember = true := by
  rw [mem_memberIds]
  exact exists_congr fun e => and_congr_left fun _ => ⟨tfind_of_mem h, mem_of_tfind⟩

section
variable {tag : Byte} {s : State}

/-! ### SET-NODE (R7) -/

theorem setNode_replies {n : Byte} {t : State} (h : Admitted .config tag [n] s) (hn : n.toNat ≤ 63)
    (ht : applyNodeId n.toNat (taken tag 0x01 s) = some t) : RepliesIn (.setNode tag [n]) s tag .setNode .ok [] t := by
  refine repliesIn_of (k := .setNode) ownSetNode rfl h ((if_neg (Nat.not_lt.2 hn)).trans ?_)
  rw [show applyNodeId n.toNat (taken tag ReqKind.setNode.byte s) = some t from ht]

theorem setNode_refuses {n : Byte} (h : Admitted .config tag [n] s) (hn : n.toNat ≤ 63)
    (ht : applyNodeId n.toNat (taken tag 0x01 s) = none) : Refuses (.setNode tag [n]) s tag 0x01 .state := by
  refine refuses_of (k := .setNode) ownSetNode rfl h ((if_neg (Nat.not_lt.2 hn)).trans ?_)
  rw [show applyNodeId n.toNat (taken tag ReqKind.setNode.byte s) = none from ht]
  rfl

theorem applyNodeId_refused {n : Nat}
    (h : s.pbc.node = .checking ∨ s.pbc.node = .sweeping ∨ s.pbc.node = .member ∨ (s.pbc.node = .conflict ∧ n = 0)) :
    applyNodeId n s = none := by
  unfold applyNodeId
  rcases h with h | h | h | ⟨h, rfl⟩ <;> simp only [h]

theorem applyNodeId_taken {n : Nat} (hn : n ≠ 0) : applyNodeId n s = match s.pbc.node with
    | .asleep => some (enterListening (takeId n s))
    | .listening => some (takeId n s)
    | .conflict => some (startChecking (takeId n s))
    | _ => none := by
  obtain ⟨n, rfl⟩ := Nat.exists_eq_succ_of_ne_zero hn
  unfold applyNodeId
  cases s.pbc.node <;> rfl

theorem takeId_absent {n : Nat} (h : s.pbc.entry n = none) : takeId n s = { s with pbc := { s.pbc with id := n } } :=
  if_neg (by simp [h])

theorem takeId_present {n : Nat} (h : (s.pbc.entry n).isSome = true) : takeId n s =
    { s with
      cp := { s.cp with flags := s.cp.flags ||| 1 }
      pbc := { s.pbc with id := n, roster := tdel s.pbc.roster n }
      reports := { s.reports with rcReleases := s.reports.rcReleases ++ [n] } } :=
  if_pos h

/-! ### BUS-ENABLE (R8, R10) -/

theorem busEnable_answers {e : Byte} {body : List Byte} {on : Bool} {u : State} (h : Admitted .config tag body s)
    (he : flagOf e.toNat = some on)
    (hb : (body = [e, 0] ∧ u = taken tag 0x02 s)
      ∨ (∃ a auto, body = [e, 1, a] ∧ flagOf a.toNat = some auto
          ∧ u = { taken tag 0x02 s with pbc := { s.pbc with busAuto := auto } }))
    {code : Code} {t : State} (ht : applyEnable on u = .now code [] t) :
    RepliesIn (.busEnable tag body) s tag .busEnable code [] t := by
  refine repliesIn_of (k := .busEnable) ownBusEnable rfl h ?_
  rcases hb with ⟨rfl, rfl⟩ | ⟨a, auto, rfl, ha, rfl⟩
  · have hp : presence [1] [0] = some [none] := rfl
    simp only [ownBusEnable, he, hp]
    exact ht
  · have hp : presence [1] [1, a] = some [some a.toNat] := by simp [presence, optFields, beNat]
    simp only [ownBusEnable, he, hp, ha]
    exact ht

/-- What one MEMBER that leaves the bus does to the state. -/
def leaveOne (now : Millis) (t : State) (n : Nat) : State :=
  match t.pbc.entry n with
  | some e => departure n (setRoster n { e with presence := .absent now } t)
  | none => t

theorem leaveOne_entry (now : Millis) (t : State) (n m : Nat) : (leaveOne now t n).pbc.entry m =
    if m = n then (t.pbc.entry m).map fun e => { e with presence := .absent now } else t.pbc.entry m := by
  unfold leaveOne
  split
  next e he =>
    refine (entry_setRoster n _ t m).trans ?_
    split
    next hm => rw [hm, he]; rfl
    next => rfl
  next he =>
    split
    next hm => rw [hm, he]; rfl
    next => rfl

/-- What the members that leave the bus leave of the state. -/
structure Left (s t : State) (l : List Nat) (now : Millis) : Prop where
  entries : ∀ m, t.pbc.entry m = if m ∈ l then (s.pbc.entry m).map fun e => { e with presence := .absent now } else s.pbc.entry m
  pbc : t.pbc = { s.pbc with roster := t.pbc.roster, inbound := t.pbc.inbound, reserved := t.pbc.reserved }
  reports : t.reports = { s.reports with kdPanels := s.reports.kdPanels ++ l.map .departure }
  cp : t.cp = s.cp

theorem left_foldl (now : Millis) (l : List Nat) (s : State) (h : ∀ n ∈ l, (s.pbc.entry n).isSome = true) :
    Left s (l.foldl (leaveOne now) s) l now := by
  induction l generalizing s with
  | nil => exact ⟨fun m => by simp, rfl, by simp, rfl⟩
  | cons n l ih =>
    obtain ⟨e, he⟩ := Option.isSome_iff_exists.1 (h n (.head _))
    have h1 : leaveOne now s n = departure n (setRoster n { e with presence := .absent now } s) := by simp only [leaveOne, he]
    obtain ⟨entries, pbc, reports, cp⟩ := ih (leaveOne now s n) fun m hm => by
      rw [leaveOne_entry]; split <;> simp [h m (.tail _ hm)]
    rw [List.foldl_cons]
    refine ⟨fun m => ?_, pbc.trans (by rw [h1]; rfl), reports.trans (by rw [h1]; simp [departure, setRoster]),
      cp.trans (by rw [h1]; rfl)⟩
    rw [entries, leaveOne_entry]
    by_cases hm : m = n <;> by_cases hl : m ∈ l <;> simp [hm, hl] <;> simp_all

end

end Sys2Proof.Machine
end


section
/-! SUPPORT. SET-NODE and BUS-ENABLE by the state of the node (O22). -/

namespace Sys2Proof.Machine

/-- What leaving the bus leaves (R10). -/
theorem leaveBus_leaves {s : State} (h : tsorted s.pbc.roster = true) :
    (∀ n, (leaveBus s).pbc.entry n =
        (s.pbc.entry n).map fun x => if x.isMember then { x with presence := .absent s.now } else x)
    ∧ (leaveBus s).reports = { s.reports with kdPanels := s.reports.kdPanels ++ s.pbc.memberIds.map .departure }
    ∧ (leaveBus s).cp = { s.cp with flags := if s.pbc.memberIds = [] then s.cp.flags else s.cp.flags ||| 1 }
    ∧ (leaveBus s).pbc = { s.pbc with
        roster := (leaveBus s).pbc.roster, node := .listening, activitySeen := false, lastTurn := none, checkingExpiry := none
        sweepPending := false, results := [], work := .idle, windowOpen := false, tx := [], silentSince := none
        reserved := none, inbound := [], turn := { s.pbc.turn with holds := false, chosen := [] } } := by
  have hl : ∀ n ∈ s.pbc.memberIds, (s.pbc.entry n).isSome = true := fun n hn => by
    obtain ⟨e, he, -⟩ := (mem_memberIds_of_sorted h).1 hn
    simp [he]
  obtain ⟨entries, pbc, reports, cp⟩ := left_foldl s.now s.pbc.memberIds s hl
  have e : leaveBus s = setFlagIf (!s.pbc.memberIds.isEmpty) .roster (enterListening
      { s.pbc.memberIds.foldl (leaveOne s.now) s with
        pbc := { (s.pbc.memberIds.foldl (leaveOne s.now) s).pbc with
          checkingExpiry := none, sweepPending := false, results := [], work := .idle, windowOpen := false, tx := [],
          silentSince := none, reserved := none, inbound := []
          turn := { (s.pbc.memberIds.foldl (leaveOne s.now) s).pbc.turn with holds := false, chosen := [] } } }) := rfl
  rw [e]
  generalize s.pbc.memberIds.foldl (leaveOne s.now) s = t at *
  refine ⟨fun n => ?_, ?_, ?_, ?_⟩
  · rw [setFlagIf_pbc]
    refine (entries n).trans ?_
    rcases he : s.pbc.entry n with _ | x
    · simp
    · have hm : n ∈ s.pbc.memberIds ↔ x.isMember = true := by
        rw [mem_memberIds_of_sorted h, he]; simp
      by_cases hx : x.isMember = true
      · rw [if_pos (hm.2 hx)]; simp [hx]
      · rw [if_neg (mt hm.1 hx)]; simp [hx]
  · rw [setFlagIf_reports]; exact reports
  · have hc {u : State} (hu : u.cp = s.cp) : (setFlagIf (!s.pbc.memberIds.isEmpty) .roster u).cp =
        { s.cp with flags := if s.pbc.memberIds = [] then s.cp.flags else s.cp.flags ||| 1 } := by
      rw [← hu]
      cases s.pbc.memberIds <;> rfl
    exact hc cp
  · rw [setFlagIf_pbc]
    change ({ t.pbc with
      node := .listening, activitySeen := false, lastTurn := none, checkingExpiry := none, sweepPending := false, results := []
      work := .idle, windowOpen := false, tx := [], silentSince := none, reserved := none, inbound := []
      turn := { t.pbc.turn with holds := false, chosen := [] } } : Pbc) = _
    have ht : t.pbc.turn = s.pbc.turn := by rw [pbc]
    rw [ht]
    generalize t.pbc.roster = roster at *
    rw [pbc]
    rfl

/-- Settles O22: SET-NODE by `applyNodeId`, BUS-ENABLE by `applyEnable`, whose OFF is `leaveBus_leaves`. -/
theorem nodeAndEnableByState : Obligations.NodeAndEnableByState := by
  refine ⟨fun tag n s h hn => ?_, fun tag e body on s u h he hb => ?_⟩
  · intro q ok
    have h0 : n ≠ 0 → n.toNat ≠ 0 := fun hn0 hz => hn0 (BitVec.eq_of_toNat_eq hz)
    refine ⟨fun hz hs => setNode_replies h hn ?_, fun hz hs => setNode_replies h hn ?_, fun hn0 p hp => ⟨fun ha => ?_, fun ha => ?_⟩,
      fun hs => setNode_refuses h hn (applyNodeId_refused ?_)⟩
    · subst hz; unfold applyNodeId; rw [show (taken tag 0x01 s).pbc.node = .asleep from hs]; rfl
    · subst hz; unfold applyNodeId; rw [show (taken tag 0x01 s).pbc.node = .listening from hs]; rfl
    · refine setNode_replies h hn ?_
      rw [applyNodeId_taken (h0 hn0), takeId_absent (s := taken tag 0x01 s) ha]
      rcases hp with ⟨hs, rfl⟩ | ⟨hs, rfl⟩ | ⟨hs, rfl⟩ <;> rw [show (taken tag 0x01 s).pbc.node = _ from hs] <;> rfl
    · refine setNode_replies h hn ?_
      rw [applyNodeId_taken (h0 hn0), takeId_present (s := taken tag 0x01 s) ha]
      rcases hp with ⟨hs, rfl⟩ | ⟨hs, rfl⟩ | ⟨hs, rfl⟩ <;> rw [show (taken tag 0x01 s).pbc.node = _ from hs] <;> rfl
    · rcases hs with hs | hs | hs | ⟨hs, hz⟩
      · exact .inl hs
      · exact .inr (.inl hs)
      · exact .inr (.inr (.inl hs))
      · exact .inr (.inr (.inr ⟨hs, by rw [hz]; rfl⟩))
  · intro answer
    have reply {code : Code} {t : State} (ht : applyEnable on u = .now code [] t) : answer code [] t := busEnable_answers h he hb ht
    have hu : u.pbc.node = s.pbc.node ∧ u.now = s.now ∧ u.pbc.roster = s.pbc.roster ∧ u.reports = s.reports
        ∧ u.cp.flags = s.cp.flags ∧ u.pbc.turn = s.pbc.turn := by
      rcases hb with ⟨-, rfl⟩ | ⟨a, auto, -, -, rfl⟩ <;> exact ⟨rfl, rfl, rfl, rfl, rfl, rfl⟩
    obtain ⟨hnode, hnow, hroster, hreports, hflags, hturn⟩ := hu
    refine ⟨fun hs => reply ?_, fun hs => reply ?_, fun h1 h2 hon => reply ?_, fun h1 h2 hon ht => ?_⟩
    · unfold applyEnable; rw [hnode, hs]; cases on <;> rfl
    · unfold applyEnable; rw [hnode, hs]; cases on
      · rfl
      · simp only [if_true, startChecking, after, hnow]; rfl
    · subst hon; unfold applyEnable; rw [hnode]
      cases hs : s.pbc.node <;> simp_all
    · have hoff : applyEnable on u = .now .ok [] (leaveBus u) := by
        subst hon; unfold applyEnable; rw [hnode]
        cases hs : s.pbc.node <;> simp_all
      have hsorted : tsorted u.pbc.roster = true := by rw [hroster]; exact ht.sorted
      have hentry (n : Nat) : u.pbc.entry n = s.pbc.entry n := by unfold Pbc.entry; rw [hroster]
      have hids : u.pbc.memberIds = s.pbc.memberIds := by unfold Pbc.memberIds; rw [hroster]
      obtain ⟨entries, reports, cp, pbc⟩ := leaveBus_leaves hsorted
      rw [hids, hreports] at reports
      rw [hids, hflags] at cp
      rw [hturn] at pbc
      exact ⟨_, reply hoff, (leaveBus_frame u).mono (by decide), fun n => by rw [entries, hentry, hnow], reports, cp, pbc⟩

end Sys2Proof.Machine
end


section
/-! SUPPORT. BUS-TIMING's four parts, SWEEP-NOW and FORGET (O23). -/

namespace Sys2Proof.Machine

/-! ### The parts of BUS-TIMING (R15, R21, R26, R28) -/

/-- A stall limit carried acts at once. -/
def stallPart (c : Bool) (s : State) : State := if c then applyStallLimit s else s
/-- A release interval carried acts at once. -/
def absencePart (c : Bool) (s : State) : State := if c then (s.pbc.roster.map (·.1)).foldl (fun t n => endAbsence n t) s else s
/-- A silence interval carried acts at once. -/
def silencePart (c : Bool) (s : State) : State := if c then endSilence s else s

theorem applyBusTiming_parts (fs : List (Option Nat)) (s : State) : applyBusTiming fs s =
    silencePart (fieldAt fs 1).isSome (absencePart (fieldAt fs 5).isSome (stallPart (fieldAt fs 4).isSome
      { s with pbc := { s.pbc with timing := s.pbc.timing.update fs } })) := rfl

/-- An entry that a stall limit makes STALLED. -/
def stalls (limit : Nat) (e : RosterEntry) : Bool :=
  match e.presence with
  | .member _ stall none => limit ≤ stall
  | _ => false

/-- An entry whose release interval has passed. -/
def expires (now : Millis) (release : Nat) (e : RosterEntry) : Bool :=
  match e.presence with
  | .absent since => release * 1000 ≤ (now - since).toNat
  | _ => false

theorem expires_stallNow (limit : Nat) (now later : Millis) (release : Nat) (e : RosterEntry) :
    expires later release (stallNow limit now e) = expires later release e := by
  rcases e with ⟨i, ⟨link, stall, _ | ask⟩ | since | _⟩
  · simp only [stallNow]; split <;> rfl
  all_goals rfl

section
variable (c : Bool) (s : State)

theorem stallPart_pbc : (stallPart c s).pbc = { s.pbc with roster := (stallPart c s).pbc.roster } := by
  cases c
  · rfl
  · exact (applyStallLimit_pbc s).trans (by rw [show (stallPart true s).pbc.roster = _ from congrArg Pbc.roster (applyStallLimit_pbc s)])

theorem stallPart_roster : (stallPart c s).pbc.roster =
    s.pbc.roster.map fun kv => (kv.1, if c then stallNow s.pbc.timing.stallLimit s.now kv.2 else kv.2) := by
  cases c
  · exact (List.map_id _).symm
  · exact congrArg Pbc.roster (applyStallLimit_pbc s)

theorem stallPart_entry (n : Nat) : (stallPart c s).pbc.entry n =
    (s.pbc.entry n).map fun e => if c then stallNow s.pbc.timing.stallLimit s.now e else e := by
  unfold Pbc.entry
  rw [stallPart_roster]
  exact tfind_map s.pbc.roster (fun _ e => if c then stallNow s.pbc.timing.stallLimit s.now e else e) n

theorem stallPart_cp : (stallPart c s).cp =
    { s.cp with
      flags := if c && s.pbc.roster.any fun kv => stalls s.pbc.timing.stallLimit kv.2 then s.cp.flags ||| 2 else s.cp.flags } := by
  cases c
  · rfl
  · have e : applyStallLimit s = setFlagIf (s.pbc.roster.any fun kv => stalls s.pbc.timing.stallLimit kv.2) .bus
        { s with pbc := (applyStallLimit s).pbc } := by
      unfold applyStallLimit; dsimp only; rw [setFlagIf_pbc]; rfl
    change (applyStallLimit s).cp = _
    rw [e]
    cases s.pbc.roster.any fun kv => stalls s.pbc.timing.stallLimit kv.2 <;> rfl

theorem stallPart_frame : OnlyChanges [.cp, .pbc] s (stallPart c s) := by
  unfold stallPart; split
  · exact applyStallLimit_frame s
  · exact .refl _ _

end

theorem endAbsence_eq (n : Nat) (s : State) : endAbsence n s =
    if (s.pbc.entry n).any (expires s.now s.pbc.timing.release) then removeEntry n s else s := by
  unfold endAbsence Pbc.presence
  rcases s.pbc.entry n with _ | ⟨i, ⟨link, stall, ask⟩ | since | _⟩ <;> rfl

/-- What the release of the expired entries of a list of IDs leaves (R26). -/
structure Released (s t : State) (l : List Nat) : Prop where
  entries : ∀ m, t.pbc.entry m = if m ∈ l then none else s.pbc.entry m
  pbc : t.pbc = { s.pbc with roster := t.pbc.roster }
  reports : t.reports = { s.reports with rcReleases := s.reports.rcReleases ++ l }
  cp : t.cp = { s.cp with flags := if l = [] then s.cp.flags else s.cp.flags ||| 1 }
  now : t.now = s.now

theorem Released.refl (s : State) : Released s s [] := ⟨fun m => by simp, rfl, by simp, by simp, rfl⟩

theorem released_removeEntry (n : Nat) (s : State) : Released s (removeEntry n s) [n] :=
  ⟨fun m => by rw [show (removeEntry n s).pbc.entry m = _ from tfind_tdel _ _ _]; simp; rfl, rfl, rfl, rfl, rfl⟩

theorem Released.trans {s t u : State} {l m : List Nat} (h : Released s t l) (k : Released t u m) : Released s u (l ++ m) where
  entries := fun x => by
    rw [k.entries, h.entries]
    by_cases hl : x ∈ l <;> by_cases hm : x ∈ m <;> simp [hl, hm]
  pbc := by rw [k.pbc, h.pbc]
  reports := by rw [k.reports, h.reports]; simp
  cp := by
    rw [k.cp, h.cp]
    rcases l with _ | ⟨a, l⟩ <;> rcases m with _ | ⟨b, m⟩ <;> simp [BitVec.or_assoc]
  now := k.now.trans h.now

theorem absences_release (l : List Nat) (s : State) (h : l.Nodup) :
    Released s (l.foldl (fun t n => endAbsence n t) s)
      (l.filter fun n => (s.pbc.entry n).any (expires s.now s.pbc.timing.release)) := by
  induction l generalizing s with
  | nil => exact .refl s
  | cons n l ih =>
    obtain ⟨hn, hl⟩ := List.nodup_cons.1 h
    have h1 : Released s (endAbsence n s) (if (s.pbc.entry n).any (expires s.now s.pbc.timing.release) then [n] else []) := by
      rw [endAbsence_eq]; split
      · exact released_removeEntry n s
      · exact .refl s
    have h2 : (l.filter fun m => ((endAbsence n s).pbc.entry m).any (expires (endAbsence n s).now (endAbsence n s).pbc.timing.release))
        = l.filter fun m => (s.pbc.entry m).any (expires s.now s.pbc.timing.release) :=
      List.filter_congr fun m hm => by
        have hne : m ≠ n := fun e => hn (e ▸ hm)
        have he : (endAbsence n s).pbc.entry m = s.pbc.entry m := by
          rw [h1.entries]; split <;> simp_all
        rw [he, h1.now, h1.pbc]
    have h3 := h1.trans (ih (endAbsence n s) hl)
    rw [h2] at h3
    rw [List.foldl_cons, List.filter_cons]
    split at h3
    next hx => rwa [if_pos hx]
    next hx => rwa [if_neg hx]

theorem absencePart_releases (c : Bool) {s : State} (h : tsorted s.pbc.roster = true) :
    Released s (absencePart c s)
      (if c then (s.pbc.roster.filter fun kv => expires s.now s.pbc.timing.release kv.2).map (·.1) else []) := by
  cases c
  · exact .refl s
  · have hn : (s.pbc.roster.map (·.1)).Nodup := (keys_ascend h).imp Nat.ne_of_lt
    have e : (s.pbc.roster.map (·.1)).filter (fun n => (s.pbc.entry n).any (expires s.now s.pbc.timing.release))
        = (s.pbc.roster.filter fun kv => expires s.now s.pbc.timing.release kv.2).map (·.1) := by
      rw [List.filter_map]
      refine congrArg (List.map _) (List.filter_congr fun kv hkv => ?_)
      have : s.pbc.entry kv.1 = some kv.2 := tfind_of_mem h hkv
      simp [this]
    have := absences_release _ s hn
    rwa [e] at this

/-- Whatever the roster's form, the release of the expired entries leaves every other one. -/
theorem absences_entry (l : List Nat) (s : State) (m : Nat) :
    (l.foldl (fun t n => endAbsence n t) s).pbc.entry m =
        (if m ∈ l ∧ (s.pbc.entry m).any (expires s.now s.pbc.timing.release) = true then none else s.pbc.entry m)
    ∧ (l.foldl (fun t n => endAbsence n t) s).pbc = { s.pbc with roster := (l.foldl (fun t n => endAbsence n t) s).pbc.roster }
    ∧ (l.foldl (fun t n => endAbsence n t) s).now = s.now := by
  induction l generalizing s with
  | nil => exact ⟨by simp, rfl, rfl⟩
  | cons n l ih =>
    obtain ⟨he, hp, hn⟩ := ih (endAbsence n s)
    have h1 : Released s (endAbsence n s) (if (s.pbc.entry n).any (expires s.now s.pbc.timing.release) then [n] else []) := by
      rw [endAbsence_eq]; split
      · exact released_removeEntry n s
      · exact .refl s
    rw [List.foldl_cons]
    refine ⟨?_, hp.trans (by rw [h1.pbc]), hn.trans h1.now⟩
    have ht : (endAbsence n s).pbc.timing = s.pbc.timing := by rw [h1.pbc]
    rw [he, h1.entries, h1.now, ht]
    by_cases hm : m = n
    · subst hm
      by_cases hx : (s.pbc.entry m).any (expires s.now s.pbc.timing.release) = true <;> simp [hx]
    · by_cases hx : (s.pbc.entry n).any (expires s.now s.pbc.timing.release) = true <;> simp [hx, hm]

theorem absencePart_entry (c : Bool) (s : State) (m : Nat) : (absencePart c s).pbc.entry m =
    if c = true ∧ (s.pbc.entry m).any (expires s.now s.pbc.timing.release) = true then none else s.pbc.entry m := by
  cases c
  · simp [absencePart]
  · refine (absences_entry _ s m).1.trans ?_
    by_cases hx : (s.pbc.entry m).any (expires s.now s.pbc.timing.release) = true
    · have hm : m ∈ s.pbc.roster.map (·.1) := by
        rcases he : s.pbc.entry m with _ | e
        · simp [he] at hx
        · exact List.mem_map_of_mem (mem_of_tfind he)
      simp [hx, hm]
    · simp [hx]

theorem absencePart_pbc (c : Bool) (s : State) : (absencePart c s).pbc = { s.pbc with roster := (absencePart c s).pbc.roster }
    ∧ (absencePart c s).now = s.now := by
  cases c
  · exact ⟨rfl, rfl⟩
  · exact (absences_entry _ s 0).2

theorem silencePart_keeps (c : Bool) (s : State) : (silencePart c s).pbc.roster = s.pbc.roster
    ∧ (silencePart c s).pbc.timing = s.pbc.timing ∧ OnlyChanges [.pbc] s (silencePart c s) := by
  unfold silencePart endSilence
  split
  · split
    · exact ⟨rfl, rfl, startSweep_frame s⟩
    · exact ⟨rfl, rfl, .refl _ _⟩
  · exact ⟨rfl, rfl, .refl _ _⟩

end Sys2Proof.Machine
end


section
/-! SUPPORT. BUS-TIMING, SWEEP-NOW and FORGET (O23). -/

namespace Sys2Proof.Machine

theorem clampN_eq_max_min {lo hi : Nat} (h : lo ≤ hi) (n : Nat) : clampN lo hi n = max lo (min hi n) := by
  unfold clampN; split
  · omega
  · split <;> omega

theorem update_eq_clamped (t : BusTimings) (fs : List (Option Nat)) :
    let clamped (i lo hi old : Nat) : Nat := ((fieldAt fs i).map fun v => max lo (min hi v)).getD old
    t.update fs =
      { replyWindow := clamped 0 50 1000 t.replyWindow, silence := clamped 1 1 50 t.silence
        turnBudget := clamped 2 1 8 t.turnBudget, census := clamped 3 100 5000 t.census
        stallLimit := clamped 4 1 255 t.stallLimit, release := clamped 5 0 255 t.release } := by
  intro clamped
  have e (i lo hi old : Nat) (h : lo ≤ hi) : ((fieldAt fs i).map (clampN lo hi)).getD old = clamped i lo hi old := by
    simp only [clamped, funext (clampN_eq_max_min h)]
  simp only [BusTimings.update, e _ 50 1000 _ (by decide), e _ 1 50 _ (by decide), e _ 1 8 _ (by decide), e _ 100 5000 _ (by decide),
    e _ 1 255 _ (by decide), e _ 0 255 _ (by decide)]

section
variable {s u : State} {fs : List (Option Nat)}

/-- The entry of a node after BUS-TIMING. -/
theorem applyBusTiming_entry {new : BusTimings} (hnew : s.pbc.timing.update fs = new) (n : Nat) : (applyBusTiming fs s).pbc.entry n =
    if (fieldAt fs 5).isSome = true ∧ (s.pbc.entry n).any (expires s.now new.release) = true then none
    else (s.pbc.entry n).map fun e => if (fieldAt fs 4).isSome then stallNow new.stallLimit s.now e else e := by
  rw [applyBusTiming_parts, hnew]
  generalize h0 : ({ s with pbc := { s.pbc with timing := new } } : State) = v
  have hv : v.pbc.entry n = s.pbc.entry n ∧ v.pbc.timing = new ∧ v.now = s.now := by rw [← h0]; exact ⟨rfl, rfl, rfl⟩
  obtain ⟨hentry, htiming, hnow⟩ := hv
  have h3 : (silencePart (fieldAt fs 1).isSome (absencePart (fieldAt fs 5).isSome (stallPart (fieldAt fs 4).isSome v))).pbc.entry n
      = (absencePart (fieldAt fs 5).isSome (stallPart (fieldAt fs 4).isSome v)).pbc.entry n := by
    unfold Pbc.entry; rw [(silencePart_keeps _ _).1]
  have h1 : (stallPart (fieldAt fs 4).isSome v).pbc.timing = new := by rw [stallPart_pbc, htiming]
  have h2 : (stallPart (fieldAt fs 4).isSome v).now = s.now := (stallPart_frame _ v .now (by decide)).trans hnow
  rw [h3, absencePart_entry, h1, h2, stallPart_entry, hentry, htiming, hnow]
  have hx : ((s.pbc.entry n).map fun e => if (fieldAt fs 4).isSome = true then stallNow new.stallLimit s.now e else e).any
      (expires s.now new.release) = (s.pbc.entry n).any (expires s.now new.release) := by
    rcases s.pbc.entry n with _ | e
    · rfl
    · simp only [Option.map_some, Option.any_some]
      split
      · exact expires_stallNow _ _ _ _ _
      · rfl
  rw [hx]

theorem applyBusTiming_timing : (applyBusTiming fs s).pbc.timing = s.pbc.timing.update fs := by
  rw [applyBusTiming_parts, (silencePart_keeps _ _).2.1, (absencePart_pbc _ _).1, stallPart_pbc]

/-- The notifications and the flags of BUS-TIMING. -/
theorem applyBusTiming_reports (h : tsorted s.pbc.roster = true) :
    let new := s.pbc.timing.update fs
    let stalled := (fieldAt fs 4).isSome && s.pbc.roster.any fun kv => stalls new.stallLimit kv.2
    let expired := if (fieldAt fs 5).isSome then (s.pbc.roster.filter fun kv => expires s.now new.release kv.2).map (·.1) else []
    let flags := if stalled then s.cp.flags ||| 2 else s.cp.flags
    (applyBusTiming fs s).reports = { s.reports with rcReleases := s.reports.rcReleases ++ expired }
    ∧ (applyBusTiming fs s).cp = { s.cp with flags := if expired = [] then flags else flags ||| 1 } := by
  intro new stalled expired flags
  rw [applyBusTiming_parts]
  generalize h0 : ({ s with pbc := { s.pbc with timing := s.pbc.timing.update fs } } : State) = v
  have hv : v.pbc.roster = s.pbc.roster ∧ v.pbc.timing = new ∧ v.now = s.now ∧ v.cp = s.cp ∧ v.reports = s.reports := by
    rw [← h0]; exact ⟨rfl, rfl, rfl, rfl, rfl⟩
  obtain ⟨hroster, htiming, hnow, hcp, hreports⟩ := hv
  have hf := stallPart_frame (fieldAt fs 4).isSome v
  have hsorted : tsorted (stallPart (fieldAt fs 4).isSome v).pbc.roster = true := by
    rw [stallPart_roster, hroster]
    exact tsorted_map (fun kv => if (fieldAt fs 4).isSome = true then stallNow v.pbc.timing.stallLimit v.now kv.2 else kv.2) h
  have hrel := absencePart_releases (fieldAt fs 5).isSome hsorted
  have h1 : (stallPart (fieldAt fs 4).isSome v).pbc.timing = new := by rw [stallPart_pbc, htiming]
  have h2 : (stallPart (fieldAt fs 4).isSome v).now = s.now := (hf .now (by decide)).trans hnow
  have hexp : ((stallPart (fieldAt fs 4).isSome v).pbc.roster.filter fun kv => expires s.now new.release kv.2).map (·.1)
      = (s.pbc.roster.filter fun kv => expires s.now new.release kv.2).map (·.1) := by
    rw [stallPart_roster, hroster, List.filter_map, List.map_map]
    change List.map (fun kv : Nat × RosterEntry => kv.1) _ = _
    refine congrArg (List.map fun kv : Nat × RosterEntry => kv.1) (List.filter_congr fun kv _ => ?_)
    simp only [Function.comp]
    split
    · exact expires_stallNow _ _ _ _ _
    · rfl
  rw [h1, h2, hexp] at hrel
  have hs := (silencePart_keeps (fieldAt fs 1).isSome (absencePart (fieldAt fs 5).isSome (stallPart (fieldAt fs 4).isSome v))).2.2
  have hc : (stallPart (fieldAt fs 4).isSome v).cp = { s.cp with flags := flags } := by
    rw [stallPart_cp, hroster, htiming, hcp]
  refine ⟨(hs .reports (by decide)).trans ?_, (hs .cp (by decide)).trans ?_⟩
  · rw [hrel.reports, show (stallPart (fieldAt fs 4).isSome v).reports = s.reports from (hf .reports (by decide)).trans hreports]
  · rw [hrel.cp, hc]

end

theorem stalls_any {p : Pbc} (h : tsorted p.roster = true) (limit : Nat) : (p.roster.any fun kv => stalls limit kv.2) = true ↔
    ∃ n link stall, p.presence n = some (.member link stall none) ∧ limit ≤ stall := by
  rw [List.any_eq_true]
  constructor
  · rintro ⟨⟨n, i, pr⟩, hm, hs⟩
    have he : p.entry n = some ⟨i, pr⟩ := tfind_of_mem h hm
    rcases pr with ⟨link, stall, _ | ask⟩ | since | _
    · exact ⟨n, link, stall, by simp [Pbc.presence, he], of_decide_eq_true hs⟩
    all_goals cases hs
  · rintro ⟨n, link, stall, hp, hs⟩
    obtain ⟨e, he, hp⟩ := Option.map_eq_some_iff.1 hp
    exact ⟨(n, e), mem_of_tfind he, by simp only [stalls, hp]; exact decide_eq_true hs⟩

/-- A silence interval that has passed starts the sweep (R15). -/
theorem silencePart_sweeps {s : State} {t : Millis} (hm : s.pbc.node = .member) (hh : s.pbc.turn.holds = false)
    (ht : s.pbc.silentSince = some t) (hp : s.pbc.timing.silence ≤ (s.now - t).toNat) : (silencePart true s).pbc.node = .sweeping := by
  have : endSilence s = startSweep s := if_pos ⟨hm, by simp [hh], by simp only [ht, Option.any_some]; exact decide_eq_true hp⟩
  change (endSilence s).pbc.node = _
  rw [this]; rfl

theorem applyBusTiming_sweeps {s : State} {t : Millis} {fs : List (Option Nat)} (hm : s.pbc.node = .member)
    (hh : s.pbc.turn.holds = false) (ht : s.pbc.silentSince = some t) (h1 : (fieldAt fs 1).isSome = true)
    (hp : (s.pbc.timing.update fs).silence ≤ (s.now - t).toNat) : (applyBusTiming fs s).pbc.node = .sweeping := by
  rw [applyBusTiming_parts, h1]
  generalize h0 : ({ s with pbc := { s.pbc with timing := s.pbc.timing.update fs } } : State) = v
  have hv : v.pbc.node = .member ∧ v.pbc.turn.holds = false ∧ v.pbc.silentSince = some t ∧ v.now = s.now
      ∧ v.pbc.timing = s.pbc.timing.update fs := by rw [← h0]; exact ⟨hm, hh, ht, rfl, rfl⟩
  obtain ⟨vnode, vholds, vsilent, vnow, vtiming⟩ := hv
  obtain ⟨ha, hn⟩ := absencePart_pbc (fieldAt fs 5).isSome (stallPart (fieldAt fs 4).isSome v)
  have hq := stallPart_pbc (fieldAt fs 4).isSome v
  have hs : (stallPart (fieldAt fs 4).isSome v).now = v.now := stallPart_frame _ v .now (by decide)
  exact silencePart_sweeps (t := t) (by rw [ha, hq, vnode]) (by rw [ha, hq, vholds]) (by rw [ha, hq, vsilent])
    (by rw [ha, hq, hn, hs, vnow, vtiming]; exact hp)

theorem busTiming_replies {tag : Byte} {body : List Byte} {fs : List (Option Nat)} {s : State} (h : Admitted .config tag body s)
    (hf : presence [2, 2, 1, 2, 1, 1] body = some fs) :
    RepliesIn (.busTiming tag body) s tag .busTiming .ok [] (applyBusTiming fs (taken tag 0x03 s)) :=
  repliesIn_of (k := .busTiming) ownBusTiming rfl h (by unfold ownBusTiming; rw [hf]; rfl)

/-- Settles O23: the four parts of BUS-TIMING in turn, SWEEP-NOW and FORGET by their checks. -/
theorem busTimingSweepNowAndForget : Obligations.BusTimingSweepNowAndForget := by
  refine ⟨fun tag body fs s h hf => ?_, fun tag n s => ⟨fun h => ?_, fun h h1 h2 => ?_⟩⟩
  · intro clamped old
    have htiming : (applyBusTiming fs (taken tag 0x03 s)).pbc.timing = s.pbc.timing.update fs := applyBusTiming_timing
    have hentry (n : Nat) := applyBusTiming_entry (fs := fs) (s := taken tag 0x03 s) htiming.symm n
    have hpresence {n : Nat} {p : Presence} (hp : s.pbc.presence n = some p) :
        ∃ i, (taken tag 0x03 s).pbc.entry n = some ⟨i, p⟩ := by
      obtain ⟨e, he, rfl⟩ := Option.map_eq_some_iff.1 hp
      exact ⟨e.info, he⟩
    refine ⟨_, busTiming_replies h hf,
      ((taken_frame tag 0x03 s).mono (by decide)).trans (applyBusTiming_frame fs _), htiming.trans (update_eq_clamped _ fs),
      fun h1 h4 h5 => ?_, fun ht => ?_, fun n link stall hp => ?_, fun n link stall ask hp => ?_, fun n since hp h5 hd => ?_,
      fun t hm hh ht h1 hd => ?_⟩
    · rw [htiming, applyBusTiming_parts, h1, h4, h5]; rfl
    · intro stalled expired
      obtain ⟨hreports, hcp⟩ := applyBusTiming_reports (s := taken tag 0x03 s) (fs := fs) ht.sorted
      generalize hb : ((fieldAt fs 4).isSome && (taken tag 0x03 s).pbc.roster.any fun kv =>
        stalls ((taken tag 0x03 s).pbc.timing.update fs).stallLimit kv.2) = b at hcp
      have hst : stalled ↔ b = true := by
        rw [← hb, Bool.and_eq_true, stalls_any (p := (taken tag 0x03 s).pbc) ht.sorted,
          show ((taken tag 0x03 s).pbc.timing.update fs) = _ from htiming.symm]; rfl
      have hex : expired = if (fieldAt fs 5).isSome
          then (s.pbc.roster.filter fun kv => expires s.now (s.pbc.timing.update fs).release kv.2).map (·.1) else [] := by
        simp only [expired, htiming]
        cases fieldAt fs 5 <;> rfl
      have hflags : (applyBusTiming fs (taken tag 0x03 s)).cp.flags =
          if expired = [] then (if b then s.cp.flags ||| 2 else s.cp.flags)
          else (if b then s.cp.flags ||| 2 else s.cp.flags) ||| 1 := by
        rw [hcp, hex]; rfl
      refine ⟨by rw [hreports, hex]; rfl, by rw [hcp], fun h1 h2 => ?_, fun h1 h2 => ?_, fun h1 h2 => ?_, fun h1 h2 => ?_⟩
      · rw [hflags, if_pos h2, if_pos (hst.1 h1)]
      · rw [hflags, if_pos h2, if_neg (mt hst.2 h1)]
      · rw [hflags, if_neg h2, if_pos (hst.1 h1)]
      · rw [hflags, if_neg h2, if_neg (mt hst.2 h1)]
    · obtain ⟨i, he⟩ := hpresence hp
      unfold Pbc.presence
      rw [hentry, he, if_neg (by simp [expires])]
      generalize (applyBusTiming fs (taken tag 0x03 s)).pbc.timing.stallLimit = limit
      by_cases h4 : (fieldAt fs 4).isSome = true <;> by_cases hl : limit ≤ stall <;> simp [h4, hl, stallNow, taken]
    · obtain ⟨i, he⟩ := hpresence hp
      unfold Pbc.presence
      rw [hentry, he, if_neg (by simp [expires])]
      by_cases h4 : (fieldAt fs 4).isSome = true <;> simp [h4, stallNow]
    · obtain ⟨i, he⟩ := hpresence hp
      rw [hentry, he, if_pos ⟨h5, decide_eq_true hd⟩]
    · rw [htiming] at hd
      exact applyBusTiming_sweeps (s := taken tag 0x03 s) hm hh ht h1 hd
  · intro u
    refine ⟨fun hm => refuses_of (k := .sweepNow) (noFields ownSweepNow) rfl h (if_pos hm), fun hm => ?_⟩
    exact repliesIn_of (k := .sweepNow) (noFields ownSweepNow) rfl h (if_neg (not_not.2 hm))
  · have hn : (!nodeByte n) = false := by rw [nodeByte_of h1 h2]; rfl
    have own {a : Answer} (ha : (match s.pbc.entry n.toNat with
        | none => .refuse .state (taken tag 0x05 s)
        | some e => if e.isMember then .refuse .state (taken tag 0x05 s) else .now .ok [] (removeEntry n.toNat (taken tag 0x05 s))) = a) :
        ownForget [n] (taken tag 0x05 s) = a := by
      refine Eq.trans ?_ ha
      unfold ownForget; simp only [hn]; rfl
    refine ⟨fun he => refuses_of (k := .forget) ownForget rfl h (own (by rw [he]; rfl)),
      fun e he hm => refuses_of (k := .forget) ownForget rfl h (own (by simp only [he, hm]; rfl)),
      fun e he hm => ⟨_, repliesIn_of (k := .forget) ownForget rfl h (own (by simp only [he, hm]; rfl)),
        ((taken_frame tag 0x05 s).mono (by decide)).trans (removeEntry_frame _ _), rfl, rfl, fun m => tfind_tdel _ _ _, rfl⟩⟩

end Sys2Proof.Machine
end


section
/-! SUPPORT. What a character and a frame of the Panel Bus do before they are answered (O24 to O30). -/

namespace Sys2Proof.Machine

/-- The reservation after a character: its window has heard one. -/
def heardReserved (p : Pbc) : Option (Nat × RoomStage) :=
  p.reserved.map fun (r : Nat × RoomStage) => if r.2 = .window then (r.1, .heard) else r

/-- The hub waits in the window of its PASS. -/
def passing (p : Pbc) : Prop := p.windowOpen = true ∧ ∃ n a, p.work = .pass n a

/-- The hub hears activity, but not in a window of a PASS or a probe. -/
def heardPlainly (now : Millis) (p : Pbc) : Pbc :=
  if p.node = .member ∧ p.turn.holds = false then { p with silentSince := some now } else p

section
variable {s : State}

/-! ### Activity (R2, R13, R15, R22) -/

theorem noteActivity_asleep (h : s.pbc.node = .asleep) : noteActivity s = s := by
  unfold noteActivity; simp only [h]

theorem noteActivity_noting (h : s.pbc.node = .listening ∨ s.pbc.node = .conflict) :
    noteActivity s = { s with pbc := { s.pbc with activitySeen := true, reserved := heardReserved s.pbc } } := by
  unfold noteActivity
  rcases h with h | h <;> simp only [h] <;> rfl

theorem noteActivity_checking (h : s.pbc.node = .checking) :
    noteActivity s = { s with pbc := { s.pbc with reserved := heardReserved s.pbc } } := by
  unfold noteActivity; simp only [h]; rfl

theorem noteActivity_passing (h : s.pbc.node = .member ∨ s.pbc.node = .sweeping) (hp : passing s.pbc) : noteActivity s =
    { s with
      pbc := { s.pbc with
        work := .idle, windowOpen := false, turn := { s.pbc.turn with holds := false }, silentSince := some s.now
        reserved := heardReserved s.pbc } } := by
  obtain ⟨ho, n, a, hw⟩ := hp
  unfold noteActivity
  rcases h with h | h <;> simp only [h, ho, hw] <;> rfl

theorem noteActivity_probing (h : s.pbc.node = .member ∨ s.pbc.node = .sweeping) {c : Bool} {n : Nat} {b : Bool}
    (ho : s.pbc.windowOpen = true) (hw : s.pbc.work = .probe c n b) :
    noteActivity s = { s with pbc := { s.pbc with work := .probe c n true, reserved := heardReserved s.pbc } } := by
  unfold noteActivity
  rcases h with h | h <;> simp only [h, ho, hw] <;> rfl

theorem noteActivity_plain (h : s.pbc.node = .member ∨ s.pbc.node = .sweeping) (hp : ¬ passing s.pbc) (hq : probeOpen s.pbc = false) :
    noteActivity s = { s with pbc := { heardPlainly s.now s.pbc with reserved := heardReserved s.pbc } } := by
  have e : noteActivity s = if s.pbc.node = .member ∧ (!s.pbc.turn.holds) = true
      then { s with pbc := { s.pbc with reserved := heardReserved s.pbc, silentSince := some s.now } }
      else { s with pbc := { s.pbc with reserved := heardReserved s.pbc } } := by
    unfold noteActivity
    rcases h with h | h <;> simp only [h] <;> split <;> first | rfl | skip
    all_goals simp_all [passing, probeOpen]
  unfold heardPlainly
  by_cases hm : s.pbc.node = .member ∧ s.pbc.turn.holds = false
  · rw [e, if_pos hm, if_pos (by simpa using hm)]
  · rw [e, if_neg hm, if_neg (by simpa using hm)]

/-! ### Clean frames (R2, R9) -/

theorem cleanFrame_eq (ids : List Byte) (h : s.pbc.node ≠ .checking) : cleanFrame ids s = noteActivity s := by
  unfold cleanFrame
  split
  next ha => exact (noteActivity_asleep ha).symm
  next => exact if_neg fun hn => h ((noteActivity_node s).symm.trans hn.1)

theorem probeOpen_noteActivity (s : State) : probeOpen (noteActivity s).pbc = probeOpen s.pbc := by
  unfold noteActivity
  dsimp only
  split
  · rfl
  · rfl
  · rfl
  · rfl
  all_goals
    split
    next hw ho => simp [probeOpen, hw]
    next hw ho => simp [probeOpen, hw]
    next => split <;> rfl

theorem answerProbe_eq (h : probeOpen s.pbc = false) : answerProbe s = s := if_neg (by simp [h])

theorem answerProbe_closed (h : s.pbc.windowOpen = false) : answerProbe s = s := answerProbe_eq (by simp [probeOpen, h])

theorem answerProbe_open (h : probeOpen s.pbc = true) : answerProbe s = endProbe .contested s := if_pos h

/-! ### The reply window is closed where the hub goes on (R11, R17) -/

theorem passOn_windowOpen : (passOn s).pbc.windowOpen = false := by
  unfold passOn; split <;> rfl

theorem nextExchange_windowOpen : (nextExchange s).pbc.windowOpen = false := by
  unfold nextExchange; split
  · split
    · exact passOn_windowOpen
    · rfl
  · exact passOn_windowOpen

theorem turnSequence_windowOpen : (turnSequence s).pbc.windowOpen = false := by
  unfold turnSequence; split
  · dsimp only; split
    · exact nextExchange_windowOpen
    · rfl
  · exact nextExchange_windowOpen

theorem beginTurn_windowOpen : (beginTurn s).pbc.windowOpen = false := by
  unfold beginTurn; dsimp only; split
  · rfl
  · exact turnSequence_windowOpen

end

/-- A command that ends in its block's operation. -/
theorem endsIn_of {i : Instr} {s t u : State} (hi : exec i s = finish t) (h : t = u) : EndsIn i s u := by rw [← h]; exact hi

end Sys2Proof.Machine
end


section
/-! SUPPORT. Activity and CHECKING by the state of the node (O24). -/

namespace Sys2Proof.Machine

theorem bump_eq (n : Nat) : bump n = if n < 65535 then n + 1 else n := by
  obtain ⟨h1, h2⟩ := bump_spec n
  split
  next h => exact h1 h
  next h => exact h2 (Nat.not_lt.1 h)

theorem noteActivity_badFrames (s : State) : (noteActivity s).pbc.badFrames = s.pbc.badFrames := by
  unfold noteActivity
  dsimp only
  split
  · rfl
  · rfl
  · rfl
  · rfl
  all_goals
    split
    · rfl
    · rfl
    · split <;> rfl

section
variable {s : State}

/-- A frame that is not clean, off the bus. -/
theorem badPbFrame_asleep (h : s.pbc.node = .asleep) : badPbFrame s = s := if_pos h

theorem badPbFrame_awake (h : s.pbc.node ≠ .asleep) : badPbFrame s =
    { noteActivity s with
      pbc := { (noteActivity s).pbc with
        reserved := none, badFrames := if s.pbc.badFrames < 65535 then s.pbc.badFrames + 1 else s.pbc.badFrames } } := by
  rw [← bump_eq, ← noteActivity_badFrames]
  exact if_neg h

/-! ### Frames in CHECKING (R9) -/

theorem cleanFrame_conflict {ids : List Byte} (h : s.pbc.node = .checking) (hi : ∃ x ∈ ids, x.toNat = s.pbc.id) :
    lapseReservation (cleanFrame ids s) =
      { s with
        cp := { s.cp with flags := s.cp.flags ||| 2 }
        pbc := { s.pbc with node := .conflict, checkingExpiry := none, reserved := none } } := by
  have ha : (ids.any fun x => x.toNat == s.pbc.id) = true := by simpa using hi
  unfold cleanFrame examine
  rw [if_neg (by simp [h]), noteActivity_checking h, if_pos ⟨h, ha⟩]
  rfl

theorem cleanFrame_noConflict {ids : List Byte} (h : s.pbc.node = .checking) (hi : ∀ x ∈ ids, x.toNat ≠ s.pbc.id) :
    lapseReservation (cleanFrame ids s) = { s with pbc := { s.pbc with reserved := none } } := by
  have ha : ¬ (ids.any fun x => x.toNat == s.pbc.id) = true := by simpa using hi
  unfold cleanFrame examine
  rw [if_neg (by simp [h]), noteActivity_checking h, if_neg fun hn => ha hn.2]
  rfl

/-- In CHECKING a clean frame is examined, and nothing else is done with it. -/
structure OnlyExamined (t : State) : Prop where
  node : t.pbc.node ≠ .member
  closed : t.pbc.windowOpen = false

theorem onlyExamined (ids : List Byte) (h : s.pbc.node = .checking) (hw : s.pbc.windowOpen = false) :
    OnlyExamined (lapseReservation (cleanFrame ids s)) ∧ OnlyExamined (cleanFrame ids s) := by
  unfold cleanFrame examine
  rw [if_neg (by simp [h]), noteActivity_checking h]
  split
  · exact ⟨⟨NodeState.noConfusion, hw⟩, NodeState.noConfusion, hw⟩
  · have hn : s.pbc.node ≠ .member := by simp [h]
    exact ⟨⟨hn, hw⟩, hn, hw⟩

theorem hearPass_checking {t : Byte} (h : s.pbc.node = .checking) (hw : s.pbc.windowOpen = false) :
    hearPass t s = lapseReservation (cleanFrame [t] s) := by
  unfold hearPass
  simp only [h]
  exact answerProbe_closed (onlyExamined [t] h hw).1.closed

theorem hearAsk_checking {f t : Byte} (h : s.pbc.node = .checking) (hw : s.pbc.windowOpen = false) :
    hearAsk f t s = lapseReservation (cleanFrame [f, t] s) := by
  obtain ⟨⟨hn, hc⟩, -⟩ := onlyExamined [f, t] h hw
  unfold hearAsk
  dsimp only
  rw [if_neg fun ha => hn ha.1]
  exact answerProbe_closed hc

theorem hearCargo_checking {f t q : Byte} {p : List Byte} (h : s.pbc.node = .checking) (hw : s.pbc.windowOpen = false) :
    hearCargo f t q p s = lapseReservation (cleanFrame [f, t] s) := by
  obtain ⟨⟨-, hc⟩, hn, -⟩ := onlyExamined [f, t] h hw
  unfold hearCargo
  dsimp only
  rw [if_neg fun ha => hn ha.1]
  exact answerProbe_closed hc

theorem answers_closed {p : Pbc} (h : p.windowOpen = false) (n : Nat) (f t : Byte) : answers p n f t = false := by simp [answers, h]

/-- A clean ROOM that no exchange awaits. -/
theorem hearRoom_unasked {f t : Byte} {u : State} (hu : lapseReservation (cleanFrame [f, t] s) = u)
    (h : ∀ p, u.pbc.work = .ask p → answers u.pbc p f t = false) : hearRoom f t s = answerProbe u := by
  unfold hearRoom
  rw [hu]
  dsimp only
  split
  next p hp => rw [if_neg (by simp [h p hp])]
  next => rfl

/-- A clean NOROOM that no exchange awaits. -/
theorem hearNoroom_unasked {f t : Byte} {u : State} (hu : lapseReservation (cleanFrame [f, t] s) = u)
    (h : ∀ p, u.pbc.work = .ask p → answers u.pbc p f t = false) : hearNoroom f t s = answerProbe u := by
  unfold hearNoroom
  rw [hu]
  dsimp only
  split
  next p hp => rw [if_neg (by simp [h p hp])]
  next => rfl

/-- A clean GOT that no exchange awaits. -/
theorem hearGot_unasked {f t : Byte} {u : State} (hu : lapseReservation (cleanFrame [f, t] s) = u)
    (h : ∀ p l, u.pbc.work = .cargo p l → answers u.pbc p f t = false) : hearGot f t s = answerProbe u := by
  unfold hearGot
  rw [hu]
  dsimp only
  split
  next p l hp => rw [if_neg (by simp [h p l hp])]
  next => rfl

theorem hearHere_closed {f k b : Byte} {unit : BitVec 32} (hw : probeOpen (lapseReservation (cleanFrame [f] s)).pbc = false) :
    hearHere f k unit b s = lapseReservation (cleanFrame [f] s) := by
  unfold hearHere
  dsimp only
  split
  next hp ho =>
    have : probeOpen (lapseReservation (cleanFrame [f] s)).pbc = true := by unfold probeOpen; rw [hp, ho]; rfl
    exact absurd (this.symm.trans hw) (by decide)
  next => rfl

theorem probeOpen_closed {p : Pbc} (h : p.windowOpen = false) : probeOpen p = false := by simp [probeOpen, h]

/-! ### The commands of clean frames -/

theorem passReceived_endsIn {t : Byte} {u : State} (ht : nodeByte t = true) (h : hearPass t s = u) : EndsIn (.passReceived t) s u :=
  endsIn_of rfl (by rw [if_pos ht, h])

theorem askReceived_endsIn {f t : Byte} {u : State} (hf : nodeByte f = true) (ht : nodeByte t = true) (h : hearAsk f t s = u) :
    EndsIn (.askReceived f t) s u := endsIn_of rfl (by rw [hf, ht]; exact h)

theorem roomReceived_endsIn {f t : Byte} {u : State} (hf : nodeByte f = true) (ht : nodeByte t = true) (h : hearRoom f t s = u) :
    EndsIn (.roomReceived f t) s u := endsIn_of rfl (by rw [hf, ht]; exact h)

theorem noroomReceived_endsIn {f t : Byte} {u : State} (hf : nodeByte f = true) (ht : nodeByte t = true) (h : hearNoroom f t s = u) :
    EndsIn (.noroomReceived f t) s u := endsIn_of rfl (by rw [hf, ht]; exact h)

theorem gotReceived_endsIn {f t : Byte} {u : State} (hf : nodeByte f = true) (ht : nodeByte t = true) (h : hearGot f t s = u) :
    EndsIn (.gotReceived f t) s u := endsIn_of rfl (by rw [hf, ht]; exact h)

theorem cargoReceived_endsIn {f t q : Byte} {p : List Byte} {u : State} (hc : cargoClean f t p = true) (h : hearCargo f t q p s = u) :
    EndsIn (.cargoReceived f t q p) s u := endsIn_of rfl (by rw [if_pos hc, h])

theorem hereReceived_endsIn {f k b : Byte} {unit : BitVec 32} {u : State} (hc : hereClean f k b = true) (h : hearHere f k unit b s = u) :
    EndsIn (.hereReceived f k unit b) s u := endsIn_of rfl (by rw [if_pos hc, h])

/-- A clean frame of another kind. -/
theorem otherReceived_endsIn {o : BusOther} {u : State} (ho : o.clean = true) (ha : s.pbc.node ≠ .asleep)
    (h : answerProbe (lapseReservation (cleanFrame (busOtherIds o) s)) = u) : EndsIn (.activity (some o)) s u :=
  endsIn_of rfl (by unfold hearActivity; simp only [ho, if_neg ha]; exact h)

end

/-- In CHECKING each clean frame is examined by its source and destination fields. -/
theorem checking_endsIn {i : Instr} {ids : List Byte} {s : State} (hi : i.wellFormed = true) (h : s.pbc.node = .checking)
    (hw : s.pbc.windowOpen = false)
    (hf : ∃ a b q p k unit n l,
      (i = .passReceived a ∧ ids = [a]) ∨ (i = .activity (some (.probe a)) ∧ ids = [a])
      ∨ (i = .hereReceived a k unit n ∧ ids = [a]) ∨ (i = .askReceived a b ∧ ids = [a, b])
      ∨ (i = .roomReceived a b ∧ ids = [a, b]) ∨ (i = .noroomReceived a b ∧ ids = [a, b])
      ∨ (i = .gotReceived a b ∧ ids = [a, b]) ∨ (i = .cargoReceived a b q p ∧ ids = [a, b])
      ∨ (i = .activity (some .sweep) ∧ ids = []) ∨ (i = .activity (some (.ring l)) ∧ ids = [])) :
    EndsIn i s (lapseReservation (cleanFrame ids s)) := by
  have closed (ids : List Byte) := (onlyExamined (s := s) ids h hw).1.closed
  have silent (ids : List Byte) (n : Nat) (f t : Byte) := answers_closed (closed ids) n f t
  have ha : s.pbc.node ≠ .asleep := by simp [h]
  have both {a b : Byte} (e : (nodeByte a && nodeByte b) = true) : nodeByte a = true ∧ nodeByte b = true := Bool.and_eq_true_iff.1 e
  obtain ⟨a, b, q, p, k, unit, n, l, hf⟩ := hf
  rcases hf with ⟨rfl, rfl⟩ | ⟨rfl, rfl⟩ | ⟨rfl, rfl⟩ | ⟨rfl, rfl⟩ | ⟨rfl, rfl⟩ | ⟨rfl, rfl⟩ | ⟨rfl, rfl⟩ | ⟨rfl, rfl⟩ | ⟨rfl, rfl⟩
    | ⟨rfl, rfl⟩
  · exact passReceived_endsIn hi (hearPass_checking h hw)
  · exact otherReceived_endsIn hi ha (answerProbe_closed (closed [a]))
  · exact hereReceived_endsIn hi (hearHere_closed (probeOpen_closed (closed [a])))
  · exact askReceived_endsIn (both hi).1 (both hi).2 (hearAsk_checking h hw)
  · exact roomReceived_endsIn (both hi).1 (both hi).2
      ((hearRoom_unasked rfl fun p _ => silent _ p a b).trans (answerProbe_closed (closed _)))
  · exact noroomReceived_endsIn (both hi).1 (both hi).2
      ((hearNoroom_unasked rfl fun p _ => silent _ p a b).trans (answerProbe_closed (closed _)))
  · exact gotReceived_endsIn (both hi).1 (both hi).2
      ((hearGot_unasked rfl fun p _ _ => silent _ p a b).trans (answerProbe_closed (closed _)))
  · exact cargoReceived_endsIn hi (hearCargo_checking h hw)
  · exact otherReceived_endsIn hi ha (answerProbe_closed (closed []))
  · exact otherReceived_endsIn hi ha (answerProbe_closed (closed []))

/-- Settles O24: activity by `noteActivity`'s rows, bad frames by `badPbFrame`, CHECKING by what it examines. -/
theorem activityAndCheckingByState : Obligations.ActivityAndCheckingByState := by
  refine ⟨fun s => ?_, fun i ids s hi h hw hf => ⟨fun hx => ?_, fun hx => ?_⟩⟩
  · intro reserved heard probing pass
    have ends {u : State} (h : noteActivity s = u) : EndsIn (.activity none) s u := endsIn_of rfl h
    refine ⟨fun h => ends (noteActivity_asleep h), fun h => ends (noteActivity_noting h), fun h => ends (noteActivity_checking h),
      fun h => ⟨fun ho hp => ends (noteActivity_passing h ⟨ho, hp⟩), fun c n b ho hw => ends (noteActivity_probing h ho hw),
        fun hn => ends ?_⟩, fun i hi => ?_⟩
    · have hp : ¬ passing s.pbc := fun hp => (hn hp.1).2 hp.2
      have hq : probeOpen s.pbc = false := by
        unfold probeOpen
        rcases ho : s.pbc.windowOpen with _ | _
        · rfl
        · cases hw : s.pbc.work with
          | probe c n b => exact absurd ⟨c, n, b, hw⟩ (hn ho).1
          | _ => rfl
      exact noteActivity_plain h hp hq
    · rcases hi with rfl | rfl
      · exact ⟨fun h => endsIn_of rfl (badPbFrame_asleep h), fun h => endsIn_of rfl (badPbFrame_awake h)⟩
      · exact ⟨fun h => endsIn_of rfl (badPbFrame_asleep h), fun h => endsIn_of rfl (badPbFrame_awake h)⟩
  · rw [← cleanFrame_conflict h hx]; exact checking_endsIn hi h hw hf
  · rw [← cleanFrame_noConflict h hx]; exact checking_endsIn hi h hw hf

end Sys2Proof.Machine
end


section
/-! SUPPORT. The windows and the timers of the bus (O25). -/

namespace Sys2Proof.Machine

section
variable {s : State}

/-! ### The end of a hub frame (R1, R11, R23) -/

theorem txEnable_iff {p : Pbc} : p.txEnable = true ↔ ∃ f rest, p.tx = f :: rest := by
  unfold Pbc.txEnable
  rcases p.tx with _ | ⟨f, rest⟩ <;> simp

theorem pbFrameSent_none (h : s.pbc.tx = []) : pbFrameSent s = s := by unfold pbFrameSent; rw [h]

theorem pbFrameSent_room {h n : Nat} {rest : List PbFrame} (ht : s.pbc.tx = .room h n :: rest) : pbFrameSent s =
    { s with
      pbc := { s.pbc with
        tx := rest
        reserved := if s.pbc.reserved = some (n, .sending) then some (n, .window) else s.pbc.reserved } } := by
  have hr : (s.pbc.reserved.map fun r => if r = (n, RoomStage.sending) then (n, RoomStage.window) else r)
      = if s.pbc.reserved = some (n, .sending) then some (n, .window) else s.pbc.reserved := by
    rcases s.pbc.reserved with _ | r
    · rfl
    · by_cases h : r = (n, RoomStage.sending) <;> simp [h]
  unfold pbFrameSent
  simp only [ht, hr]

theorem pbFrameSent_other {f : PbFrame} {rest : List PbFrame} (hf : ∀ h n, f ≠ .room h n) (ht : s.pbc.tx = f :: rest) :
    pbFrameSent s =
    { s with
      pbc := { s.pbc with
        tx := rest
        windowOpen := if s.pbc.work.awaits f = true ∧ (∀ g ∈ rest, s.pbc.work.awaits g = false) then true else s.pbc.windowOpen } } := by
  have e : pbFrameSent s = if s.pbc.work.awaits f && !rest.any s.pbc.work.awaits
      then { s with pbc := { s.pbc with tx := rest, windowOpen := true } } else { s with pbc := { s.pbc with tx := rest } } := by
    unfold pbFrameSent
    simp only [ht]
  have hc : (s.pbc.work.awaits f && !rest.any s.pbc.work.awaits) = true ↔
      s.pbc.work.awaits f = true ∧ ∀ g ∈ rest, s.pbc.work.awaits g = false := by simp
  rw [e]
  by_cases h : s.pbc.work.awaits f = true ∧ ∀ g ∈ rest, s.pbc.work.awaits g = false
  · rw [if_pos (hc.2 h), if_pos h]
  · rw [if_neg (mt hc.1 h), if_neg h]

/-! ### The closes of the windows (R20, R22, R23) -/

theorem closeAsk_open {n : Nat} (ho : s.pbc.windowOpen = true) (hw : s.pbc.work = .ask n) : closeAsk s = nextExchange s := by
  unfold closeAsk; rw [hw, ho]

theorem closeCargo_open {n : Nat} {l : List (Nat × Image)} (ho : s.pbc.windowOpen = true) (hw : s.pbc.work = .cargo n l) :
    closeCargo s = nextExchange s := by
  unfold closeCargo; rw [hw, ho]

theorem closePass_first {n : Nat} (ho : s.pbc.windowOpen = true) (hw : s.pbc.work = .pass n false) :
    closePass s = { s with pbc := { s.pbc with tx := s.pbc.tx ++ [.pass n], work := .pass n true, windowOpen := false } } := by
  unfold closePass; rw [hw, ho]; rfl

theorem closePass_second {n : Nat} (ho : s.pbc.windowOpen = true) (hw : s.pbc.work = .pass n true) : closePass s = loseTurn n s := by
  unfold closePass; rw [hw, ho]

/-- A window that is not open closes without effect. -/
theorem closes_closed (ho : s.pbc.windowOpen = false) : closeAsk s = s ∧ closeCargo s = s ∧ closePass s = s := by
  refine ⟨?_, ?_, ?_⟩
  · unfold closeAsk; rw [ho]; cases s.pbc.work <;> rfl
  · unfold closeCargo; rw [ho]; cases s.pbc.work <;> rfl
  · unfold closePass
    split
    next ht => exact nomatch ho.symm.trans ht
    next ht => exact nomatch ho.symm.trans ht
    next => rfl

theorem lapseRoom_eq : lapseRoom s =
    { s with pbc := { s.pbc with reserved := s.pbc.reserved.filter fun (r : Nat × RoomStage) => r.2 != .window } } := by
  have hf (c : Bool) (h : (s.pbc.reserved.any fun r => r.2 == .window) = c) :
      (s.pbc.reserved.filter fun (r : Nat × RoomStage) => r.2 != .window) = if c then none else s.pbc.reserved := by
    rw [← h]
    rcases s.pbc.reserved with _ | ⟨n, _ | _ | _⟩ <;> rfl
  unfold lapseRoom
  split
  next h => rw [hf true h]; rfl
  next h => rw [hf false (Bool.eq_false_iff.2 h)]; rfl

theorem passOn_eq : passOn s =
    if s.pbc.successor = s.pbc.id then { s with pbc := { s.pbc with work := .idle, windowOpen := false } }
    else
      { s with
        pbc := { s.pbc with
          tx := s.pbc.tx ++ [.pass s.pbc.successor], work := .pass s.pbc.successor false, windowOpen := false } } := rfl

/-- The state in which the turn goes on where a MEMBER successor has stayed silent twice (R22). -/
def turnLost (n : Nat) (e : RosterEntry) (s : State) : State :=
  sendRing (setFlag .roster (departure n (setRoster n { e with presence := .absent s.now } s)))

theorem loseTurn_member {n : Nat} {e : RosterEntry} (he : s.pbc.entry n = some e) (hm : e.isMember = true) :
    loseTurn n s = passOn (turnLost n e s) := by
  unfold loseTurn turnLost
  simp only [he, hm, if_true]

/-! ### The timers (R9, R12, R15, R17, R26) -/

theorem endChecking_due {e : Millis} (h : s.pbc.node = .checking) (he : s.pbc.checkingExpiry = some e)
    (hd : (s.now - e).toNat < 2 ^ 31) : endChecking s = startSweep s :=
  if_pos ⟨h, dueOpt_iff.2 ⟨e, he, hd⟩⟩

theorem endChecking_early (h : ¬ (s.pbc.node = .checking ∧ ∃ e, s.pbc.checkingExpiry = some e ∧ (s.now - e).toNat < 2 ^ 31)) :
    endChecking s = s :=
  if_neg fun hc => h ⟨hc.1, dueOpt_iff.1 hc.2⟩

theorem passed_iff {now t : Millis} {d : Nat} : passed now t d = true ↔ d ≤ (now - t).toNat := decide_eq_true_iff

theorem endSilence_eq {t : Millis} (hm : s.pbc.node = .member) (hh : s.pbc.turn.holds = false) (ht : s.pbc.silentSince = some t) :
    endSilence s = if s.pbc.timing.silence ≤ (s.now - t).toNat then startSweep s else s := by
  unfold endSilence
  simp only [hm, hh, ht, Option.any_some, passed_iff, Bool.not_false, true_and]

theorem endSilence_other (h : s.pbc.node ≠ .member ∨ s.pbc.turn.holds = true ∨ s.pbc.silentSince = none) : endSilence s = s := by
  refine if_neg fun hc => ?_
  obtain ⟨hm, hh, hs⟩ := hc
  rcases h with h | h | h
  · exact h hm
  · simp [h] at hh
  · simp [h] at hs

theorem endCensusInterval_eq (hm : s.pbc.node = .member) (hh : s.pbc.turn.holds = true) (hw : s.pbc.work = .idle)
    (hs : s.pbc.successor = s.pbc.id) : endCensusInterval s =
      if s.pbc.timing.census ≤ (s.now - s.pbc.turn.started).toNat then beginTurn s else s := by
  unfold endCensusInterval
  simp only [hm, hh, hw, hs, passed_iff, true_and]

theorem endCensusInterval_other (h : s.pbc.node ≠ .member ∨ s.pbc.turn.holds = false ∨ s.pbc.work ≠ .idle ∨ s.pbc.successor ≠ s.pbc.id) :
    endCensusInterval s = s := by
  refine if_neg fun hc => ?_
  obtain ⟨hm, hh, hw, hs, -⟩ := hc
  rcases h with h | h | h | h
  · exact h hm
  · exact absurd (h.symm.trans hh) (by decide)
  · exact h hw
  · exact h hs

theorem endAbsence_absent {n : Nat} {since : Millis} (h : s.pbc.presence n = some (.absent since)) : endAbsence n s =
    if s.pbc.timing.release * 1000 ≤ (s.now - since).toNat then removeEntry n s else s := by
  unfold endAbsence
  simp only [h, passed_iff]

theorem endAbsence_other {n : Nat} (h : ∀ since, s.pbc.presence n ≠ some (.absent since)) : endAbsence n s = s := by
  unfold endAbsence
  split
  next since hp => exact absurd hp (h since)
  next => rfl

end

/-- Settles O25, each window and timer by its block's operation. -/
theorem windowsAndTimersOfTheBus : Obligations.WindowsAndTimersOfTheBus := by
  refine ⟨fun p => txEnable_iff, fun f rest s => ⟨fun h => endsIn_of rfl (pbFrameSent_none h),
    fun h => ⟨fun hub n hf => endsIn_of rfl (pbFrameSent_room (hf ▸ h)), fun hf => endsIn_of rfl (pbFrameSent_other hf h)⟩⟩,
    fun n s => ⟨fun ho => ⟨fun hw => endsIn_of rfl (closeAsk_open ho hw), fun l hw => endsIn_of rfl (closeCargo_open ho hw),
        fun hw => endsIn_of rfl (closePass_first ho hw), fun e hw he hm => ?_⟩,
      fun ho => ?_, endsIn_of rfl lapseRoom_eq⟩,
    fun n s => ⟨fun e h he hd => endsIn_of rfl (endChecking_due h he hd), fun h hd => endsIn_of rfl (endChecking_early ?_),
      fun h => endsIn_of rfl (endChecking_early fun hc => h hc.1), fun t hm hh ht => endsIn_of rfl (endSilence_eq hm hh ht),
      fun h => endsIn_of rfl (endSilence_other h), fun hm hh hw hs => endsIn_of rfl (endCensusInterval_eq hm hh hw hs),
      fun h => endsIn_of rfl (endCensusInterval_other h), fun since h => endsIn_of rfl (endAbsence_absent h),
      fun h => endsIn_of rfl (endAbsence_other h)⟩⟩
  · refine ⟨turnLost n e s, endsIn_of rfl ((closePass_second ho hw).trans ((loseTurn_member he hm).trans passOn_eq)), ?_, rfl, rfl,
      fun m => tfind_tput _ _ _ _, rfl⟩
    intro p hp; cases p <;> first | rfl | simp at hp
  · obtain ⟨ha, hc, hp⟩ := closes_closed ho
    exact ⟨endsIn_of rfl ha, endsIn_of rfl hc, endsIn_of rfl hp⟩
  · rintro ⟨-, e, he, hlt⟩
    exact Nat.not_le.2 hlt (hd e he)

end Sys2Proof.Machine
end


section
/-! SUPPORT. The turn sequence (O26). -/

namespace Sys2Proof.Machine

section
variable {s : State}

theorem firstProbe (own : Nat) : (nextProbeId own 0).getD 1 = if own = 1 then 2 else 1 := by
  have hr : List.range' (0 + 1) (63 - 0) = 1 :: 2 :: List.range' 3 61 := rfl
  unfold nextProbeId
  rw [hr, List.find?_cons, List.find?_cons]
  by_cases h : own = 1
  · subst h; rfl
  · have : (1 != own) = true := by simpa using Ne.symm h
    rw [this, if_neg h]; rfl

theorem startSweep_eq : startSweep s =
    { s with
      pbc := { s.pbc with
        node := .sweeping, checkingExpiry := none, sweepPending := false, results := [], silentSince := none
        turn := { s.pbc.turn with holds := true }
        tx := s.pbc.tx.take 1 ++ [.sweep, .probe (if s.pbc.id = 1 then 2 else 1)]
        work := .probe false (if s.pbc.id = 1 then 2 else 1) false
        windowOpen := false } } := by
  rw [← firstProbe]; rfl

/-- The state in which the hub has taken the turn (R17). -/
def turnTaken (s : State) : State :=
  { s with
    pbc := { s.pbc with
      silentSince := none
      turn := { holds := true, made := 0, chosen := [], budget := s.pbc.timing.turnBudget, started := s.now } } }

theorem beginTurn_sweep (h : s.pbc.sweepPending = true) : beginTurn s = startSweep (turnTaken s) := if_pos h

theorem beginTurn_turn (h : s.pbc.sweepPending = false) : beginTurn s = turnSequence (turnTaken s) :=
  if_neg (by simp [h])

theorem turnSequence_early (h : (s.now - s.pbc.lastCensus).toNat < s.pbc.timing.census) : turnSequence s = nextExchange s :=
  if_neg fun hp => Nat.not_le.2 h (passed_iff.1 hp)

theorem turnSequence_census {n : Nat} (h : s.pbc.timing.census ≤ (s.now - s.pbc.lastCensus).toNat) (hn : censusChoice s.pbc = some n) :
    turnSequence s =
      { s with
        pbc := { s.pbc with
          lastCensus := s.now, censusPtr := n, tx := s.pbc.tx ++ [.probe n], work := .probe true n false, windowOpen := false } } := by
  unfold turnSequence
  rw [if_pos (passed_iff.2 h)]
  dsimp only
  rw [show censusChoice { s.pbc with lastCensus := s.now } = some n from hn]
  rfl

theorem turnSequence_none (h : s.pbc.timing.census ≤ (s.now - s.pbc.lastCensus).toNat) (hn : censusChoice s.pbc = none) :
    turnSequence s = nextExchange { s with pbc := { s.pbc with lastCensus := s.now } } := by
  unfold turnSequence
  rw [if_pos (passed_iff.2 h)]
  dsimp only
  rw [show censusChoice { s.pbc with lastCensus := s.now } = none from hn]

theorem eligible_iff {p : Nat} : eligible s p = true ↔ p ∉ s.pbc.turn.chosen ∧ ∃ link stall ask,
    s.pbc.presence p = some (.member link stall ask) ∧ link.dirty ≠ []
    ∧ ∀ t, ask = some t → s.pbc.timing.census ≤ (s.now - t).toNat := by
  unfold eligible
  rcases hp : s.pbc.presence p with _ | (⟨link, stall, _ | ask⟩ | since | _)
  · simp
  · simp
  · simp [passed_iff]
  · simp
  · simp

/-- An entry whose panel is asked: the time of a STALLED panel's last ASK is now. -/
def askedNow (now : Millis) (e : RosterEntry) : RosterEntry :=
  match e.presence with
  | .member link stall ask => { e with presence := .member link stall (ask.map fun _ => now) }
  | _ => e

/-- The state in which the exchange with `p` is chosen, its ASK made (R19, R20). -/
def exchangeWith (p : Nat) (s : State) : State :=
  sendAndWait (.ask s.pbc.id p) (.ask p)
    { s with
      pbc := { s.pbc with
        roster := tmodify s.pbc.roster p (askedNow s.now)
        rotationPtr := p
        turn := { s.pbc.turn with made := s.pbc.turn.made + 1, chosen := s.pbc.turn.chosen ++ [p] } } }

theorem nextExchange_ask {p : Nat} (hm : s.pbc.turn.made < s.pbc.turn.budget)
    (hp : (idsAfter s.pbc.rotationPtr).find? (eligible s) = some p) : nextExchange s = exchangeWith p s := by
  unfold nextExchange
  rw [if_pos hm, hp]
  rfl

theorem nextExchange_pass (h : s.pbc.turn.budget ≤ s.pbc.turn.made ∨ (idsAfter s.pbc.rotationPtr).find? (eligible s) = none) :
    nextExchange s = passOn s := by
  unfold nextExchange
  split
  next hm =>
    rw [h.resolve_left (Nat.not_le.2 hm)]
  next => rfl

/-- The entry of a node where the presence of one MEMBER is changed. -/
theorem presence_tmodify {p q : Pbc} {n : Nat} {f : Link → Nat → Option Millis → Presence} {link : Link} {stall : Nat}
    {ask : Option Millis}
    (hq : q.roster = tmodify p.roster n fun e => match e.presence with
      | .member link stall ask => { e with presence := f link stall ask }
      | _ => e)
    (h : p.presence n = some (.member link stall ask)) : q.presence n = some (f link stall ask) := by
  obtain ⟨e, he, hp⟩ := Option.map_eq_some_iff.1 h
  have he : tfind p.roster n = some e := he
  unfold Pbc.presence Pbc.entry
  rw [hq, tfind_tmodify, if_pos rfl, he]
  simp only [Option.map_some, hp]

theorem entry_tmodify_ne {p q : Pbc} {n m : Nat} {f : RosterEntry → RosterEntry} (hq : q.roster = tmodify p.roster n f) (h : m ≠ n) :
    q.entry m = p.entry m := by
  unfold Pbc.entry
  rw [hq, tfind_tmodify, if_neg h]

end

/-- Settles O26, each choice of the turn by its condition. -/
theorem turnSequenceInOrder : Obligations.TurnSequenceInOrder := by
  refine ⟨fun s => startSweep_eq, fun s => ?_⟩
  intro u
  have hu : turnTaken s = u := rfl
  refine ⟨fun h => beginTurn_sweep h, fun h he => ?_, fun h hd => ⟨fun n hn => ?_, fun hn => ?_⟩, fun p => eligible_iff,
    fun p hm hp => ?_, fun h => (nextExchange_pass h).trans passOn_eq⟩
  · rw [beginTurn_turn h]
    exact turnSequence_early (s := turnTaken s) he
  · rw [beginTurn_turn h]
    exact turnSequence_census (s := turnTaken s) hd hn
  · rw [beginTurn_turn h]
    exact turnSequence_none (s := turnTaken s) hd hn
  · rw [nextExchange_ask hm hp]
    refine ⟨?_, rfl, fun n hn => ?_, fun link stall ask hl => ?_⟩
    · intro q hq; cases q <;> first | rfl | simp at hq
    · exact entry_tmodify_ne (p := s.pbc) (f := askedNow s.now) rfl hn
    · exact presence_tmodify (p := s.pbc) (f := fun link stall ask => .member link stall (ask.map fun _ => s.now)) rfl hl

end Sys2Proof.Machine
end


section
/-! SUPPORT. PASS and ASK by the state of the node (O27). -/

namespace Sys2Proof.Machine

section
variable {s : State}

/-- What activity leaves of the bus's fields. -/
theorem noteActivity_fields (s : State) :
    (noteActivity s).pbc.id = s.pbc.id ∧ (noteActivity s).pbc.roster = s.pbc.roster ∧ (noteActivity s).pbc.tx = s.pbc.tx
    ∧ (noteActivity s).pbc.inbound = s.pbc.inbound ∧ (noteActivity s).pbc.discarded = s.pbc.discarded
    ∧ (s.pbc.node ≠ .asleep → (noteActivity s).pbc.reserved = heardReserved s.pbc) := by
  unfold noteActivity
  dsimp only
  split
  next h => exact ⟨rfl, rfl, rfl, rfl, rfl, fun ha => absurd h ha⟩
  next => exact ⟨rfl, rfl, rfl, rfl, rfl, fun _ => rfl⟩
  next => exact ⟨rfl, rfl, rfl, rfl, rfl, fun _ => rfl⟩
  next => exact ⟨rfl, rfl, rfl, rfl, rfl, fun _ => rfl⟩
  all_goals
    split
    · exact ⟨rfl, rfl, rfl, rfl, rfl, fun _ => rfl⟩
    · exact ⟨rfl, rfl, rfl, rfl, rfl, fun _ => rfl⟩
    · split <;> exact ⟨rfl, rfl, rfl, rfl, rfl, fun _ => rfl⟩

theorem noteActivity_entry (n : Nat) : (noteActivity s).pbc.entry n = s.pbc.entry n := by
  unfold Pbc.entry; rw [(noteActivity_fields s).2.1]

/-- A member that holds the turn still holds it after a frame, but in the window of its PASS. -/
theorem noteActivity_holds (h : s.pbc.node = .member ∨ s.pbc.node = .sweeping) :
    (noteActivity s).pbc.turn.holds = true ↔ s.pbc.turn.holds = true ∧ ¬ passing s.pbc := by
  by_cases hp : passing s.pbc
  · rw [noteActivity_passing h hp]; simp [hp]
  · rcases hq : probeOpen s.pbc with _ | _
    · rw [noteActivity_plain h hp hq]
      unfold heardPlainly
      split <;> simp [hp]
    · have ho : s.pbc.windowOpen = true := (Bool.and_eq_true_iff.1 hq).1
      rcases hw : s.pbc.work with _ | ⟨c, n, b⟩ | _ | _ | _
      case probe => rw [noteActivity_probing h ho hw]; simp [hp]
      all_goals simp [probeOpen, hw] at hq

/-- A clean frame off CHECKING: activity, and the reservation lapses. -/
theorem heard_eq (ids : List Byte) (h : s.pbc.node ≠ .checking) :
    lapseReservation (cleanFrame ids s) = lapseReservation (noteActivity s) := by rw [cleanFrame_eq ids h]

theorem heard_asleep (h : s.pbc.node = .asleep) :
    lapseReservation (noteActivity s) = { s with pbc := { s.pbc with reserved := none } } := by
  rw [noteActivity_asleep h]; rfl

theorem heard_probeOpen (h : probeOpen s.pbc = false) : probeOpen (lapseReservation (noteActivity s)).pbc = false :=
  (probeOpen_noteActivity s).trans h

/-! ### PASS (R2, R17) -/

theorem hearPass_noting {t : Byte} (h : s.pbc.node = .listening ∨ s.pbc.node = .conflict) (hw : s.pbc.windowOpen = false) :
    hearPass t s = { s with pbc := { s.pbc with activitySeen := true, lastTurn := some t.toNat, reserved := none } } := by
  have hc : s.pbc.node ≠ .checking := by rcases h with h | h <;> simp [h]
  unfold hearPass
  rw [heard_eq [t] hc, noteActivity_noting h]
  rcases h with h | h <;> simp only [h] <;> exact answerProbe_closed hw

theorem hearPass_takes {t : Byte} (h : s.pbc.node = .member) (ht : t.toNat = s.pbc.id)
    (hp : s.pbc.turn.holds = false ∨ passing s.pbc) : hearPass t s = beginTurn (lapseReservation (noteActivity s)) := by
  have hc : s.pbc.node ≠ .checking := by simp [h]
  have hh : (noteActivity s).pbc.turn.holds = false := by
    rw [← Bool.not_eq_true, noteActivity_holds (.inl h)]
    rintro ⟨hx, hn⟩
    rcases hp with hp | hp
    · exact absurd (hp.symm.trans hx) (by decide)
    · exact hn hp
  have hb : t.toNat = (lapseReservation (noteActivity s)).pbc.id ∧ (!(lapseReservation (noteActivity s)).pbc.turn.holds) = true :=
    ⟨ht.trans (noteActivity_fields s).1.symm, by rw [show (lapseReservation (noteActivity s)).pbc.turn.holds = false from hh]; rfl⟩
  unfold hearPass
  rw [heard_eq [t] hc]
  simp only [h, if_pos hb]
  exact answerProbe_closed beginTurn_windowOpen

theorem hearPass_heard {t : Byte}
    (h : s.pbc.node = .sweeping ∨ (s.pbc.node = .member ∧ (t.toNat ≠ s.pbc.id ∨ (s.pbc.turn.holds = true ∧ ¬ passing s.pbc)))) :
    hearPass t s = answerProbe (lapseReservation (noteActivity s)) := by
  have hc : s.pbc.node ≠ .checking := by rcases h with h | ⟨h, -⟩ <;> simp [h]
  unfold hearPass
  rw [heard_eq [t] hc]
  rcases h with h | ⟨h, hn⟩
  · simp only [h]
  · have hb : ¬ (t.toNat = (lapseReservation (noteActivity s)).pbc.id
        ∧ (!(lapseReservation (noteActivity s)).pbc.turn.holds) = true) := by
      rintro ⟨ht, hx⟩
      have ht : t.toNat = s.pbc.id := ht.trans (noteActivity_fields s).1
      have hh := (noteActivity_holds (.inl h)).2 (hn.resolve_left fun hne => hne ht)
      rw [show (lapseReservation (noteActivity s)).pbc.turn.holds = true from hh] at hx
      exact absurd hx (by decide)
    simp only [h, if_neg hb]

theorem hearPass_asleep {t : Byte} (h : s.pbc.node = .asleep) (hq : probeOpen s.pbc = false) :
    hearPass t s = { s with pbc := { s.pbc with reserved := none } } := by
  unfold hearPass
  rw [heard_eq [t] (by simp [h]), heard_asleep h]
  simp only [h]
  exact answerProbe_eq hq

/-! ### ASK (R23) -/

/-- A clean ASK to a MEMBER without the turn is answered. -/
theorem hearAsk_answers {f t : Byte} (h : s.pbc.node = .member) (ht : t.toNat = s.pbc.id) (hp : s.pbc.turn.holds = false ∨ passing s.pbc)
    (hq : probeOpen s.pbc = false) : hearAsk f t s =
      if (s.pbc.entry f.toNat).any (·.isMember) && decide (s.pbc.inbound.length < 4) then
        { noteActivity s with
          pbc := { (noteActivity s).pbc with
            reserved := some (f.toNat, .sending), tx := (noteActivity s).pbc.tx ++ [.room s.pbc.id f.toNat] } }
      else
        { noteActivity s with
          pbc := { (noteActivity s).pbc with
            reserved := none, tx := (noteActivity s).pbc.tx ++ [.noroom s.pbc.id f.toNat] } } := by
  obtain ⟨hid, -, -, hin, -⟩ := noteActivity_fields s
  have hh : (noteActivity s).pbc.turn.holds = false := by
    rw [← Bool.not_eq_true, noteActivity_holds (.inl h)]
    rintro ⟨hx, hn⟩
    rcases hp with hp | hp
    · exact absurd (hp.symm.trans hx) (by decide)
    · exact hn hp
  have hb : (lapseReservation (noteActivity s)).pbc.node = .member ∧ (!(lapseReservation (noteActivity s)).pbc.turn.holds) = true
      ∧ t.toNat = (lapseReservation (noteActivity s)).pbc.id :=
    ⟨(noteActivity_node s).trans h, by rw [show (lapseReservation (noteActivity s)).pbc.turn.holds = false from hh]; rfl,
      ht.trans hid.symm⟩
  have hfree : decide (0 < freeSlots (lapseReservation (noteActivity s)).pbc) = decide (s.pbc.inbound.length < 4) := by
    have hf : freeSlots (lapseReservation (noteActivity s)).pbc = 4 - (noteActivity s).pbc.inbound.length := rfl
    rw [hf, hin]
    exact decide_eq_decide.2 (by omega)
  have he : (lapseReservation (noteActivity s)).pbc.entry f.toNat = s.pbc.entry f.toNat := noteActivity_entry _
  unfold hearAsk
  dsimp only
  rw [heard_eq [f, t] (by simp [h]), if_pos hb, he, hfree]
  split
  · refine (answerProbe_eq ?_).trans ?_
    · exact heard_probeOpen hq
    · rw [← hid]; rfl
  · refine (answerProbe_eq ?_).trans ?_
    · exact heard_probeOpen hq
    · rw [← hid]; rfl

/-- A clean ASK that is not answered. -/
theorem hearAsk_silent {f t : Byte} (hc : s.pbc.node ≠ .checking)
    (h : s.pbc.node = .member → t.toNat ≠ s.pbc.id ∨ ¬ (s.pbc.turn.holds = false ∨ passing s.pbc)) :
    hearAsk f t s = answerProbe (lapseReservation (noteActivity s)) := by
  have hb : ¬ ((lapseReservation (noteActivity s)).pbc.node = .member ∧ (!(lapseReservation (noteActivity s)).pbc.turn.holds) = true
      ∧ t.toNat = (lapseReservation (noteActivity s)).pbc.id) := by
    rintro ⟨hm, hx, ht⟩
    have hm : s.pbc.node = .member := (noteActivity_node s).symm.trans hm
    have ht : t.toNat = s.pbc.id := ht.trans (noteActivity_fields s).1
    obtain ⟨hh, hp⟩ := not_or.1 ((h hm).resolve_left fun hne => hne ht)
    have := (noteActivity_holds (.inl hm)).2 ⟨Bool.not_eq_false _ ▸ hh, hp⟩
    rw [show (lapseReservation (noteActivity s)).pbc.turn.holds = true from this] at hx
    exact absurd hx (by decide)
  unfold hearAsk
  dsimp only
  rw [heard_eq [f, t] hc, if_neg hb]

end

/-- Settles O27, PASS and ASK by the state of the node. -/
theorem passAndAskAreTaken : Obligations.PassAndAskAreTaken := by
  refine ⟨fun t s => ?_, fun f t s => ?_⟩
  · intro heard
    refine ⟨fun ht h hw => passReceived_endsIn ht (hearPass_noting h hw), fun ht h hid hp => passReceived_endsIn ht (hearPass_takes h hid hp),
      fun ht h hq => passReceived_endsIn ht ((hearPass_heard h).trans (answerProbe_eq (heard_probeOpen hq))),
      fun ht h hq => passReceived_endsIn ht (hearPass_asleep h hq), fun ht => ?_⟩
    exact congrArg finish (if_neg (by simp [ht]))
  · intro heard withoutTurn
    refine ⟨fun hf ht hq => ⟨fun h hid hp => ⟨fun he hl => ?_, fun hn => ?_⟩, fun h => ?_, fun h => ?_⟩, fun hb => ?_,
      fun h => ⟨fun ho hh => ?_, fun n a ho hw => ?_⟩⟩
    · obtain ⟨e, he, hm⟩ := he
      refine askReceived_endsIn hf ht ((hearAsk_answers h hid hp hq).trans (if_pos ?_))
      simp [he, hm, hl]
    · refine askReceived_endsIn hf ht ((hearAsk_answers h hid hp hq).trans (if_neg ?_))
      rw [Bool.and_eq_true, Option.any_eq_true, decide_eq_true_eq]
      rintro ⟨⟨e, he, hm⟩, hl⟩
      rcases hn with hn | hn
      · exact absurd ((hn e he).symm.trans hm) (by decide)
      · omega
    · have hc : s.pbc.node ≠ .checking := by rcases h with h | h | h | ⟨h, -⟩ <;> simp [h]
      refine askReceived_endsIn hf ht ((hearAsk_silent hc fun hm => ?_).trans (answerProbe_eq (heard_probeOpen hq)))
      rcases h with h | h | h | ⟨-, h⟩
      · simp [h] at hm
      · simp [h] at hm
      · simp [h] at hm
      · exact h
    · refine askReceived_endsIn hf ht ((hearAsk_silent (by simp [h]) fun hm => ?_).trans
        ((answerProbe_eq (heard_probeOpen hq)).trans (heard_asleep h)))
      simp [h] at hm
    · refine congrArg finish (if_neg ?_)
      rw [Bool.and_eq_true]
      rcases hb with hb | hb <;> simp [hb]
    · have hp : ¬ passing s.pbc := fun hp => absurd (ho.symm.trans hp.1) (by decide)
      have e := noteActivity_plain (.inl h) hp (probeOpen_closed ho)
      unfold heardPlainly at e
      rw [if_pos ⟨h, hh⟩] at e
      exact congrArg State.pbc e
    · exact congrArg State.pbc (noteActivity_passing (.inl h) ⟨ho, n, a, hw⟩)

end Sys2Proof.Machine
end


section
/-! SUPPORT. CARGO by its table (O28). -/

namespace Sys2Proof.Machine

/-- Where only PBC has changed, another PBC in its place is one in the place of the old. -/
theorem OnlyChanges.setPbc {s u : State} (h : OnlyChanges [.pbc] s u) (x : Pbc) : ({ u with pbc := x } : State) = { s with pbc := x } := by
  have h0 (q : Part) (hq : q ∉ [Part.pbc]) := h q hq
  have e1 := h0 .straps (by decide)
  have e2 := h0 .now (by decide)
  have e3 := h0 .cp (by decide)
  have e4 := h0 .kd (by decide)
  have e5 := h0 .rc (by decide)
  have e6 := h0 .mm (by decide)
  have e7 := h0 .tr (by decide)
  have e8 := h0 .ld (by decide)
  have e9 := h0 .te (by decide)
  have e10 := h0 .ml (by decide)
  have e11 := h0 .pm (by decide)
  have e12 := h0 .reports (by decide)
  have e13 := h0 .pending (by decide)
  simp only [sameAt] at e1 e2 e3 e4 e5 e6 e7 e8 e9 e10 e11 e12 e13
  simp only [e1, e2, e3, e4, e5, e6, e7, e8, e9, e10, e11, e12, e13]

section
variable {s : State}

/-- A panel's MEMBER entry whose last accepted inbound sequence becomes `q` (R24). -/
def acceptedNow (q : Nat) (e : RosterEntry) : RosterEntry :=
  match e.presence with
  | .member link stall ask => { e with presence := .member { link with lastIn := some q } stall ask }
  | _ => e

theorem acceptSeq_eq (n q : Nat) (s : State) :
    acceptSeq n q s = { s with pbc := { s.pbc with roster := tmodify s.pbc.roster n (acceptedNow q) } } := rfl

theorem discardCargo_eq (s : State) : discardCargo s =
    { s with pbc := { s.pbc with discarded := if s.pbc.discarded < 65535 then s.pbc.discarded + 1 else s.pbc.discarded } } := by
  rw [← bump_eq]; rfl

/-! ### The rows of R24 -/

theorem takeCargo_stranger {n q : Nat} {l : List Byte} (h : ∀ e, s.pbc.entry n = some e → e.isMember = false) :
    takeCargo n q l s = discardCargo s := by
  unfold takeCargo
  split
  next link stall ask hp =>
    obtain ⟨e, he, hp⟩ := Option.map_eq_some_iff.1 hp
    have := h e he
    simp [RosterEntry.isMember, hp] at this
  next => rfl

variable {n q : Nat} {payload : List Byte} {link : Link} {stall : Nat} {ask : Option Millis}

theorem takeCargo_duplicate (h : s.pbc.presence n = some (.member link stall ask)) (hq : link.lastIn = some q) :
    takeCargo n q payload s = sendPb (.got s.pbc.id n) s := by
  unfold takeCargo; simp only [h, if_pos hq]

theorem takeCargo_unreadable (h : s.pbc.presence n = some (.member link stall ask)) (hq : link.lastIn ≠ some q)
    (hp : keysPayload payload = none) : takeCargo n q payload s = sendPb (.got s.pbc.id n) (acceptSeq n q (discardCargo s)) := by
  unfold takeCargo; simp only [h, if_neg hq, hp]

theorem takeCargo_room {l : List (Nat × Bool)} (h : s.pbc.presence n = some (.member link stall ask)) (hq : link.lastIn ≠ some q)
    (hp : keysPayload payload = some l) (hr : (s.pbc.reserved.any (·.1 == n) || decide (0 < freeSlots s.pbc)) = true) :
    takeCargo n q payload s =
      sendPb (.got s.pbc.id n) (acceptSeq n q { s with pbc := { s.pbc with inbound := s.pbc.inbound ++ [⟨n, l⟩] } }) := by
  unfold takeCargo; simp only [h, if_neg hq, hp, if_pos hr]

theorem takeCargo_noRoom {l : List (Nat × Bool)} (h : s.pbc.presence n = some (.member link stall ask)) (hq : link.lastIn ≠ some q)
    (hp : keysPayload payload = some l) (hr : (s.pbc.reserved.any (·.1 == n) || decide (0 < freeSlots s.pbc)) = false) :
    takeCargo n q payload s = discardCargo s := by
  unfold takeCargo; simp only [h, if_neg hq, hp, hr]; rfl

/-- A slot is free, or the sender's own. -/
theorem cargoRoom_iff (p : Pbc) (n : Nat) : (p.reserved.any (·.1 == n) || decide (0 < freeSlots p)) = true ↔
    (∃ st, p.reserved = some (n, st)) ∨ p.inbound.length + (if p.reserved.isSome then 1 else 0) < 4 := by
  have hf : 0 < freeSlots p ↔ p.inbound.length + (if p.reserved.isSome then 1 else 0) < 4 := by
    unfold freeSlots
    have : Config.inboundMax = 4 := rfl
    omega
  rw [Bool.or_eq_true, decide_eq_true_eq, hf]
  refine or_congr_left ?_
  rcases p.reserved with _ | ⟨m, st⟩ <;> simp

theorem takeCargo_keeps (n q : Nat) (l : List Byte) (s : State) : (takeCargo n q l s).pbc.work = s.pbc.work
    ∧ (takeCargo n q l s).pbc.windowOpen = s.pbc.windowOpen ∧ (takeCargo n q l s).pbc.node = s.pbc.node := by
  unfold takeCargo
  split
  · dsimp only
    split
    · exact ⟨rfl, rfl, rfl⟩
    · split
      · exact ⟨rfl, rfl, rfl⟩
      · split <;> exact ⟨rfl, rfl, rfl⟩
  · exact ⟨rfl, rfl, rfl⟩

theorem takeCargo_probeOpen (n q : Nat) (l : List Byte) (s : State) :
    probeOpen (lapseReservation (takeCargo n q l s)).pbc = probeOpen s.pbc := by
  obtain ⟨hw, ho, -⟩ := takeCargo_keeps n q l s
  unfold probeOpen
  rw [show (lapseReservation (takeCargo n q l s)).pbc.work = _ from hw,
    show (lapseReservation (takeCargo n q l s)).pbc.windowOpen = _ from ho]

/-! ### A clean CARGO by the state of the node -/

theorem hearCargo_member {f t seq : Byte} (h : s.pbc.node = .member) (ht : t.toNat = s.pbc.id) :
    hearCargo f t seq payload s = answerProbe (lapseReservation (takeCargo f.toNat seq.toNat payload (noteActivity s))) := by
  unfold hearCargo
  dsimp only
  rw [cleanFrame_eq [f, t] (by simp [h]), if_pos ⟨(noteActivity_node s).trans h, ht.trans (noteActivity_fields s).1.symm⟩]

theorem hearCargo_other {f t seq : Byte} (hc : s.pbc.node ≠ .checking) (h : s.pbc.node = .member → t.toNat ≠ s.pbc.id) :
    hearCargo f t seq payload s = answerProbe (lapseReservation (noteActivity s)) := by
  unfold hearCargo
  dsimp only
  rw [cleanFrame_eq [f, t] hc, if_neg fun ha => h ((noteActivity_node s).symm.trans ha.1) (ha.2.trans (noteActivity_fields s).1)]

end

/-- Settles O28, row by row. -/
theorem cargoByItsTable : Obligations.CargoByItsTable := by
  refine ⟨fun f t seq payload s hc h ht hq => ?_, fun f t seq payload s => ⟨fun hc => ?_, fun hc hq => ⟨fun h => ?_, fun h => ?_⟩⟩⟩
  · intro p ends discarded accepted
    obtain ⟨hid, hroster, -, hin, hdis, hres⟩ := noteActivity_fields s
    have hres : p.reserved = heardReserved s.pbc := hres (by simp [h])
    have hentry (n : Nat) : p.entry n = s.pbc.entry n := noteActivity_entry n
    have hpresence (n : Nat) : p.presence n = s.pbc.presence n := by unfold Pbc.presence; rw [hentry]
    have hset (x : Pbc) : ({ noteActivity s with pbc := x } : State) = { s with pbc := x } := (noteActivity_frame s).setPbc x
    have hacc : tmodify p.roster f.toNat (acceptedNow seq.toNat) = accepted := by rw [hroster]; rfl
    have takes {x : Pbc} (e : takeCargo f.toNat seq.toNat payload (noteActivity s) = { s with pbc := x }) : ends x := by
      refine cargoReceived_endsIn hc ((hearCargo_member h ht).trans ((answerProbe_eq ?_).trans ?_))
      · rw [takeCargo_probeOpen, probeOpen_noteActivity]; exact hq
      · rw [e]; rfl
    have drops (e : takeCargo f.toNat seq.toNat payload (noteActivity s) = discardCargo (noteActivity s)) :
        ends { p with discarded := discarded } := by
      refine takes (e.trans ?_)
      rw [discardCargo_eq, hdis]
      exact hset _
    refine ⟨fun hs => drops (takeCargo_stranger fun e he => hs e ((noteActivity_entry _).symm.trans he)), fun link stall ask hp => ?_⟩
    have hp : p.presence f.toNat = some (.member link stall ask) := (hpresence _).trans hp
    refine ⟨fun hl => takes ?_, fun hl hk => takes ?_, fun l hl hk => ⟨fun hr => takes ?_, fun h1 h2 => drops ?_⟩⟩
    · refine Eq.trans ?_ (hset _)
      rw [takeCargo_duplicate hp hl, ← hid]; rfl
    · refine Eq.trans ?_ (hset _)
      rw [takeCargo_unreadable hp hl hk, discardCargo_eq, hdis, acceptSeq_eq, ← hid, ← hacc]; rfl
    · have hroom := (cargoRoom_iff p f.toNat).2 (by
        rw [hres, hin]
        rcases hr with ⟨st, hr⟩ | ⟨hr, hl⟩ | hl
        · exact .inl ⟨if st = .window then .heard else st, by rw [heardReserved, hr]; cases st <;> rfl⟩
        · exact .inr (by rw [heardReserved, hr]; exact hl)
        · exact .inr (by split <;> omega))
      refine Eq.trans ?_ (hset _)
      rw [takeCargo_room hp hl hk hroom, acceptSeq_eq, ← hid, ← hacc, ← hin]; rfl
    · refine takeCargo_noRoom hp hl hk (Bool.eq_false_iff.2 fun ha => ?_)
      rcases (cargoRoom_iff p f.toNat).1 ha with ⟨st, hr⟩ | hr
      · rw [hres] at hr
        obtain ⟨⟨m, st0⟩, h0, hm⟩ := Option.map_eq_some_iff.1 hr
        have hm : m = f.toNat := by split at hm <;> exact congrArg Prod.fst hm
        exact h1 st0 (hm ▸ h0)
      · rw [hres, hin] at hr
        rw [heardReserved, Option.isSome_map] at hr
        omega
  · exact congrArg finish (if_neg (by simp [hc]))
  · exact cargoReceived_endsIn hc ((hearCargo_other (by simp [h]) (by simp [h])).trans
      ((answerProbe_eq (heard_probeOpen hq)).trans (heard_asleep h)))
  · have hn : s.pbc.node ≠ .checking := by rcases h with h | h | h | ⟨h, -⟩ <;> simp [h]
    refine cargoReceived_endsIn hc ((hearCargo_other hn fun hm => ?_).trans (answerProbe_eq (heard_probeOpen hq)))
    rcases h with h | h | h | ⟨-, h⟩
    · simp [h] at hm
    · simp [h] at hm
    · simp [h] at hm
    · exact h

end Sys2Proof.Machine
end


section
/-! SUPPORT. The answers of an outbound exchange (O29). -/

namespace Sys2Proof.Machine

section
variable {s : State} {f t : Byte}

/-! ### Awaited answers (R20, R21) -/

/-- A frame to a MEMBER that holds the turn and passes nothing leaves it as it was, but for the reservation. -/
theorem heard_holding (h : s.pbc.node = .member) (hh : s.pbc.turn.holds = true) (hp : ¬ passing s.pbc) (hq : probeOpen s.pbc = false) :
    lapseReservation (noteActivity s) = { s with pbc := { s.pbc with reserved := none } } := by
  rw [noteActivity_plain (.inl h) hp hq]
  unfold heardPlainly
  rw [if_neg (by simp [hh])]
  rfl

theorem answers_true {p : Pbc} {n : Nat} (h : p.node = .member) (ho : p.windowOpen = true) (hf : f.toNat = n) (ht : t.toNat = p.id) :
    answers p n f t = true := by simp [answers, h, ho, hf, ht]

theorem not_passing_of {w : Work} (h : s.pbc.work = w) (hw : ∀ n a, w ≠ .pass n a) : ¬ passing s.pbc :=
  fun ⟨_, n, a, he⟩ => hw n a (h.symm.trans he)

theorem probeOpen_of {w : Work} (h : s.pbc.work = w) (hw : ∀ c n b, w ≠ .probe c n b) : probeOpen s.pbc = false := by
  unfold probeOpen
  rw [h]
  cases w with
  | probe c n b => exact absurd rfl (hw c n b)
  | _ => simp

theorem hearRoom_awaited (h : s.pbc.node = .member) (hh : s.pbc.turn.holds = true) (ho : s.pbc.windowOpen = true) (ht : t.toNat = s.pbc.id)
    (hw : s.pbc.work = .ask f.toNat) :
    hearRoom f t s = answerProbe (sendLamps f.toNat { s with pbc := { s.pbc with reserved := none } }) := by
  unfold hearRoom
  rw [heard_eq [f, t] (by simp [h]), heard_holding h hh (not_passing_of hw nofun) (probeOpen_of hw nofun)]
  simp only [hw]
  exact congrArg answerProbe (if_pos (answers_true h ho rfl ht))

theorem hearNoroom_awaited (h : s.pbc.node = .member) (hh : s.pbc.turn.holds = true) (ho : s.pbc.windowOpen = true)
    (ht : t.toNat = s.pbc.id) (hw : s.pbc.work = .ask f.toNat) :
    hearNoroom f t s = nextExchange (stallPanel f.toNat { s with pbc := { s.pbc with reserved := none } }) := by
  unfold hearNoroom
  rw [heard_eq [f, t] (by simp [h]), heard_holding h hh (not_passing_of hw nofun) (probeOpen_of hw nofun)]
  simp only [hw]
  exact (congrArg answerProbe (if_pos (answers_true h ho rfl ht))).trans (answerProbe_closed nextExchange_windowOpen)

theorem hearGot_awaited {l : List (Nat × Image)} (h : s.pbc.node = .member) (hh : s.pbc.turn.holds = true) (ho : s.pbc.windowOpen = true)
    (ht : t.toNat = s.pbc.id) (hw : s.pbc.work = .cargo f.toNat l) :
    hearGot f t s = nextExchange (confirmLamps f.toNat l { s with pbc := { s.pbc with reserved := none } }) := by
  unfold hearGot
  rw [heard_eq [f, t] (by simp [h]), heard_holding h hh (not_passing_of hw nofun) (probeOpen_of hw nofun)]
  simp only [hw]
  exact (congrArg answerProbe (if_pos (answers_true h ho rfl ht))).trans (answerProbe_closed nextExchange_windowOpen)

/-! ### What the answers do to the panel's entry -/

variable {p : Nat} {link : Link} {stall : Nat} {ask : Option Millis}

theorem presence_onMember {g : Link → Nat → Option Millis → Presence} (h : s.pbc.presence p = some (.member link stall ask)) :
    (onMember p g s).pbc.presence p = some (g link stall ask) := presence_tmodify (p := s.pbc) rfl h

theorem entry_onMember_ne (g : Link → Nat → Option Millis → Presence) (s : State) {m : Nat} (h : m ≠ p) :
    (onMember p g s).pbc.entry m = s.pbc.entry m := by
  unfold Pbc.entry onMember
  rw [tfind_tmodify, if_neg h]

/-- The desired images a LAMPS cargo carries (R20, log 40). -/
def lampsFor (s : State) (p : Nat) (link : Link) : List (Nat × Image) :=
  (link.dirty.take 16).map fun k => (k, ((s.kd.key p k).map (·.image)).getD ⟨.off, .steady⟩)

theorem sendLamps_member (h : s.pbc.presence p = some (.member link stall ask)) : sendLamps p s =
    sendAndWait (.cargo s.pbc.id p link.outSeq (lampsFor s p link)) (.cargo p (lampsFor s p link))
      (onMember p (fun link _ _ => .member { link with outSeq := (link.outSeq + 1) % 256 } 0 none) s) := by
  unfold sendLamps; simp only [h]; rfl

theorem stallPanel_member (h : s.pbc.presence p = some (.member link stall ask)) :
    let n := if stall < 255 then stall + 1 else stall
    let stalls := ask.isNone && decide (s.pbc.timing.stallLimit ≤ n)
    stallPanel p s = setFlagIf stalls .bus (onMember p (fun link _ a => .member link n (if stalls then some s.now else a)) s) := by
  intro n stalls
  unfold stallPanel; simp only [h]; rfl

/-- One key that a GOT confirms (R20). -/
def confirmOne (desired : Nat → Option Image) (l : Link) (c : Nat × Image) : Link :=
  { l with sent := l.sent.set c.1 (some c.2), dirty := if desired c.1 = some c.2 then l.dirty.filter (· != c.1) else l.dirty }

theorem confirmLamps_eq (p : Nat) (l : List (Nat × Image)) (s : State) : confirmLamps p l s =
    onMember p (fun link stall ask => .member (l.foldl (confirmOne fun k => (s.kd.key p k).map (·.image)) link) stall ask) s := rfl

/-- What a GOT confirms of a cargo that carries each key once. -/
structure Confirms (desired : Nat → Option Image) (l : List (Nat × Image)) (link after : Link) : Prop where
  length : after.sent.length = link.sent.length
  outSeq : after.outSeq = link.outSeq
  lastIn : after.lastIn = link.lastIn
  carried : ∀ k i, (k, i) ∈ l → k < link.sent.length → after.sent[k]? = some (some i)
  others : ∀ k, k ∉ l.map (·.1) → after.sent[k]? = link.sent[k]? ∧ (k ∈ after.dirty ↔ k ∈ link.dirty)
  dirty : ∀ k i, (k, i) ∈ l → (k ∈ after.dirty ↔ k ∈ link.dirty ∧ desired k ≠ some i)

theorem confirmOne_dirty (desired : Nat → Option Image) (l : Link) (c : Nat × Image) (k : Nat) :
    k ∈ (confirmOne desired l c).dirty ↔ k ∈ l.dirty ∧ ¬ (k = c.1 ∧ desired k = some c.2) := by
  unfold confirmOne
  dsimp only
  split
  next h =>
    rw [List.mem_filter, bne_iff_ne]
    refine and_congr_right fun _ => not_congr ⟨fun e => ⟨e, e ▸ h⟩, And.left⟩
  next h => exact ⟨fun hk => ⟨hk, fun e => h (e.1 ▸ e.2)⟩, And.left⟩

theorem confirms_foldl (desired : Nat → Option Image) (l : List (Nat × Image)) (link : Link) (h : (l.map (·.1)).Nodup) :
    Confirms desired l link (l.foldl (confirmOne desired) link) := by
  induction l generalizing link with
  | nil => exact ⟨rfl, rfl, rfl, nofun, fun k _ => ⟨rfl, Iff.rfl⟩, nofun⟩
  | cons c l ih =>
    obtain ⟨hc, hl⟩ := List.nodup_cons.1 h
    obtain ⟨length, outSeq, lastIn, carried, others, dirty⟩ := ih (confirmOne desired link c) hl
    have h0 : (confirmOne desired link c).sent.length = link.sent.length := List.length_set ..
    rw [List.foldl_cons]
    refine ⟨length.trans h0, outSeq, lastIn, fun k i hk hlt => ?_, fun k hk => ?_, fun k i hk => ?_⟩
    · rcases List.mem_cons.1 hk with rfl | hk
      · rw [(others k hc).1]
        exact List.getElem?_set_self hlt
      · exact carried k i hk (h0 ▸ hlt)
    · obtain ⟨hne, hk⟩ := not_or.1 (mt List.mem_cons.2 hk)
      obtain ⟨h1, h2⟩ := others k hk
      refine ⟨h1.trans (List.getElem?_set_ne (Ne.symm hne)), h2.trans ?_⟩
      rw [confirmOne_dirty]
      exact and_iff_left fun e => hne e.1
    · rcases List.mem_cons.1 hk with rfl | hk
      · rw [(others k hc).2, confirmOne_dirty]
        exact and_congr_right fun _ => not_congr (and_iff_right rfl)
      · rw [dirty k i hk, confirmOne_dirty]
        have hne : k ≠ c.1 := fun e => hc (by change c.1 ∈ _; rw [← e]; exact List.mem_map_of_mem (f := (·.1)) hk)
        simp [hne]

end

end Sys2Proof.Machine
end


section
/-! SUPPORT. ROOM, NOROOM and GOT, awaited and late (O29). -/

namespace Sys2Proof.Machine

section
variable {s : State} {f t : Byte}

/-- What a late answer leaves: activity, and the reservation lapses (R15, R22). -/
theorem heard_late (h : s.pbc.node = .member ∨ s.pbc.node = .sweeping) (hq : probeOpen s.pbc = false) :
    (¬ passing s.pbc → lapseReservation (noteActivity s) =
      { s with
        pbc := { (if s.pbc.node = .member ∧ s.pbc.turn.holds = false then { s.pbc with silentSince := some s.now } else s.pbc) with
          reserved := none } })
    ∧ (passing s.pbc → lapseReservation (noteActivity s) =
      { s with
        pbc := { s.pbc with
          work := .idle, windowOpen := false, turn := { s.pbc.turn with holds := false }, silentSince := some s.now
          reserved := none } }) :=
  ⟨fun hp => by rw [noteActivity_plain h hp hq]; rfl, fun hp => by rw [noteActivity_passing h hp]; rfl⟩

theorem heard_noting (h : s.pbc.node = .listening ∨ s.pbc.node = .conflict) :
    lapseReservation (noteActivity s) = { s with pbc := { s.pbc with activitySeen := true, reserved := none } } := by
  rw [noteActivity_noting h]; rfl

/-- Where no exchange awaits the answer, it is activity alone. -/
structure Unawaited (s : State) (f t : Byte) : Prop where
  room : ∀ p, (lapseReservation (noteActivity s)).pbc.work = .ask p → answers (lapseReservation (noteActivity s)).pbc p f t = false
  got : ∀ p l, (lapseReservation (noteActivity s)).pbc.work = .cargo p l →
    answers (lapseReservation (noteActivity s)).pbc p f t = false

theorem unawaited_offBus (h : s.pbc.node ≠ .member) : Unawaited s f t := by
  have hn : ((lapseReservation (noteActivity s)).pbc.node == .member) = false := by
    rw [show (lapseReservation (noteActivity s)).pbc.node = s.pbc.node from noteActivity_node s]
    simpa using h
  have (p : Nat) : answers (lapseReservation (noteActivity s)).pbc p f t = false := by unfold answers; rw [hn]; rfl
  exact ⟨fun p _ => this p, fun p _ _ => this p⟩

/-- A frame that finds an open window of an exchange leaves the window and the work as they were. -/
theorem heard_work (h : s.pbc.node = .member ∨ s.pbc.node = .sweeping) (hq : probeOpen s.pbc = false)
    (ho : (lapseReservation (noteActivity s)).pbc.windowOpen = true) :
    s.pbc.windowOpen = true ∧ (lapseReservation (noteActivity s)).pbc.work = s.pbc.work := by
  obtain ⟨h1, h2⟩ := heard_late h hq
  by_cases hp : passing s.pbc
  · rw [h2 hp] at ho; cases ho
  · rw [h1 hp] at ho ⊢
    split at ho <;> exact ⟨ho, by split <;> rfl⟩

theorem answers_iff {p : Pbc} {n : Nat} : answers p n f t = true ↔
    p.node = .member ∧ p.windowOpen = true ∧ f.toNat = n ∧ t.toNat = p.id := by
  simp [answers, and_assoc]

theorem room_unasked (h : s.pbc.node = .member) (hq : probeOpen s.pbc = false)
    (hn : ¬ (s.pbc.windowOpen = true ∧ t.toNat = s.pbc.id ∧ s.pbc.work = .ask f.toNat)) (p : Nat)
    (hw : (lapseReservation (noteActivity s)).pbc.work = .ask p) : answers (lapseReservation (noteActivity s)).pbc p f t = false := by
  refine Bool.eq_false_iff.2 fun ha => hn ?_
  obtain ⟨-, ho, rfl, ht⟩ := answers_iff.1 ha
  obtain ⟨ho, he⟩ := heard_work (.inl h) hq ho
  exact ⟨ho, ht.trans (noteActivity_fields s).1, he.symm.trans hw⟩

theorem got_uncarried (h : s.pbc.node = .member) (hq : probeOpen s.pbc = false)
    (hn : ¬ (s.pbc.windowOpen = true ∧ t.toNat = s.pbc.id ∧ ∃ lamps, s.pbc.work = .cargo f.toNat lamps)) (p : Nat)
    (l : List (Nat × Image)) (hw : (lapseReservation (noteActivity s)).pbc.work = .cargo p l) :
    answers (lapseReservation (noteActivity s)).pbc p f t = false := by
  refine Bool.eq_false_iff.2 fun ha => hn ?_
  obtain ⟨-, ho, rfl, ht⟩ := answers_iff.1 ha
  obtain ⟨ho, he⟩ := heard_work (.inl h) hq ho
  exact ⟨ho, ht.trans (noteActivity_fields s).1, l, he.symm.trans hw⟩

/-- An answer that is not awaited ends in the state activity leaves. -/
theorem room_late (hf : nodeByte f = true) (ht : nodeByte t = true) (hc : s.pbc.node ≠ .checking) (hq : probeOpen s.pbc = false)
    (hn : ∀ p, (lapseReservation (noteActivity s)).pbc.work = .ask p → answers (lapseReservation (noteActivity s)).pbc p f t = false) :
    EndsIn (.roomReceived f t) s (lapseReservation (noteActivity s))
    ∧ EndsIn (.noroomReceived f t) s (lapseReservation (noteActivity s)) :=
  ⟨roomReceived_endsIn hf ht ((hearRoom_unasked (heard_eq [f, t] hc) hn).trans (answerProbe_eq (heard_probeOpen hq))),
    noroomReceived_endsIn hf ht ((hearNoroom_unasked (heard_eq [f, t] hc) hn).trans (answerProbe_eq (heard_probeOpen hq)))⟩

theorem got_late (hf : nodeByte f = true) (ht : nodeByte t = true) (hc : s.pbc.node ≠ .checking) (hq : probeOpen s.pbc = false)
    (hn : ∀ p l, (lapseReservation (noteActivity s)).pbc.work = .cargo p l →
      answers (lapseReservation (noteActivity s)).pbc p f t = false) :
    EndsIn (.gotReceived f t) s (lapseReservation (noteActivity s)) :=
  gotReceived_endsIn hf ht ((hearGot_unasked (heard_eq [f, t] hc) hn).trans (answerProbe_eq (heard_probeOpen hq)))

theorem answer_offBus {i : Instr} (hf : nodeByte f = true) (ht : nodeByte t = true) (hc : s.pbc.node ≠ .checking)
    (hm : s.pbc.node ≠ .member) (hq : probeOpen s.pbc = false)
    (hi : i = .roomReceived f t ∨ i = .noroomReceived f t ∨ i = .gotReceived f t) :
    EndsIn i s (lapseReservation (noteActivity s)) := by
  obtain ⟨hr, hg⟩ := unawaited_offBus (f := f) (t := t) hm
  rcases hi with rfl | rfl | rfl
  · exact (room_late hf ht hc hq hr).1
  · exact (room_late hf ht hc hq hr).2
  · exact got_late hf ht hc hq hg

end

/-- Settles O29: the awaited answers, what they do to the panel's entry, and the late ones. -/
theorem exchangeAnswers : Obligations.ExchangeAnswers := by
  refine ⟨fun f t s hf ht h hh ho hid => ?_, fun p link stall ask s hp => ⟨?_, fun lamps hl => ?_⟩, fun f t s => ?_⟩
  · intro v
    refine ⟨fun link stall ask hw hp => ?_, fun hw => noroomReceived_endsIn hf ht (hearNoroom_awaited h hh ho hid hw),
      fun lamps hw => gotReceived_endsIn hf ht (hearGot_awaited h hh ho hid hw)⟩
    intro lamps
    have hs : sendLamps f.toNat v = _ := sendLamps_member (s := v) hp
    refine ⟨sendLamps f.toNat v, roomReceived_endsIn hf ht ((hearRoom_awaited h hh ho hid hw).trans ?_), ?_⟩
    · rw [hs]; exact answerProbe_closed rfl
    · rw [hs]
      refine ⟨?_, rfl, presence_onMember (s := v) hp, fun n hn => entry_onMember_ne _ v hn⟩
      intro q hq; cases q <;> first | rfl | simp at hq
  · intro n stalls
    have e := stallPanel_member hp
    have hst : stalls ↔ (ask.isNone && decide (s.pbc.timing.stallLimit ≤ n)) = true := by
      rw [Bool.and_eq_true, Option.isNone_iff_eq_none, decide_eq_true_eq]
    refine ⟨stallPanel_frame p s, ?_, ?_, ?_, fun m hm => ?_⟩
    · rw [e, setFlagIf_pbc]
      refine (presence_onMember hp).trans ?_
      simp only [hst]; rfl
    · have hc (b : Bool) (u : State) (hu : u.cp = s.cp) :
          (setFlagIf b .bus u).cp = { s.cp with flags := if b then s.cp.flags ||| 2 else s.cp.flags } := by
        rw [← hu]; cases b <;> rfl
      rw [e]
      refine Eq.trans (hc _ _ ?_) ?_
      · rfl
      · simp only [hst]; rfl
    · rw [e, setFlagIf_pbc]; rfl
    · rw [e, setFlagIf_pbc]; exact entry_onMember_ne _ s hm
  · rw [confirmLamps_eq]
    obtain ⟨length, outSeq, lastIn, carried, others, dirty⟩ := confirms_foldl (fun k => (s.kd.key p k).map (·.image)) lamps link hl
    refine ⟨?_, rfl, fun m hm => entry_onMember_ne _ s hm, _, presence_onMember hp, length, outSeq, lastIn, carried, others, dirty⟩
    intro q hq; cases q <;> first | rfl | simp at hq
  · intro ends passes asked carried late
    have both {i : Instr} (h : s.pbc.node = .member ∨ s.pbc.node = .sweeping) (hq : probeOpen s.pbc = false)
        (hi : EndsIn i s (lapseReservation (noteActivity s))) : late i := by
      obtain ⟨h1, h2⟩ := heard_late h hq
      exact ⟨fun hp => by rw [h1 hp] at hi; exact hi, fun hp => by rw [h2 hp] at hi; exact hi⟩
    refine ⟨fun hf ht hq => ⟨fun i hi => ⟨fun h => ?_, fun h => ?_, fun h => ?_⟩, fun h => ⟨fun hn => ?_, fun hn => ?_⟩⟩,
      fun hb i hi => ?_⟩
    · have := answer_offBus hf ht (by simp [h]) (by simp [h]) hq hi
      rwa [heard_asleep h] at this
    · have := answer_offBus hf ht (by rcases h with h | h <;> simp [h]) (by rcases h with h | h <;> simp [h]) hq hi
      rwa [heard_noting h] at this
    · exact both (.inr h) hq (answer_offBus hf ht (by simp [h]) (by simp [h]) hq hi)
    · obtain ⟨hr, hn⟩ := room_late hf ht (by simp [h]) hq (room_unasked h hq hn)
      exact ⟨both (.inl h) hq hr, both (.inl h) hq hn⟩
    · exact both (.inl h) hq (got_late hf ht (by simp [h]) hq (got_uncarried h hq hn))
    · have hc : ¬ (nodeByte f && nodeByte t) = true := by
        rw [Bool.and_eq_true]
        rcases hb with hb | hb <;> simp [hb]
      rcases hi with rfl | rfl | rfl <;> exact congrArg finish (if_neg hc)

end Sys2Proof.Machine
end


section
/-! SUPPORT. How a probe is classified and where it ends (O30). -/

namespace Sys2Proof.Machine

section
variable {s : State}

/-! ### What counts as a change (R6, R14) -/

theorem ProbeLeaves.self {n : Nat} {s t : State} {x : Option RosterEntry} {kd : List PanelNotice} {rc : List Nat}
    (h : ProbeLeaves n s t x kd rc) : t.pbc.entry n = x := (h.entry n).trans (if_pos rfl)

theorem newMember_ne {i : PanelInfo} {e : RosterEntry} (h : e.isMember = false ∨ e.info ≠ some i) : newMember i ≠ e := by
  rintro rfl
  rcases h with h | h
  · exact Bool.noConfusion h
  · exact h rfl

theorem probeChanges_iff (n : Nat) (r : ProbeResult) :
    probeChanges r (s.pbc.entry n) = true ↔ (applyProbe n r s).pbc.entry n ≠ s.pbc.entry n := by
  rcases he : s.pbc.entry n with _ | e
  · have row (i : PanelInfo) := probe_new (i := i) he
    cases r with
    | present i => rw [(row i).1.self]; simp [probeChanges]
    | contested => rw [(row ⟨.intercom, 0, 0⟩).2.1.self]; simp [probeChanges]
    | absent => rw [(row ⟨.intercom, 0, 0⟩).2.2.self]; simp [probeChanges]
  · rcases hp : e.presence with ⟨link, stall, ask⟩ | since | _
    · have hm : e.isMember = true := by simp [RosterEntry.isMember, hp]
      have row (i : PanelInfo) := probe_member (i := i) he hm
      cases r with
      | present i =>
        obtain ⟨same, unit, other, -, -⟩ := row i
        by_cases hi : e.info = some i
        · rw [(same hi).self]; simp [probeChanges, hm, hi]
        · have hne := newMember_ne (i := i) (e := e) (.inr hi)
          rcases hu : e.sameUnit i with _ | _
          · rw [(other hu).self]; simp [probeChanges, hm, hi, hne]
          · rw [(unit hi hu).self]; simp [probeChanges, hm, hi, hne]
      | contested =>
        rw [(row ⟨.intercom, 0, 0⟩).2.2.2.1.self]
        have : ({ e with presence := .contested } : RosterEntry) ≠ e := fun h => by simpa [hp] using congrArg RosterEntry.presence h
        simp [probeChanges, hp, this]
      | absent =>
        rw [(row ⟨.intercom, 0, 0⟩).2.2.2.2.self]
        have : ({ e with presence := .absent s.now } : RosterEntry) ≠ e := fun h => by simpa [hp] using congrArg RosterEntry.presence h
        simp [probeChanges, hp, this]
    · have hm : e.isMember = false := by simp [RosterEntry.isMember, hp]
      have row (i : PanelInfo) := probe_absent (i := i) he hp
      cases r with
      | present i =>
        have hne := newMember_ne (i := i) (e := e) (.inl hm)
        obtain ⟨same, other, -, -⟩ := row i
        rcases hu : e.sameUnit i with _ | _
        · rw [(other hu).self]; simp [probeChanges, hm, hne]
        · rw [(same hu).self]; simp [probeChanges, hm, hne]
      | contested =>
        rw [(row ⟨.intercom, 0, 0⟩).2.2.1.self]
        have : ({ e with presence := .contested } : RosterEntry) ≠ e := fun h => by simpa [hp] using congrArg RosterEntry.presence h
        simp [probeChanges, hp, this]
      | absent => rw [(row ⟨.intercom, 0, 0⟩).2.2.2.self]; simp [probeChanges, hp]
    · have hm : e.isMember = false := by simp [RosterEntry.isMember, hp]
      have row (i : PanelInfo) := probe_contested (i := i) he hp
      cases r with
      | present i => rw [(row i).1.self]; simp [probeChanges, hm, newMember_ne (i := i) (e := e) (.inl hm)]
      | contested => rw [(row ⟨.intercom, 0, 0⟩).2.1.self]; simp [probeChanges, hp]
      | absent => rw [(row ⟨.intercom, 0, 0⟩).2.2.self]; simp [probeChanges, hp]

/-! ### Where a probe ends (R12, R14, R18) -/

theorem setFlagIf_eq (c : Bool) (g : Flag) (s : State) :
    setFlagIf c g s = { s with cp := { s.cp with flags := if c then s.cp.flags ||| g.bit else s.cp.flags } } := by cases c <;> rfl

theorem endProbe_next {n m : Nat} {b : Bool} (r : ProbeResult) (hw : s.pbc.work = .probe false n b)
    (hm : nextProbeId s.pbc.id n = some m) : endProbe r s =
      { s with
        pbc := { s.pbc with
          results := tput s.pbc.results n r, tx := s.pbc.tx ++ [.probe m], work := .probe false m false, windowOpen := false } } := by
  unfold endProbe; simp only [hw, hm]; rfl

theorem endProbe_last {n : Nat} {b : Bool} (r : ProbeResult) (hw : s.pbc.work = .probe false n b) (hm : nextProbeId s.pbc.id n = none) :
    endProbe r s =
      completeSweep { s with pbc := { s.pbc with results := tput s.pbc.results n r, windowOpen := false } } := by
  unfold endProbe; simp only [hw, hm]

theorem endProbe_census {n : Nat} {b : Bool} (r : ProbeResult) (hw : s.pbc.work = .probe true n b) :
    let u := applyProbe n r s
    let changed := probeChanges r (s.pbc.entry n)
    endProbe r s = nextExchange
      { u with
        cp := { u.cp with flags := if changed then u.cp.flags ||| 1 else u.cp.flags }
        pbc := { u.pbc with
          work := .idle, windowOpen := false
          tx := if (u.pbc.entry n).any (·.isMember) && changed then u.pbc.tx ++ [.ring u.pbc.ring] else u.pbc.tx } } := by
  intro u changed
  unfold endProbe
  simp only [hw, setFlagIf_eq]
  change nextExchange (if ((u.pbc.entry n).any (·.isMember) && changed) = true then _ else _) = _
  split <;> rfl

/-! ### A frame in an open probe window (R11, R13) -/

theorem probeOpen_intro {p : Pbc} {c : Bool} {n : Nat} {b : Bool} (ho : p.windowOpen = true) (hw : p.work = .probe c n b) :
    probeOpen p = true := by unfold probeOpen; rw [ho, hw]; rfl

theorem heard_probing (h : s.pbc.node = .member ∨ s.pbc.node = .sweeping) {c : Bool} {n : Nat} {b : Bool} (ho : s.pbc.windowOpen = true)
    (hw : s.pbc.work = .probe c n b) :
    (lapseReservation (noteActivity s)).pbc.work = .probe c n true ∧ (lapseReservation (noteActivity s)).pbc.windowOpen = true := by
  rw [noteActivity_probing h ho hw]; exact ⟨rfl, ho⟩

theorem answerProbe_heard (ho : probeOpen s.pbc = true) :
    answerProbe (lapseReservation (noteActivity s)) = endProbe .contested (lapseReservation (noteActivity s)) :=
  answerProbe_open ((probeOpen_noteActivity s).trans ho)

theorem hearHere_probing {f k b : Byte} {unit : BitVec 32} (hc : s.pbc.node ≠ .checking) {c : Bool} {n : Nat} {x : Bool}
    (hw : (lapseReservation (noteActivity s)).pbc.work = .probe c n x)
    (ho : (lapseReservation (noteActivity s)).pbc.windowOpen = true) :
    hearHere f k unit b s =
      endProbe (if f.toNat = n then .present ⟨.ofCode k.toNat, unit, b.toNat⟩ else .contested) (lapseReservation (noteActivity s)) := by
  unfold hearHere
  rw [heard_eq [f] hc]
  dsimp only
  rw [hw, ho]

theorem closeProbe_open {c : Bool} {n : Nat} {b : Bool} (ho : s.pbc.windowOpen = true) (hw : s.pbc.work = .probe c n b) :
    closeProbe s = endProbe (if b then .contested else .absent) s := by unfold closeProbe; rw [hw, ho]

theorem closeProbe_closed (h : probeOpen s.pbc = false) : closeProbe s = s := by
  unfold closeProbe
  split
  next hw ho => exact absurd ((probeOpen_intro ho hw).symm.trans h) (by decide)
  next => rfl

end

/-- Settles O30: what each frame makes of an open probe window, and where a probe ends. -/
theorem probesAreClassifiedAndEnd : Obligations.ProbesAreClassifiedAndEnd := by
  refine ⟨fun c heard n f k b unit s hc hn => ?_, fun r n m heard s => ?_⟩
  · intro v
    have hn : s.pbc.node = .member ∨ s.pbc.node = .sweeping := hn.symm
    have hk : s.pbc.node ≠ .checking := by rcases hn with h | h <;> simp [h]
    have ha : s.pbc.node ≠ .asleep := by rcases hn with h | h <;> simp [h]
    refine ⟨fun hw ho => ?_, fun hq => ?_⟩
    · obtain ⟨vw, vo⟩ := heard_probing hn ho hw
      have open' : probeOpen s.pbc = true := probeOpen_intro ho hw
      have hend : answerProbe v = endProbe .contested v := answerProbe_heard open'
      have hpass : ¬ passing s.pbc := not_passing_of hw nofun
      refine ⟨fun hf => ?_, fun hf => ?_, fun o hoc => ?_, fun x y hx hy => ⟨?_, ?_, ?_, fun hh => ⟨?_, ?_⟩⟩, fun x y q payload hxy => ?_,
        endsIn_of rfl (closeProbe_open ho hw)⟩
      · exact hereReceived_endsIn hc ((hearHere_probing hk vw vo).trans (by rw [if_pos hf]))
      · exact hereReceived_endsIn hc ((hearHere_probing hk vw vo).trans (by rw [if_neg hf]))
      · exact otherReceived_endsIn hoc ha (by rw [heard_eq _ hk]; exact hend)
      · exact roomReceived_endsIn hx hy ((hearRoom_unasked (heard_eq _ hk) fun p hp => nomatch vw.symm.trans hp).trans hend)
      · exact noroomReceived_endsIn hx hy ((hearNoroom_unasked (heard_eq _ hk) fun p hp => nomatch vw.symm.trans hp).trans hend)
      · exact gotReceived_endsIn hx hy ((hearGot_unasked (heard_eq _ hk) fun p l hp => nomatch vw.symm.trans hp).trans hend)
      · refine passReceived_endsIn hy ((hearPass_heard ?_).trans hend)
        rcases hn with hm | hm
        · exact .inr ⟨hm, .inr ⟨hh, hpass⟩⟩
        · exact .inl hm
      · exact askReceived_endsIn hx hy ((hearAsk_silent hk fun _ => .inr fun h => by
          rcases h with h | h
          · exact absurd (h.symm.trans hh) (by decide)
          · exact hpass h).trans hend)
      · by_cases hm : s.pbc.node = .member ∧ y.toNat = s.pbc.id
        · rw [if_pos hm]
          refine cargoReceived_endsIn hxy ((hearCargo_member hm.1 hm.2).trans (answerProbe_open ?_))
          rw [takeCargo_probeOpen, probeOpen_noteActivity]; exact open'
        · rw [if_neg hm]
          exact cargoReceived_endsIn hxy ((hearCargo_other hk fun h ht => hm ⟨h, ht⟩).trans hend)
    · have hv : probeOpen v.pbc = false := heard_probeOpen hq
      refine ⟨hereReceived_endsIn hc ?_, fun o hoc => otherReceived_endsIn hoc ha ?_, endsIn_of rfl (closeProbe_closed hq)⟩
      · rw [hearHere_closed (by rw [heard_eq _ hk]; exact hv), heard_eq _ hk]
      · rw [heard_eq _ hk]; exact answerProbe_eq hv
  · refine ⟨probeChanges_iff n r, fun hw hm => endProbe_next r hw hm, fun hw hm => ?_, fun hw => endProbe_census r hw⟩
    intro results u changed
    rw [endProbe_last r hw hm]
    unfold completeSweep
    simp only [setFlagIf_eq]
    rfl

end Sys2Proof.Machine
end


section
/-! SUPPORT. What stands of the path table while TE recomputes gains and ML sends them: the causes, and all that a target reads (O20,
O33, O60). -/

namespace Sys2Proof.Machine

variable {s t : State}

/-! ### What a target reads -/

/-- What stands of an entry while gains are recomputed and sent: all that a target reads of it, and its causes. -/
structure PathShape where
  talker : Nat
  listener : Nat
  opened : Bool
  level : Int
  causes : List Cause

def PathEntry.shape (e : PathEntry) : PathShape := ⟨e.talker, e.listener, e.opened, e.level, e.causes⟩

/-- The path tables of `a` and `b` agree in the shapes of their entries. -/
structure SameShapes (a b : Tab PathEntry) : Prop where
  find : ∀ key, (tfind b key).map (·.shape) = (tfind a key).map (·.shape)
  any : ∀ f : Nat → PathShape → Bool, (b.any fun kv => f kv.1 kv.2.shape) = a.any fun kv => f kv.1 kv.2.shape

theorem SameShapes.refl (a : Tab PathEntry) : SameShapes a a := ⟨fun _ => rfl, fun _ => rfl⟩

theorem SameShapes.trans {a b c : Tab PathEntry} (h : SameShapes a b) (k : SameShapes b c) : SameShapes a c :=
  ⟨fun key => (k.find key).trans (h.find key), fun f => (k.any f).trans (h.any f)⟩

/-- What holds of every shape of `a` holds of every shape of `b`. -/
theorem SameShapes.all {a b : Tab PathEntry} {P : Nat → PathShape → Prop} (h : SameShapes a b)
    (ha : ∀ kv ∈ a, P kv.1 kv.2.shape) : ∀ kv ∈ b, P kv.1 kv.2.shape := by
  classical
  intro kv hkv
  by_contra hn
  have hb : (b.any fun kv => !decide (P kv.1 kv.2.shape)) = true := List.any_eq_true.2 ⟨kv, hkv, by simpa using hn⟩
  rw [h.any fun key sh => !decide (P key sh)] at hb
  obtain ⟨kv, hm, hf⟩ := List.any_eq_true.1 hb
  exact absurd (ha kv hm) (by simpa using hf)

theorem SameShapes.isOpen {te : Te} {a : Tab PathEntry} (h : SameShapes te.paths a) (x l : Nat) :
    ({ te with paths := a } : Te).isOpen x l = te.isOpen x l := by
  have e := h.find (pairKey x l)
  have opened (o : Option PathEntry) : o.any (·.opened) = (o.map (·.shape)).any (·.opened) := by cases o <;> rfl
  unfold Te.isOpen Te.entry
  rw [opened, opened, e]

theorem SameShapes.ducked {te : Te} {a : Tab PathEntry} (h : SameShapes te.paths a) (x l : Nat) :
    ({ te with paths := a } : Te).ducked x l = te.ducked x l :=
  congrArg (fun b => ((te.port l).kind == .ifb && (te.port l).program == some x && b))
    (h.any fun _ sh => sh.listener == l && sh.talker != x && sh.opened)

/-- A target reads of the path table only the shapes. -/
theorem targetGain_sameShapes {te : Te} {a : Tab PathEntry} {e e' : PathEntry} (h : SameShapes te.paths a)
    (he : e'.shape = e.shape) : targetGain { te with paths := a } e' = targetGain te e := by
  obtain ⟨ht, hl, ho, hv, -⟩ := PathShape.mk.inj he
  unfold targetGain Te.dimOf
  rw [h.isOpen, h.ducked, ht, hl, ho, hv]
  rfl

/-- An entry put in the place of one of its shape. -/
theorem sameShapes_tput {paths : Tab PathEntry} {key : Nat} {e e' : PathEntry} (hf : tfind paths key = some e)
    (he : e'.shape = e.shape) : SameShapes paths (tput paths key e') := by
  refine ⟨fun j => ?_, fun f => ?_⟩
  · rw [tfind_tput]
    split
    · next hj => rw [hj, hf, Option.map_some, Option.map_some, he]
    · rfl
  · have back : ∀ paths : Tab PathEntry, tfind paths key = some e →
        ((tput paths key e').any fun kv => f kv.1 kv.2.shape) = paths.any fun kv => f kv.1 kv.2.shape := by
      intro paths
      induction paths with
      | nil => intro h; cases h
      | cons kv paths ih =>
        obtain ⟨k, x⟩ := kv
        intro h
        unfold tput
        split
        · have hm : ((k, x) :: paths).any (fun kv => f kv.1 kv.2.shape) = true ∨ f key e.shape = false := by
            cases hfe : f key e.shape with
            | false => exact .inr rfl
            | true => exact .inl (List.any_eq_true.2 ⟨(key, e), mem_of_tfind h, hfe⟩)
          rw [List.any_cons, he]
          rcases hm with hm | hm
          · rw [hm, Bool.or_true]
          · rw [hm, Bool.false_or]
        · split
          · next hk =>
            have hx : x = e := by simpa [tfind, hk] using h
            rw [List.any_cons, List.any_cons, he, hx, ← hk]
          · next hk =>
            have hrest : tfind paths key = some e := by simpa [tfind, hk] using h
            rw [List.any_cons, List.any_cons, ih hrest]
    exact back paths hf

/-! ### What the steps of TE and ML leave of TE -/

theorem requeue_te (key : Nat) (g : Gain) (s : State) : (requeue key g s).te = s.te := by
  unfold requeue; split
  · split <;> rfl
  · rfl

theorem closedEntry_te (s : State) (key : Nat) : (closedEntry s key).te = s.te := by
  unfold closedEntry; split
  · rfl
  · split
    · rfl
    · split <;> rfl
    · rfl

/-- The GAIN of an entry goes out, its place in the queues being taken. -/
def gainSent (key : Nat) (s : State) : State :=
  match tfind s.te.paths key with
  | none => s
  | some e =>
    let s := setEntry key { e with sync := .sent } s
    { s with
      ml := { s.ml with
        outstanding := s.ml.outstanding ++ [⟨e.talker, e.listener, e.current, none⟩]
        tx := s.ml.tx ++ [.gain e.listener e.talker e.current] } }

theorem sendOneGain_eq {t : State} (ht : sendOneGain s = some t) : ∃ key ml, t = gainSent key { s with ml := ml } := by
  unfold sendOneGain at ht
  split at ht
  · cases ht
  · dsimp only at ht
    split at ht
    · next key rest _ => exact ⟨key, { s.ml with muteQueue := rest }, (Option.some.inj ht).symm⟩
    · next key rest _ _ => exact ⟨key, { s.ml with levelQueue := rest }, (Option.some.inj ht).symm⟩
    · cases ht

theorem settle_causes (e : PathEntry) : (settle e).causes = e.causes := by
  unfold settle; split <;> rfl

/-! ### Operations that leave every shape -/

/-- TE is left as it was but for the path table, whose shapes stand, and whose targets stand but for those of `touched`. -/
structure Retargeted (touched : Nat → Prop) (s t : State) : Prop where
  te : t.te = { s.te with paths := t.te.paths }
  shapes : SameShapes s.te.paths t.te.paths
  targets : ∀ key, ¬ touched key → (tfind t.te.paths key).map (·.target) = (tfind s.te.paths key).map (·.target)

variable {touched : Nat → Prop}

theorem Retargeted.of_te (h : t.te = s.te) : Retargeted touched s t :=
  ⟨by rw [h], by rw [h]; exact .refl _, fun key _ => by rw [h]⟩

theorem Retargeted.trans {u : State} (h : Retargeted touched s t) (k : Retargeted touched t u) : Retargeted touched s u :=
  ⟨by rw [k.te, h.te], h.shapes.trans k.shapes, fun key hk => (k.targets key hk).trans (h.targets key hk)⟩

theorem Retargeted.mono {more : Nat → Prop} (h : Retargeted touched s t) (hm : ∀ key, touched key → more key) :
    Retargeted more s t := ⟨h.te, h.shapes, fun key hk => h.targets key fun hk' => hk (hm key hk')⟩

/-- The target an entry would take stands with the shapes. -/
theorem Retargeted.targetGain (h : Retargeted touched s t) {e e' : PathEntry} (he : e'.shape = e.shape) :
    targetGain t.te e' = targetGain s.te e := by
  rw [h.te]; exact targetGain_sameShapes h.shapes he

theorem tfind_setEntry (key : Nat) (e : PathEntry) (s : State) (j : Nat) :
    tfind (setEntry key e s).te.paths j = if j = key then some e else tfind s.te.paths j := tfind_tput ..

theorem setEntry_retargets {key : Nat} {e e' : PathEntry} (hf : tfind s.te.paths key = some e) (he : e'.shape = e.shape)
    (ht : e'.target = e.target ∨ touched key) : Retargeted touched s (setEntry key e' s) := by
  refine ⟨rfl, sameShapes_tput hf he, fun j hj => ?_⟩
  rw [tfind_setEntry]
  split
  · next h =>
    subst h
    rw [hf, Option.map_some, Option.map_some, ht.resolve_right hj]
  · rfl

theorem setCurrent_retargets (key : Nat) (g : Gain) (s : State) : Retargeted touched s (setCurrent key g s) := by
  unfold setCurrent; split
  · exact .of_te rfl
  · next e he =>
    split
    · exact .of_te rfl
    · split
      · exact setEntry_retargets he rfl (.inl rfl)
      · have hset : Retargeted touched s (setEntry key { e with current := g, sync := .dirty } s) :=
          setEntry_retargets he rfl (.inl rfl)
        exact hset.trans (.of_te (requeue_te ..))

theorem retarget_retargets (s : State) (key : Nat) : Retargeted (· = key) s (retarget s key) := by
  unfold retarget; split
  · exact .of_te rfl
  · next e he =>
    dsimp only
    have hset : Retargeted (· = key) s (setEntry key { e with target := targetGain s.te e } s) :=
      setEntry_retargets he rfl (.inr rfl)
    split
    · exact .of_te rfl
    · split
      · exact hset.trans (setCurrent_retargets ..)
      · exact hset

theorem sendGains_retargets (s : State) : Retargeted touched s (sendGains s) := by
  have sent (key : Nat) (s : State) : Retargeted touched s (gainSent key s) := by
    unfold gainSent; split
    · exact .of_te rfl
    · next e he =>
      have hset : Retargeted touched s (setEntry key { e with sync := .sent } s) := setEntry_retargets he rfl (.inl rfl)
      exact hset.trans (.of_te rfl)
  have loop (n : Nat) : ∀ s, Retargeted touched s (gainLoop n s) := by
    induction n with
    | zero => exact fun s => .of_te rfl
    | succ n ih =>
      intro s
      unfold gainLoop; split
      · exact .of_te rfl
      · next u hu =>
        obtain ⟨key, ml, rfl⟩ := sendOneGain_eq hu
        have hml : Retargeted touched s { s with ml := ml } := .of_te rfl
        exact hml.trans ((sent key _).trans (ih _))
  exact loop _ s

/-- After causes are withdrawn and recorded the path table is the one they make, but for targets, gains and sync fields. -/
theorem applyCauses_retargets (gone : Nat → Cause → Bool) (news : List NewCause) (s : State) :
    Retargeted (fun _ => True) { s with te := { s.te with paths := changeCauses gone news s.te.paths } } (applyCauses gone news s) := by
  refine Retargeted.trans ?_ (sendGains_retargets _)
  unfold moveCauses; dsimp only
  refine foldl_keeps (P := Retargeted (fun _ => True) _) (fun t k h => h.trans (.of_te (closedEntry_te t k))) _ _ ?_
  exact foldl_keeps (P := Retargeted (fun _ => True) _) (fun t k h => h.trans ((retarget_retargets t k).mono fun _ _ => trivial)) _ _
    (.of_te rfl)

/-! ### The entry retargeted -/

/-- The entry of a key, retargeted, has the target TE computes for it. -/
theorem retarget_target {key : Nat} {e : PathEntry} (he : tfind s.te.paths key = some e) :
    (tfind (retarget s key).te.paths key).map (·.target) = some (targetGain s.te e) := by
  unfold retarget; rw [he]; dsimp only
  split
  · next hg => rw [he, hg]; rfl
  · have hset : (tfind (setEntry key { e with target := targetGain s.te e } s).te.paths key).map (·.target) =
        some (targetGain s.te e) := by
      rw [tfind_setEntry, if_pos rfl]; rfl
    split
    · exact ((setCurrent_retargets (touched := fun _ => False) key _ _).targets key id).trans hset
    · exact hset

/-- After the entries of a list of keys are retargeted, each has the target TE computes for it. -/
theorem retargets_target (l : List Nat) {key : Nat} {e : PathEntry} (hk : key ∈ l) (he : tfind s.te.paths key = some e) :
    (tfind (l.foldl retarget s).te.paths key).map (·.target) = some (targetGain s.te e) := by
  have stays : ∀ (l : List Nat) (t : State), Retargeted (fun _ => True) s t →
      (tfind t.te.paths key).map (·.target) = some (targetGain s.te e) →
      (tfind (l.foldl retarget t).te.paths key).map (·.target) = some (targetGain s.te e) := by
    intro l
    induction l with
    | nil => exact fun t _ h => h
    | cons k l ih =>
      intro t hst h
      refine ih _ (hst.trans ((retarget_retargets t k).mono fun _ _ => trivial)) ?_
      by_cases hkey : key = k
      · subst hkey
        obtain ⟨e', he', hsh⟩ := Option.map_eq_some_iff.1 ((hst.shapes.find key).trans (congrArg _ he))
        rw [retarget_target he', hst.targetGain hsh]
      · exact ((retarget_retargets t k).targets key hkey).trans h
  have reach : ∀ (l : List Nat) (t : State), Retargeted (fun _ => True) s t → key ∈ l →
      (tfind (l.foldl retarget t).te.paths key).map (·.target) = some (targetGain s.te e) := by
    intro l
    induction l with
    | nil => exact fun t _ h => nomatch h
    | cons k l ih =>
      intro t hst hm
      have hst' := hst.trans ((retarget_retargets t k).mono fun _ _ => trivial)
      rcases List.mem_cons.1 hm with rfl | hm
      · refine stays l _ hst' ?_
        obtain ⟨e', he', hsh⟩ := Option.map_eq_some_iff.1 ((hst.shapes.find key).trans (congrArg _ he))
        rw [retarget_target he', hst.targetGain hsh]
      · exact ih _ hst' hm
  exact reach l s (.of_te rfl) hk

end Sys2Proof.Machine
end


section
/-! SUPPORT. What the deactivation of a panel leaves of its keys: none of their causes stands, and none of their calls (O33). -/

namespace Sys2Proof.Machine

variable {s : State}

/-! ### A withdrawal -/

/-- Every cause of the path table satisfies `P`. -/
def AllCauses (P : Cause → Prop) (s : State) : Prop := ∀ kv ∈ s.te.paths, ∀ c ∈ kv.2.causes, P c

theorem kept_causes (causes : List Cause) (kv : Nat × PathEntry) :
    (if causes ++ causesFor [] kv.1 = kv.2.causes then kv
      else (kv.1, settle { kv.2 with causes := causes ++ causesFor [] kv.1 })).2.causes = causes := by
  simp only [causesFor, List.filter_nil, List.map_nil, List.append_nil]
  split
  · next h => exact h.symm
  · exact settle_causes _

/-- A withdrawal alone leaves no cause it withdraws. -/
theorem applyCauses_withdraws (gone : Cause → Bool) (s : State) :
    AllCauses (fun c => gone c = false) (applyCauses (fun _ c => gone c) [] s) := by
  refine (applyCauses_retargets (fun _ c => gone c) [] s).shapes.all (P := fun _ sh => ∀ c ∈ sh.causes, gone c = false) ?_
  intro kv hkv c hc
  obtain ⟨kv0, -, rfl⟩ := List.mem_map.1 hkv
  have hc' := hc
  unfold PathEntry.shape at hc'
  rw [kept_causes] at hc'
  simpa using (List.mem_filter.1 hc').2

/-! ### The calls of a panel's keys -/

theorem position_set (positions : Tab Position) (p q : Nat) (x : Position) :
    tget noPosition (tset noPosition positions p x) q = if q = p then x else tget noPosition positions q := tget_tset ..

theorem changeCalls_tr (p : Nat) (f : Position → Position) (s : State) :
    (changeCalls p f s).tr = { s.tr with positions := tset noPosition s.tr.positions p (f (s.tr.position p)) } := by
  unfold changeCalls; dsimp only; split <;> rfl

theorem mem_keyCalls_removed {p q n k : Nat} {x : Nat × Nat} :
    x ∈ ((removeKeyCall p n k s).tr.position q).keyCalls ↔ x ∈ (s.tr.position q).keyCalls ∧ (q = p → x ≠ (n, k)) := by
  unfold Tr.position removeKeyCall
  rw [changeCalls_tr, position_set]
  split
  · next hq => subst hq; simp [Tr.position]
  · next hq => simp [hq]

/-- The call of a key leaves its position, as the key's entry has it. -/
def dropCall (n : Nat) (t : State) (k : Nat) : State :=
  match t.kd.entry n k with
  | .call x => removeKeyCall x n k t
  | _ => t

theorem dropCall_frame (n : Nat) (s : State) (k : Nat) : OnlyChanges [.tr, .reports] s (dropCall n s k) := by
  unfold dropCall; split
  · exact changeCalls_frame _ _ _
  · exact .refl _ _

theorem dropCall_kd (n : Nat) (s : State) (k : Nat) : (dropCall n s k).kd = s.kd := dropCall_frame n s k .kd (by simp)

theorem mem_keyCalls_dropCall {n k q : Nat} {x : Nat × Nat} (h : x ∈ ((dropCall n s k).tr.position q).keyCalls) :
    x ∈ (s.tr.position q).keyCalls ∧ (s.kd.entry n k = .call q → x ≠ (n, k)) := by
  unfold dropCall at h
  split at h
  · next p he =>
    obtain ⟨hm, hne⟩ := mem_keyCalls_removed.1 h
    exact ⟨hm, fun e => hne (by rw [he] at e; cases e; rfl)⟩
  · next he => exact ⟨h, fun e => absurd e (he q)⟩

theorem mem_keyCalls_dropCalls {n q : Nat} {x : Nat × Nat} (keys : List Nat)
    (h : x ∈ ((keys.foldl (dropCall n) s).tr.position q).keyCalls) : ∀ k ∈ keys, s.kd.entry n k = .call q → x ≠ (n, k) := by
  have back : ∀ (keys : List Nat) (s : State), x ∈ ((keys.foldl (dropCall n) s).tr.position q).keyCalls →
      x ∈ (s.tr.position q).keyCalls ∧ ∀ k ∈ keys, s.kd.entry n k = .call q → x ≠ (n, k) := by
    intro keys
    induction keys with
    | nil => exact fun s h => ⟨h, fun k hk => nomatch hk⟩
    | cons j keys ih =>
      intro s h
      obtain ⟨hm, hks⟩ := ih (dropCall n s j) h
      obtain ⟨hm, hj⟩ := mem_keyCalls_dropCall hm
      refine ⟨hm, fun k hk he => ?_⟩
      rcases List.mem_cons.1 hk with rfl | hk
      · exact hj he
      · exact hks k hk (by rw [dropCall_kd]; exact he)
  exact (back keys s h).2

/-! ### The deactivation of a panel -/

/-- An operation on the contexts of KD leaves every panel's but `n`'s. -/
structure OnContext (n : Nat) (s t : State) : Prop where
  kd : t.kd = { s.kd with contexts := t.kd.contexts }
  others : ∀ m, m ≠ n → tfind t.kd.contexts m = tfind s.kd.contexts m

theorem OnContext.of_kd {n : Nat} {t : State} (h : t.kd = s.kd) : OnContext n s t := ⟨by rw [h], fun m _ => by rw [h]⟩

theorem OnContext.trans {n : Nat} {t u : State} (h : OnContext n s t) (k : OnContext n t u) : OnContext n s u :=
  ⟨by rw [k.kd, h.kd], fun m hm => (k.others m hm).trans (h.others m hm)⟩

theorem setKeyCtx_onContext (n k : Nat) (f : KeyCtx → KeyCtx) (s : State) : OnContext n s (setKeyCtx n k f s) :=
  ⟨rfl, fun m hm => by rw [setKeyCtx_kd, tfind_tmodify, if_neg hm]⟩

/-- The active keys of a context. -/
def activeOf (c : Context) (q : Nat → Bool) : List Nat := (c.keys.filter fun kv => kv.2.state != .idle && q kv.1).map (·.1)

/-- A key of a panel is IDLE, its timers stopped. -/
def idleKey (n : Nat) (t : State) (k : Nat) : State :=
  setKeyCtx n k (fun x => { x with state := .idle, tapExpiry := none, latchExpiry := none }) t

theorem deactivatePanel_eq {n : Nat} {c : Context} {q : KeyEntry → Bool} (hc : tfind s.kd.contexts n = some c) :
    deactivatePanel q n s =
      let keys := activeOf c fun k => q (s.kd.entry n k)
      keys.foldl (idleKey n) (applyCauses (fun _ x => keys.any fun k => ofKey n k x) [] (keys.foldl (dropCall n) s)) := by
  unfold deactivatePanel; rw [hc]; rfl

theorem applyCauses_kd (gone : Nat → Cause → Bool) (news : List NewCause) (s : State) : (applyCauses gone news s).kd = s.kd :=
  applyCauses_frame gone news s .kd (by simp)

theorem dropCalls_kd (n : Nat) (keys : List Nat) (s : State) : (keys.foldl (dropCall n) s).kd = s.kd :=
  foldl_keeps (P := fun t => t.kd = s.kd) (fun t k h => (dropCall_kd n t k).trans h) keys s rfl

theorem deactivatePanel_onContext (q : KeyEntry → Bool) (n : Nat) (s : State) : OnContext n s (deactivatePanel q n s) := by
  cases hc : tfind s.kd.contexts n with
  | none => unfold deactivatePanel; rw [hc]; exact .of_kd rfl
  | some c =>
    rw [deactivatePanel_eq hc]
    refine foldl_keeps (P := OnContext n s) (fun t k h => h.trans (setKeyCtx_onContext n k _ t)) _ _ (.of_kd ?_)
    rw [applyCauses_kd, dropCalls_kd]

theorem idleKeys_te_tr (n : Nat) (keys : List Nat) (s : State) :
    (keys.foldl (idleKey n) s).te = s.te ∧ (keys.foldl (idleKey n) s).tr = s.tr := by
  refine foldl_keeps (P := fun t => t.te = s.te ∧ t.tr = s.tr) ?_ keys s ⟨rfl, rfl⟩
  exact fun t k h => h

theorem mem_activeOf {n k : Nat} {q : Nat → Bool} {c : Context} (hc : tfind s.kd.contexts n = some c) (hk : s.kd.keyState n k ≠ .idle)
    (hq : q k = true) : k ∈ activeOf c q := by
  unfold Kd.keyState Kd.key at hk
  rw [hc] at hk
  cases hx : tfind c.keys k with
  | none => exact absurd (by simp [hx]) hk
  | some x =>
    have hi : x.state ≠ .idle := by simpa [hx] using hk
    exact List.mem_map.2 ⟨(k, x), List.mem_filter.2 ⟨mem_of_tfind hx, by simp [hi, hq]⟩, rfl⟩

/-- No cause and no call of an active key of the panel is left. -/
theorem deactivatePanel_leaves {n k : Nat} {q : KeyEntry → Bool} (hk : s.kd.keyState n k ≠ .idle)
    (hq : q (s.kd.entry n k) = true) :
    AllCauses (fun x => ofKey n k x = false) (deactivatePanel q n s)
    ∧ ∀ p, s.kd.entry n k = .call p → (n, k) ∉ ((deactivatePanel q n s).tr.position p).keyCalls := by
  cases hc : tfind s.kd.contexts n with
  | none => exact absurd (by simp [Kd.keyState, Kd.key, hc]) hk
  | some c =>
    have hm := mem_activeOf (q := fun k => q (s.kd.entry n k)) hc hk hq
    rw [deactivatePanel_eq hc]
    dsimp only
    generalize activeOf c (fun k => q (s.kd.entry n k)) = keys at hm
    have hout := idleKeys_te_tr n keys
      (applyCauses (fun _ x => keys.any fun k => ofKey n k x) [] (keys.foldl (dropCall n) s))
    obtain ⟨hte, htr⟩ := hout
    refine ⟨fun kv hkv x hx => ?_, fun p hp hmem => ?_⟩
    · rw [hte] at hkv
      have hall := applyCauses_withdraws (fun x => keys.any fun k => ofKey n k x) _ kv hkv x hx
      exact by simpa using List.any_eq_false.1 hall k hm
    · rw [htr, show (applyCauses (fun _ x => keys.any fun k => ofKey n k x) [] (keys.foldl (dropCall n) s)).tr =
        (keys.foldl (dropCall n) s).tr from applyCauses_frame _ _ _ .tr (by simp)] at hmem
      exact mem_keyCalls_dropCalls keys hmem k hm hp rfl

end Sys2Proof.Machine
end


section
/-! SUPPORT. KD takes a panel's departure or join, and the oldest cargo (O33). -/

namespace Sys2Proof.Machine

variable {s : State} {n : Nat}

/-! ### Departures -/

/-- The notices that wait for KD are these. -/
def withNotices (rest : List PanelNotice) (s : State) : State := { s with reports := { s.reports with kdPanels := rest } }

theorem kdDeparture_takes {rest : List PanelNotice}
    (h : takeFirst (fun (x : PanelNotice) => x.node == n) s.reports.kdPanels = some (.departure n, rest)) :
    EndsIn (.kdJoin n) s s ∧ EndsIn (.kdDeparture n) s (departPanel n (withNotices rest s)) := by
  refine ⟨endsIn_of (i := .kdJoin n) rfl ?_, endsIn_of (i := .kdDeparture n) rfl ?_⟩
  · unfold takeJoin; rw [h]
  · unfold takeDeparture; rw [h]; rfl

theorem kdJoin_takes {rest : List PanelNotice} {keys : Nat}
    (h : takeFirst (fun (x : PanelNotice) => x.node == n) s.reports.kdPanels = some (.join n keys, rest)) :
    EndsIn (.kdDeparture n) s s ∧ EndsIn (.kdJoin n) s (joinPanel n keys (withNotices rest s)) := by
  refine ⟨endsIn_of (i := .kdDeparture n) rfl ?_, endsIn_of (i := .kdJoin n) rfl ?_⟩
  · unfold takeDeparture; rw [h]
  · unfold takeJoin; rw [h]; rfl

theorem withNotices_frame (rest : List PanelNotice) (s : State) : OnlyChanges [.reports] s (withNotices rest s) := by
  intro q hq; cases q <;> first | rfl | simp at hq

theorem setContexts_frame (c : Tab Context) (s : State) : OnlyChanges [.kd] s { s with kd := { s.kd with contexts := c } } := by
  intro q hq; cases q <;> first | rfl | simp at hq

theorem departPanel_leaves (n : Nat) (s : State) :
    let u := departPanel n s
    OnlyChanges [.kd, .tr, .te, .ml, .reports] s u ∧ u.reports.kdPanels = s.reports.kdPanels
    ∧ u.kd = { s.kd with contexts := u.kd.contexts }
    ∧ (∀ m, tfind u.kd.contexts m = if m = n then none else tfind s.kd.contexts m)
    ∧ (∀ k kv, s.kd.keyState n k ≠ .idle → kv ∈ u.te.paths → ∀ c ∈ kv.2.causes, ofKey n k c = false)
    ∧ (∀ k p, s.kd.keyState n k ≠ .idle → s.kd.entry n k = .call p → (n, k) ∉ (u.tr.position p).keyCalls) := by
  have hon := deactivatePanel_onContext (fun _ => true) n s
  have hframe := deactivatePanel_frame (fun _ => true) n s
  have hnotices := (deactivatePanel_kept (fun _ => true) n s).notices
  have hkeys := fun k hk => deactivatePanel_leaves (k := k) (q := fun _ => true) (n := n) (s := s) hk rfl
  unfold departPanel; dsimp only
  generalize deactivatePanel (fun _ => true) n s = v at hon hframe hnotices hkeys ⊢
  refine ⟨hframe.trans ((setContexts_frame _ _).mono (by simp)), hnotices, ?_, fun m => ?_,
    fun k kv hk hkv => (hkeys k hk).1 kv hkv, fun k p hk he => (hkeys k hk).2 p he⟩
  · exact congrArg (fun kd : Kd => { kd with contexts := tdel v.kd.contexts n }) hon.kd
  · rw [tfind_tdel]
    split
    · rfl
    · next hm => exact hon.others m hm

/-! ### Joins -/

/-- The image a join gives a key (R51). -/
def joinedImage (s : State) (n k : Nat) : Image :=
  composeImage s n k { keys := [], dest := none, preset := none } (freshKey ⟨.off, .steady⟩)

/-- The image of a key when the keys in `done` are painted. -/
def paintedImage (s : State) (n : Nat) (done : List Nat) (k : Nat) : Image := if k ∈ done then joinedImage s n k else imageOff

/-- The context a panel has after its join, its images composed for the keys in `done`. -/
structure PaintedContext (n keys : Nat) (s : State) (done : List Nat) (c : Context) : Prop where
  dest : c.dest = none
  preset : c.preset = none
  listed : c.keys.map (·.1) = List.range keys
  painted : ∀ k < keys, tfind c.keys k = some (freshKey (paintedImage s n done k))

/-- The contexts and the roster are these. -/
def withPanels (contexts : Tab Context) (roster : Tab RosterEntry) (s : State) : State :=
  { s with kd := { s.kd with contexts := contexts }, pbc := { s.pbc with roster := roster } }

/-- What a join has made of `s` when the keys in `done` are painted. -/
structure Painted (n keys : Nat) (s : State) (done : List Nat) (t : State) : Prop where
  same : t = withPanels t.kd.contexts t.pbc.roster s
  context : ∃ c, (∀ m, tfind t.kd.contexts m = if m = n then some c else tfind s.kd.contexts m) ∧ PaintedContext n keys s done c
  link : ∀ link stall ask, s.pbc.presence n = some (.member link stall ask) → ∃ dirty,
    t.pbc.presence n = some (.member { link with dirty := dirty } stall ask)
    ∧ ∀ k, k ∈ dirty ↔ k ∈ link.dirty ∨ (k ∈ done ∧ k < link.sent.length)
  others : ∀ m, m ≠ n → t.pbc.entry m = s.pbc.entry m

theorem tmodify_keys {α : Type} (t : Tab α) (i : Nat) (f : α → α) : (tmodify t i f).map (·.1) = t.map (·.1) := by
  unfold tmodify
  rw [List.map_map]
  refine List.map_congr_left fun kv _ => ?_
  dsimp only [Function.comp]
  split
  · next h => exact h ▸ rfl
  · rfl

section
variable {keys : Nat} {done : List Nat} {t : State}

theorem markDirty_skips {k : Nat} {link : Link} {stall : Nat} {ask : Option Millis}
    (h : s.pbc.presence n = some (.member link stall ask)) (hk : ¬ k < link.sent.length) :
    (markDirty n k s).pbc.presence n = some (.member link stall ask) := by
  obtain ⟨e, he, hp⟩ := Option.map_eq_some_iff.1 h
  have he : tfind s.pbc.roster n = some e := he
  unfold Pbc.presence Pbc.entry markDirty
  simp only [tfind_tmodify, he, hp, if_true, Option.map_some, if_neg hk]

theorem markDirty_dirty {k : Nat} {link : Link} {stall : Nat} {ask : Option Millis}
    (h : s.pbc.presence n = some (.member link stall ask)) : ∃ dirty,
    (markDirty n k s).pbc.presence n = some (.member { link with dirty := dirty } stall ask)
    ∧ ∀ j, j ∈ dirty ↔ j ∈ link.dirty ∨ (j = k ∧ k < link.sent.length) := by
  by_cases hk : k < link.sent.length
  · exact ⟨_, markDirty_presence h hk, fun j => by rw [mem_insertAsc]; simp [hk, or_comm]⟩
  · exact ⟨link.dirty, markDirty_skips h hk, fun j => by simp [hk]⟩

/-- An image depends on nothing a join changes, the context's destination and preset apart. -/
theorem Painted.composeImage (h : Painted n keys s done t) {k : Nat} {c : Context} (hc : PaintedContext n keys s done c)
    (hk : k ∉ done) (hr : k < keys) : ∃ x, tfind c.keys k = some x ∧ x = freshKey imageOff ∧ composeImage t n k c x = joinedImage s n k := by
  have hoff : paintedImage s n done k = imageOff := if_neg hk
  refine ⟨_, hc.painted k hr, by rw [hoff], ?_⟩
  rw [hoff, h.same]
  unfold Machine.composeImage joinedImage
  rw [hc.dest, hc.preset]
  rfl

theorem paintKey_eq {k : Nat} {c : Context} {x : KeyCtx} (hc : tfind s.kd.contexts n = some c) (hx : tfind c.keys k = some x) :
    paintKey n s k = markDirty n k (setKeyCtx n k (fun y => { y with image := Machine.composeImage s n k c x }) s) := by
  unfold paintKey; simp only [hc, hx]

/-- One more key is painted. -/
theorem PaintedContext.paint {k : Nat} {c : Context} (h : PaintedContext n keys s done c) :
    PaintedContext n keys s (done ++ [k]) { c with keys := tmodify c.keys k fun y => { y with image := joinedImage s n k } } := by
  refine ⟨h.dest, h.preset, ?_, fun j hj => ?_⟩ <;> dsimp only
  · rw [tmodify_keys]; exact h.listed
  rw [tfind_tmodify, h.painted j hj]
  by_cases hjk : j = k
  · subst hjk; simp [freshKey, paintedImage]
  · simp [hjk, paintedImage]

theorem Painted.paint {k : Nat} (h : Painted n keys s done t) (hk : k ∉ done) (hr : k < keys) :
    Painted n keys s (done ++ [k]) (paintKey n t k) := by
  obtain ⟨c, hcs, hc⟩ := h.context
  have hcn : tfind t.kd.contexts n = some c := by rw [hcs, if_pos rfl]
  obtain ⟨x, hx, -, hi⟩ := h.composeImage hc hk hr
  rw [paintKey_eq hcn hx, hi]
  refine ⟨?_, ⟨_, fun m => ?_, hc.paint (k := k)⟩, fun link stall ask hl => ?_, fun m hm => ?_⟩
  · rw [h.same]; rfl
  · have hm := tfind_tmodify t.kd.contexts n m fun c => { c with keys := tmodify c.keys k fun y => { y with image := joinedImage s n k } }
    refine hm.trans ?_
    rw [hcs]
    split <;> rfl
  · obtain ⟨d, hd, hmem⟩ := h.link link stall ask hl
    obtain ⟨d', hd', hmem'⟩ := markDirty_dirty (n := n) (k := k)
      (s := setKeyCtx n k (fun y => { y with image := joinedImage s n k }) t) hd
    refine ⟨d', hd', fun j => (hmem' j).trans ?_⟩
    rw [hmem]
    simp only [List.mem_append, List.mem_singleton]
    constructor
    · rintro ((hj | ⟨hj, hs⟩) | ⟨rfl, hs⟩)
      · exact .inl hj
      · exact .inr ⟨.inl hj, hs⟩
      · exact .inr ⟨.inr rfl, hs⟩
    · rintro (hj | ⟨hj | rfl, hs⟩)
      · exact .inl (.inl hj)
      · exact .inl (.inr ⟨hj, hs⟩)
      · exact .inr ⟨rfl, hs⟩
  · refine Eq.trans ?_ (h.others m hm)
    unfold Pbc.entry markDirty
    rw [tfind_tmodify, if_neg hm]; rfl

theorem Painted.paintAll (l : List Nat) (h : Painted n keys s done t) (hl : (done ++ l).Nodup) (hr : ∀ k ∈ l, k < keys) :
    Painted n keys s (done ++ l) (l.foldl (paintKey n) t) := by
  induction l generalizing done t with
  | nil => simpa using h
  | cons k l ih =>
    have hnd : (done ++ [k] ++ l).Nodup := by simpa using hl
    have hk : k ∉ done := fun hm => by
      have hd := (List.nodup_append.1 hl).2.2
      exact hd k hm k (List.mem_cons_self ..) rfl
    have hp := ih (h.paint hk (hr k (List.mem_cons_self ..))) hnd fun j hj => hr j (List.mem_cons_of_mem _ hj)
    simpa using hp

end

theorem joined_painted (n keys : Nat) (s : State) :
    Painted n keys s [] { s with kd := { s.kd with contexts := tput s.kd.contexts n (freshContext keys) } } := by
  refine ⟨rfl, ⟨freshContext keys, fun m => tfind_tput .., rfl, rfl, ?_, fun k hk => ?_⟩, fun link stall ask hl => ?_, fun m _ => rfl⟩
  · simp [freshContext, Function.comp_def]
  · refine (tfind_range_map (fun _ => freshKey imageOff) (List.range keys) k).trans ?_
    rw [if_pos (List.mem_range.2 hk)]; rfl
  · exact ⟨link.dirty, hl, fun k => by simp⟩

theorem joinPanel_painted (n keys : Nat) (s : State) : Painted n keys s (List.range keys) (joinPanel n keys s) :=
  (joined_painted n keys s).paintAll (List.range keys) (by simpa using List.nodup_range) fun _ => List.mem_range.1

theorem Painted.frame {keys : Nat} {done : List Nat} {t : State} (h : Painted n keys s done t) : OnlyChanges [.pbc, .kd] s t := by
  rw [h.same]
  intro q hq; cases q <;> first | rfl | simp at hq

/-- What a join leaves. -/
theorem joinPanel_leaves (n keys : Nat) (s : State) : ∃ c,
    let u := joinPanel n keys s
    OnlyChanges [.pbc, .kd] s u ∧ u.reports = s.reports ∧ u.kd = { s.kd with contexts := u.kd.contexts }
    ∧ (∀ m, tfind u.kd.contexts m = if m = n then some c else tfind s.kd.contexts m)
    ∧ PaintedContext n keys s (List.range keys) c
    ∧ (∀ link stall ask, s.pbc.presence n = some (.member link stall ask) → ∃ dirty,
        u.pbc.presence n = some (.member { link with dirty := dirty } stall ask)
        ∧ ∀ k, k ∈ dirty ↔ k ∈ link.dirty ∨ (k < keys ∧ k < link.sent.length))
    ∧ (∀ m, m ≠ n → u.pbc.entry m = s.pbc.entry m) ∧ u.pbc = { s.pbc with roster := u.pbc.roster } := by
  have h := joinPanel_painted n keys s
  obtain ⟨c, hcs, hc⟩ := h.context
  generalize joinPanel n keys s = u at h hcs
  refine ⟨c, h.frame, h.frame .reports (by simp), congrArg State.kd h.same, hcs, hc, fun link stall ask hl => ?_, h.others,
    congrArg State.pbc h.same⟩
  obtain ⟨d, hd, hm⟩ := h.link link stall ask hl
  exact ⟨d, hd, fun k => by rw [hm, List.mem_range]⟩

/-! ### The oldest cargo (R35) -/

theorem takeTransitions_pbc (n : Nat) (l : List (Nat × Bool)) (s : State) :
    (l.foldl (takeTransition n) s).pbc = { s.pbc with roster := (l.foldl (takeTransition n) s).pbc.roster } := by
  have stable : Stable fun t => t.pbc = { s.pbc with roster := t.pbc.roster } :=
    { calm := fun h ht => by rw [h.pbc]; exact ht
      recolour := fun n k i t ht =>
        congrArg (fun p : Pbc => { p with roster := (markDirty n k (setKeyCtx n k (fun x => { x with image := i }) t)).pbc.roster }) ht }
  exact stable.takeTransitions n l rfl

end Sys2Proof.Machine
end


section
/-! SUPPORT. KD takes the reports of RC, TR and TE, each with the keys it touches (O33). -/

namespace Sys2Proof.Machine

variable {s : State} {n : Nat}

/-! ### The oldest report of each queue (R46, R48, R52) -/

theorem dispatch_stored (c : Stored) (rest : List Stored) (h : s.pbc.inbound = c :: rest) :
    EndsIn .dispatch s
      { c.transitions.foldl (takeTransition c.sender) s with
        pbc := { (c.transitions.foldl (takeTransition c.sender) s).pbc with inbound := rest } } := by
  refine endsIn_of (i := .dispatch) rfl ?_
  have hp := takeTransitions_pbc c.sender c.transitions s
  unfold dispatchOldest
  rw [h]
  dsimp only
  generalize c.transitions.foldl (takeTransition c.sender) s = t at hp
  have hd : t.pbc.inbound.drop 1 = rest := by rw [hp]; exact congrArg (List.drop 1) h
  rw [hd]

theorem takeOutcome_front {r : OutcomeReport} {rest : List OutcomeReport} (h : s.reports.kdOutcomes = r :: rest) :
    takeOutcome s =
      let t := r.changes.foldl takeImageReport { s with reports := { s.reports with kdOutcomes := rest } }
      if r.outcome = .done then t else indicate r.node r.key t := by
  unfold takeOutcome; rw [h]

theorem takeFire_front {r : FireReport} {rest : List FireReport} (h : s.reports.kdFires = r :: rest) :
    takeFire s =
      let t := takeImageReport { s with reports := { s.reports with kdFires := rest } } (.fire r.salvo (some r.node))
      if r.other = 0 ∧ r.skipped = 0 then t else indicate r.node r.key t := by
  unfold takeFire; rw [h]

/-! ### Which keys a report touches -/

theorem refreshPanel_context {p : KeyEntry → Bool} {c : Context} (h : tfind s.kd.contexts n = some c) : refreshPanel p n s =
    ((c.keys.map (·.1)).filter fun k => p (s.kd.entry n k)).foldl (fun t k => refreshKey t n k) s := by
  unfold refreshPanel
  rw [h, List.filter_map, List.foldl_map]
  rfl

theorem refreshPanel_none {p : KeyEntry → Bool} (h : tfind s.kd.contexts n = none) : refreshPanel p n s = s := by
  unfold refreshPanel; rw [h]

section
variable {e : KeyEntry} {target : KeyTarget}

/-- The entry of a TALK key to one target. -/
def TalkTo (e : KeyEntry) (target : KeyTarget) : Prop := ∃ mode lw level limit, e = .talk target mode lw level limit

theorem talkTarget_iff : e.talkTarget = some target ↔ TalkTo e target := by
  unfold TalkTo
  cases e <;> simp [KeyEntry.talkTarget]

theorem isTalk_iff : e.isTalk = true ↔ ∃ target, TalkTo e target := by
  unfold TalkTo
  cases e <;> simp [KeyEntry.isTalk]

theorem talksTo_iff {ports : List Nat} : talksTo ports e = true ↔ ∃ x, TalkTo e (.port x) ∧ x ∈ ports := by
  simp only [← talkTarget_iff]
  unfold talksTo
  cases e.talkTarget with
  | none => simp
  | some t => cases t <;> simp

end

section
variable (c : Context) (e : KeyEntry)

theorem affects_colours (changed : List (Nat × Colours)) : affects s n c (.colours changed) e = true ↔
    (∃ src p, e = .source src ∧ (s.rc.source src).position = some p ∧ p ∈ changed.map (·.1))
    ∨ ∃ x p, TalkTo e (.port x) ∧ p ∈ changed.map (·.1) ∧ (s.tr.position p).port = some x := by
  have hsource : (match e with
      | .source src => (s.rc.source src).position.any (changed.map (·.1)).contains
      | _ => false) = true ↔ ∃ src p, e = .source src ∧ (s.rc.source src).position = some p ∧ p ∈ changed.map (·.1) := by
    cases e with
    | source src => cases h : (s.rc.source src).position <;> simp [h]
    | _ => simp
  unfold affects
  refine Bool.or_eq_true_iff.trans (or_congr hsource (talksTo_iff.trans ?_))
  simp only [List.mem_filterMap, exists_and_left]

theorem affects_live (ports : List Nat) : affects s n c (.live ports) e = true ↔ TalkTo e .live := by
  unfold affects; rw [beq_iff_eq, talkTarget_iff]

theorem affects_positionPort (old new : Option Nat) : affects s n c (.positionPort old new) e = true ↔
    ∃ x, TalkTo e (.port x) ∧ (old = some x ∨ new = some x) := by
  unfold affects; rw [talksTo_iff]; simp

theorem affects_path (t l : Nat) : affects s n c (.path t l) e = true ↔
    (∃ target, TalkTo e target) ∧ ∃ r, tfind s.kd.records n = some r ∧ r.port = some l := by
  unfold affects
  rw [Bool.and_eq_true, isTalk_iff, beq_iff_eq, Option.bind_eq_some_iff]

theorem affects_group (g : Nat) : affects s n c (.group g) e = true ↔ TalkTo e (.group g) := by
  unfold affects; rw [beq_iff_eq, talkTarget_iff]

theorem affects_crosspoint (d : Nat) (srcs : List Nat) : affects s n c (.crosspoint d srcs) e = true ↔
    ∃ src, e = .source src ∧ src ∈ srcs ∧ c.dest = some d := by
  cases e <;> simp [affects]

theorem affects_protect (d : Nat) : affects s n c (.protect d) e = true ↔ e = .dest d ∨ (e = .protect ∧ c.dest = some d) := by
  cases e <;> simp [affects]

theorem affects_takes (d : Nat) (panels : List Nat) : affects s n c (.takes d panels) e = true ↔
    e = .take ∧ n ∈ panels ∧ c.dest = some d := by
  cases e <;> simp [affects]

theorem affects_fire (i : Nat) (m : Option Nat) : affects s n c (.fire i m) e = true ↔ e = .salvo i ∧ m = some n := by
  cases e <;> simp [affects]

theorem affects_sourcePosition (src : Nat) : affects s n c (.sourcePosition src) e = true ↔ e = .source src := by
  cases e <;> simp [affects]

end

/-- Settles O33, each notice and report by its lemma. -/
theorem noticesAndReportsReachKd : Obligations.NoticesAndReportsReachKd := by
  refine ⟨fun n rest s => ⟨fun h => ?_, fun keys h => ?_⟩, fun c rest s => ⟨fun h => ?_, fun h => ?_⟩, fun s => ?_,
    fun n c e s => ?_⟩
  · obtain ⟨hjoin, hgone⟩ := kdDeparture_takes h
    obtain ⟨hframe, hnotices, hkd, hcontexts, hcauses, hcalls⟩ := departPanel_leaves n (withNotices rest s)
    exact ⟨hjoin, _, hgone, ((withNotices_frame rest s).mono (by simp)).trans hframe, hnotices, hkd, hcontexts, hcauses, hcalls⟩
  · obtain ⟨hgone, hjoin⟩ := kdJoin_takes h
    obtain ⟨c, hframe, hreports, hkd, hcontexts, hc, hlink, hothers, hpbc⟩ := joinPanel_leaves n keys (withNotices rest s)
    refine ⟨hgone, _, c, hjoin, ((withNotices_frame rest s).mono (by simp)).trans (hframe.mono (by simp)), hreports, hkd, hcontexts,
      hc.dest, hc.preset, hc.listed, fun k hk => ?_, hlink, hothers, hpbc⟩
    have hp := hc.painted k hk
    unfold paintedImage at hp
    rw [if_pos (List.mem_range.2 hk)] at hp
    exact hp
  · exact endsIn_of (i := .dispatch) rfl (by unfold dispatchOldest; rw [h])
  · exact ⟨.foldl (takeTransition_frame c.sender) _ s, takeTransitions_pbc c.sender c.transitions s, dispatch_stored c rest h⟩
  · intro shown
    refine ⟨fun r rest h => ?_, fun r rest h => ?_, fun r rest h => ?_, fun r rest h => ?_, fun r rest h => ?_, fun h => ?_,
      fun h => ?_⟩
    · exact endsIn_of (i := .kdTakeOutcome) rfl (takeOutcome_front h)
    · exact endsIn_of (i := .kdFireCompletion) rfl (takeFire_front h)
    · exact endsIn_of (i := .kdImageReport .tr) rfl (by unfold takeReportOf; dsimp only; rw [h])
    · exact endsIn_of (i := .kdImageReport .te) rfl (by unfold takeReportOf; dsimp only; rw [h])
    · exact endsIn_of (i := .kdImageReport .rc) rfl (by unfold takeReportOf; dsimp only; rw [h])
    · exact endsIn_of (i := .kdTakeOutcome) rfl (by unfold takeOutcome; rw [h])
    · exact endsIn_of (i := .kdFireCompletion) rfl (by unfold takeFire; rw [h])
  · intro talksTo
    exact ⟨fun r => rfl, fun p h => refreshPanel_none h, fun p h => refreshPanel_context h, affects_colours c e, affects_live c e,
      affects_positionPort c e, affects_path c e, affects_group c e, affects_crosspoint c e, affects_protect c e, affects_takes c e,
      affects_fire c e, affects_sourcePosition c e⟩

end Sys2Proof.Machine
end


section
/-! SUPPORT. The soft resets of PBC, RC and ML, and tables written entry by entry (O20). -/

namespace Sys2Proof.Machine

variable {s : State}

/-! ### PBC -/

/-- What every branch of PBC's soft reset leaves, whatever state the node takes. -/
structure PbcCleared (s t : State) : Prop where
  frame : OnlyChanges [.cp, .pbc] s t
  cp : t.cp = { s.cp with flags := if s.pbc.roster = [] then s.cp.flags else s.cp.flags ||| 1 }
  pbc : ∃ node expiry, t.pbc =
    { Pbc.powerOn with
      id := s.pbc.id, busAuto := s.pbc.busAuto, timing := s.pbc.timing, lastCensus := s.now
      turn := { s.pbc.turn with holds := false, made := 0, chosen := [] }, node := node, checkingExpiry := expiry }

theorem setFlagIf_roster_cp (s : State) (p : Pbc) :
    (setFlagIf (!s.pbc.roster.isEmpty) .roster { s with pbc := p }).cp
      = { s.cp with flags := if s.pbc.roster = [] then s.cp.flags else s.cp.flags ||| 1 } := by
  cases s.pbc.roster <;> rfl

theorem softResetPbc_cleared (s : State) : PbcCleared s (softResetPbc s) := by
  have hframe (p : Pbc) : OnlyChanges [.cp, .pbc] s (setFlagIf (!s.pbc.roster.isEmpty) .roster { s with pbc := p }) :=
    ((pbc_frame p s).mono (by simp)).trans ((setFlagIf_frame _ _ _).mono (by simp))
  unfold softResetPbc; dsimp only
  split
  · exact ⟨hframe _, setFlagIf_roster_cp s _, _, _, by rw [setFlagIf_pbc]⟩
  · split
    · refine ⟨(hframe _).trans ((pbc_frame _ _).mono (by simp)), setFlagIf_roster_cp s _, .checking, some (s.now + 400), ?_⟩
      unfold startChecking
      rw [setFlagIf_pbc, (hframe _ : OnlyChanges _ _ _) .now (by simp)]
      rfl
    · refine ⟨(hframe _).trans ((pbc_frame _ _).mono (by simp)), setFlagIf_roster_cp s _, .listening, none, ?_⟩
      unfold enterListening
      rw [setFlagIf_pbc]
      rfl

theorem softResetPbc_node (s : State) : (softResetPbc s).pbc.node =
    (if s.pbc.id = 0 then .asleep else if s.pbc.busAuto then .checking else .listening) := by
  unfold softResetPbc; dsimp only
  split
  · rw [setFlagIf_pbc]; rfl
  · split <;> rfl

theorem softResetPbc_checking (h : s.pbc.id ≠ 0) (hb : s.pbc.busAuto = true) :
    (softResetPbc s).pbc.checkingExpiry = some (s.now + 400) := by
  unfold softResetPbc; dsimp only
  rw [if_neg h, if_pos hb]
  unfold startChecking setFlagIf
  split <;> rfl

/-! ### RC -/

/-- RC with nothing under way and every destination to be queried. -/
def routerCleared (rc : Rc) : Rc :=
  { rc with
    dests := rc.dests.map fun kv => (kv.1, ⟨kv.2.confirmed, none, none⟩)
    queue := [], fires := [], querySet := List.range 256, queries := [], down := false, consecutive := 0
    badFrames := 0, strays := 0, violations := 0, nextProbe := none }

/-- A free place with no take to send goes to the first destination of the query set that is free. -/
theorem fillPlace_query {d : Nat} {l : List Nat} (hd : s.rc.down = false) (hq : s.rc.queue = []) (hw : s.rc.queries.length < 2)
    (hset : s.rc.querySet = d :: l) (hn : ∀ q ∈ s.rc.queries, q.dest ≠ d) : fillPlace s = some (sendQuery d s) := by
  have hu : ¬ (s.rc.down = true ∨ Config.windowPlaces ≤ s.rc.windowUsed) := by
    have h2 : ¬ 2 ≤ s.rc.windowUsed := by
      unfold Rc.windowUsed
      rw [hq, List.countP_nil]
      omega
    rintro (h | h)
    · rw [hd] at h; cases h
    · exact h2 h
  unfold fillPlace
  rw [if_neg hu, hq]
  have hnext : s.rc.nextQuery = some d := by
    unfold Rc.nextQuery Rc.sentFor
    rw [hset, hq]
    simp only [List.any_nil, Bool.not_false, Bool.true_and]
    refine List.find?_cons_of_pos ?_
    simpa using hn
  change s.rc.nextQuery.map _ = _
  rw [hnext]; rfl

/-- The queries of destinations 0 and 1 have been sent. -/
def routerAsking (rc : Rc) : Rc :=
  { routerCleared rc with
    querySet := ((List.range 256).filter (· != 0)).filter (· != 1)
    queries := [⟨0, none⟩, ⟨1, none⟩]
    tx := rc.tx ++ [.xask 0 false, .xask 1 false] }

/-- RC's soft reset but for the filling of its window. -/
def routerStopped (s : State) : State := { s with rc := routerCleared s.rc, reports := { s.reports with rcReleases := [] } }

theorem softResetRc_eq (s : State) : softResetRc s =
    { s with rc := routerAsking s.rc, reports := { s.reports with rcReleases := [] } } := by
  have h0 : List.range 256 = 0 :: List.range' 1 255 := by rw [List.range_eq_range', List.range'_succ]
  have h1 : (List.range 256).filter (· != 0) = 1 :: (List.range' 2 254).filter (· != 0) := by
    rw [h0, List.range'_succ, List.filter_cons_of_neg (by simp), List.filter_cons_of_pos (by simp)]
  have hset : (routerStopped s).rc.querySet = List.range 256 := by simp only [routerStopped, routerCleared]
  have hask : (routerStopped s).rc.queries = [] := rfl
  have first : fillPlace (routerStopped s) = some (sendQuery 0 (routerStopped s)) :=
    fillPlace_query rfl rfl Nat.zero_lt_two (hset.trans h0) (by rw [hask]; nofun)
  have second : fillPlace (sendQuery 0 (routerStopped s)) = some (sendQuery 1 (sendQuery 0 (routerStopped s))) :=
    fillPlace_query rfl rfl Nat.one_lt_two h1 (by simp [routerStopped, routerCleared, sendQuery])
  calc softResetRc s
    _ = fillLoop 2 (routerStopped s) := rfl
    _ = sendQuery 1 (sendQuery 0 (routerStopped s)) := by
      unfold fillLoop; rw [first]; dsimp only
      unfold fillLoop; rw [second]; dsimp only
      unfold fillLoop; rfl
    _ = _ := by
      unfold routerStopped sendQuery routerAsking
      simp only [routerCleared, List.append_assoc, List.cons_append, List.nil_append]

theorem routerAsking_queried (rc : Rc) {d : Nat} (hd : d ≤ 255) :
    d ∈ (routerAsking rc).querySet ∨ ∃ q ∈ (routerAsking rc).queries, q.dest = d := by
  by_cases h0 : d = 0
  · exact .inr ⟨⟨0, none⟩, by simp [routerAsking], h0.symm⟩
  · by_cases h1 : d = 1
    · exact .inr ⟨⟨1, none⟩, by simp [routerAsking], h1.symm⟩
    · refine .inl (List.mem_filter.2 ⟨List.mem_filter.2 ⟨List.mem_range.2 (by omega), ?_⟩, ?_⟩) <;> simp [h0, h1]

theorem routerCleared_dest (rc : Rc) (d : Nat) : (routerCleared rc).dest d = ⟨(rc.dest d).confirmed, none, none⟩ := by
  have hm := tfind_map rc.dests (fun _ x => (⟨x.confirmed, none, none⟩ : DestRec)) d
  unfold Rc.dest tget
  refine (congrArg (fun o : Option DestRec => o.getD noDest) hm).trans ?_
  cases tfind rc.dests d <;> rfl

/-! ### ML -/

theorem unsent_eq (paths : Tab PathEntry) :
    unsent paths = paths.map fun kv => (kv.1, { kv.2 with sync := if kv.2.sync = .sent then .dirty else kv.2.sync }) := by
  unfold unsent
  refine List.map_congr_left fun kv _ => ?_
  split <;> rfl

/-! ### A table written entry by entry -/

section
variable {α : Type} [DecidableEq α]

/-- Each of the listed entries is replaced by what `f` makes of it. -/
theorem tget_foldl_tset (d : α) (f : Nat → α → α) (l : List Nat) (hl : l.Nodup) (t : Tab α) (i : Nat) :
    tget d (l.foldl (fun t p => tset d t p (f p (tget d t p))) t) i = if i ∈ l then f i (tget d t i) else tget d t i := by
  induction l generalizing t with
  | nil => simp
  | cons p l ih =>
    obtain ⟨hp, hl⟩ := List.nodup_cons.1 hl
    rw [List.foldl_cons, ih hl, tget_tset]
    by_cases hi : i = p
    · subst hi; simp [hp]
    · simp [hi]

end

end Sys2Proof.Machine
end


section
/-! SUPPORT. The lamps after a rebuilding (O20). -/

namespace Sys2Proof.Machine

variable {ld : Ld}

/-- A channel relit with a colour set, its output at its level. -/
def litChannel (cs : Colours) (ld : Ld) (p : Nat) (c : Colour) (ch : Channel) : Channel :=
  let r := ch.relit (litFor (ld.lamp p).exclusive cs c) (ld.litTarget p)
  { r with output := r.level }

/-- The colour of a channel number (chapter 7). -/
def channelColour (i : Nat) : Colour := if i % 3 = 0 then .red else if i % 3 = 1 then .green else .amber

/-- The three writes of one position meet every channel of it once, and no other. -/
theorem tget_position_channels (p i : Nat) (f : Colour → Channel → Channel) (t : Tab Channel) :
    tget noChannel
      (channelColours.foldl (fun t x => tset noChannel t (3 * p + x.1) (f x.2 (tget noChannel t (3 * p + x.1)))) t) i
      = if i / 3 = p then f (channelColour i) (tget noChannel t i) else tget noChannel t i := by
  simp only [channelColours, List.foldl_cons, List.foldl_nil, tget_tset]
  by_cases h : i / 3 = p
  · have hi : i = 3 * p ∨ i = 3 * p + 1 ∨ i = 3 * p + 2 := by omega
    rw [if_pos h]
    rcases hi with rfl | rfl | rfl
    · have hc : channelColour (3 * p) = .red := by unfold channelColour; rw [if_pos (by omega)]
      simp [hc]
    · have hc : channelColour (3 * p + 1) = .green := by
        unfold channelColour; rw [if_neg (by omega), if_pos (by omega)]
      simp [hc]
    · have hc : channelColour (3 * p + 2) = .amber := by
        unfold channelColour; rw [if_neg (by omega), if_neg (by omega)]
      simp [hc]
  · have h0 : i ≠ 3 * p + 0 := by omega
    have h1 : i ≠ 3 * p + 1 := by omega
    have h2 : i ≠ 3 * p + 2 := by omega
    rw [if_neg h, if_neg h2, if_neg h1, if_neg h0]

theorem setOutputs_channel {p : Nat} (h : (ld.lamp p).phase = none) (i : Nat) :
    (setOutputs ld p).channel i =
      if i / 3 = p then { ld.channel i with output := (ld.channel i).level } else ld.channel i := by
  have hset := tget_position_channels p i
    (fun c ch => { ch with
      output := outputLevel ((ld.lamp p).phase.map (·.1)) (ld.anyLit p) (c == .amber) (ld.litTarget p) ch.level }) ld.channels
  refine Eq.trans hset ?_
  rw [h]
  rfl

theorem relightWith_channel {p : Nat} (cs : Colours) (h : (ld.lamp p).phase = none) (i : Nat) :
    (relightWith cs ld p).channel i =
      if i / 3 = p then litChannel cs ld p (channelColour i) (ld.channel i) else ld.channel i := by
  have hrelit := tget_position_channels p i
    (fun c ch => ch.relit (litFor (ld.lamp p).exclusive cs c) (ld.litTarget p)) ld.channels
  unfold relightWith; dsimp only
  rw [setOutputs_channel (by exact h)]
  unfold Ld.channel
  dsimp only
  rw [hrelit]
  split <;> rfl

/-- Lamps whose channels alone differ from those of `ld`. -/
theorem relightWith_settings (cs : Colours) (c : Tab Channel) (p : Nat) :
    relightWith cs { ld with channels := c } p = { ld with channels := (relightWith cs { ld with channels := c } p).channels } := rfl

theorem relightAll_channel (colours : Nat → Colours) (l : List Nat) (hl : l.Nodup) (hphase : ∀ p, (ld.lamp p).phase = none)
    (c : Tab Channel) (i : Nat) :
    (l.foldl (fun x p => relightWith (colours p) x p) { ld with channels := c }).channel i =
      if i / 3 ∈ l then litChannel (colours (i / 3)) ld (i / 3) (channelColour i) (tget noChannel c i) else tget noChannel c i := by
  induction l generalizing c with
  | nil => rfl
  | cons p l ih =>
    obtain ⟨hp, hl⟩ := List.nodup_cons.1 hl
    have hstep := relightWith_channel (ld := { ld with channels := c }) (colours p) (hphase p) i
    rw [List.foldl_cons, relightWith_settings, ih hl]
    have hread : tget noChannel (relightWith (colours p) { ld with channels := c } p).channels i =
        if i / 3 = p then litChannel (colours p) ld p (channelColour i) (tget noChannel c i) else tget noChannel c i := hstep
    rw [hread]
    by_cases hi : i / 3 = p
    · subst hi; simp [hp]
    · simp [hi]

/-- The lamps with no call phase and every channel dark. -/
def darkened (ld : Ld) : Ld :=
  { ld with
    channels := ld.channels.map fun kv => (kv.1, { noChannel with pin := kv.2.pin })
    lamps := ld.lamps.map fun kv => (kv.1, { kv.2 with phase := none }) }

theorem darkened_lamp (ld : Ld) (p : Nat) : (darkened ld).lamp p = { ld.lamp p with phase := none } := by
  have hm := tfind_map ld.lamps (fun _ (x : Lamp) => { x with phase := none }) p
  refine (congrArg (fun o : Option Lamp => o.getD plainLamp) hm).trans ?_
  unfold Ld.lamp tget
  cases tfind ld.lamps p <;> rfl

theorem darkened_channel (ld : Ld) (i : Nat) : (darkened ld).channel i = { noChannel with pin := (ld.channel i).pin } := by
  have hm := tfind_map ld.channels (fun _ (x : Channel) => { noChannel with pin := x.pin }) i
  refine (congrArg (fun o : Option Channel => o.getD noChannel) hm).trans ?_
  unfold Ld.channel tget
  cases tfind ld.channels i <;> rfl

theorem darkened_litTarget (ld : Ld) (p : Nat) : (darkened ld).litTarget p = ld.litTarget p := by
  unfold Ld.litTarget
  rw [darkened_lamp]
  rfl

theorem rebuildLamps_lamp (colours : Nat → Colours) (ld : Ld) (p : Nat) :
    (rebuildLamps colours ld).lamp p = { ld.lamp p with phase := none } := by
  have hkeep : (rebuildLamps colours ld).lamps = (darkened ld).lamps :=
    foldl_keeps (P := fun x : Ld => x.lamps = (darkened ld).lamps) (fun _ _ h => h) positionList (darkened ld) rfl
  refine Eq.trans ?_ (darkened_lamp ld p)
  unfold Ld.lamp
  rw [hkeep]

theorem rebuildLamps_rest (colours : Nat → Colours) (ld : Ld) :
    rebuildLamps colours ld = { ld with channels := (rebuildLamps colours ld).channels, lamps := (rebuildLamps colours ld).lamps } :=
  foldl_keeps (P := fun x : Ld => x = { ld with channels := x.channels, lamps := x.lamps })
    (fun x p h => congrArg (fun y : Ld => { y with channels := (relightWith (colours p) x p).channels }) h)
    positionList (darkened ld) rfl

theorem rebuildLamps_channel (colours : Nat → Colours) (ld : Ld) {p n : Nat} {c : Colour} (hp : p < 24)
    (hc : (n, c) ∈ [(0, Colour.red), (1, .green), (2, .amber)]) :
    (rebuildLamps colours ld).channel (3 * p + n) =
      let lit := if (ld.lamp p).exclusive then (colours p).highest == some c else (colours p).has c
      let level := if lit then ld.litTarget p else 0
      { lit := lit, target := level, level := level, output := level, pin := (ld.channel (3 * p + n)).pin } := by
  have hn : n < 3 ∧ channelColour (3 * p + n) = c := by
    simp only [List.mem_cons, Prod.mk.injEq, List.not_mem_nil, or_false] at hc
    unfold channelColour
    rcases hc with ⟨rfl, rfl⟩ | ⟨rfl, rfl⟩ | ⟨rfl, rfl⟩
    · exact ⟨by decide, if_pos (by omega)⟩
    · exact ⟨by decide, by rw [if_neg (by omega), if_pos (by omega)]⟩
    · exact ⟨by decide, by rw [if_neg (by omega), if_neg (by omega)]⟩
  obtain ⟨hn, hcol⟩ := hn
  have hdiv : (3 * p + n) / 3 = p := by omega
  have hphase (q : Nat) : ((darkened ld).lamp q).phase = none := by rw [darkened_lamp]
  have hall := relightAll_channel (ld := darkened ld) colours positionList List.nodup_range hphase (darkened ld).channels (3 * p + n)
  rw [hdiv, if_pos (show p ∈ positionList from List.mem_range.2 hp), hcol] at hall
  refine Eq.trans hall ?_
  change litChannel _ _ _ _ ((darkened ld).channel _) = _
  rw [darkened_channel]
  unfold litChannel Channel.relit litFor
  rw [darkened_litTarget, darkened_lamp]
  dsimp only
  split <;> split <;> simp_all [noChannel]

end Sys2Proof.Machine
end


section
/-! SUPPORT. New targets by guard states (O20). -/

namespace Sys2Proof.Machine

variable {s : State}

/-! ### Guard states taken -/

/-- The guard states after reports that tell of each position what `red` tells. -/
theorem mem_takeGuards (red : Nat → Bool) (l guards : List Nat) (p : Nat) :
    p ∈ (l.map fun q => (q, red q)).foldl (fun g (r : Nat × Bool) => if r.2 then insertAsc g r.1 else g.filter (· != r.1)) guards ↔
      if p ∈ l then red p = true else p ∈ guards := by
  induction l generalizing guards with
  | nil => simp
  | cons q l ih =>
    rw [List.map_cons, List.foldl_cons, ih]
    by_cases hp : p ∈ l
    · simp [hp]
    · rw [if_neg hp]
      by_cases hq : p = q
      · subst hq
        cases red p <;> simp [mem_insertAsc]
      · cases red q <;> simp [hp, hq, mem_insertAsc]

/-- Where TE takes every guard state, each entry a position guards has the target TE computes for it. -/
theorem guardTargets_all (red : Nat → Bool) (s : State) :
    let t := sendGains (guardTargets (positionList.map fun p => (p, red p)) s)
    t.te = { s.te with paths := t.te.paths, guards := t.te.guards }
    ∧ (∀ p < 24, p ∈ t.te.guards ↔ red p = true)
    ∧ ∀ key e p, tfind t.te.paths key = some e → p < 24 → (s.te.port e.listener).guardPos = some p →
        e.target = targetGain t.te e := by
  intro t
  have hmap : (positionList.map fun p => (p, red p)).map (·.1) = positionList := by
    rw [List.map_map]; exact List.map_id _
  let s0 : State := { s with te := s.te.takeGuards (positionList.map fun p => (p, red p)) }
  let keys := (s0.te.paths.filter fun kv => (s0.te.port kv.2.listener).guardPos.any positionList.contains).map (·.1)
  have ht : t = sendGains (keys.foldl retarget s0) := by
    change sendGains (guardTargets _ _) = _
    unfold guardTargets retargetGuarded
    rw [hmap]
  have hsend := sendGains_retargets (touched := fun _ => False) (keys.foldl retarget s0)
  have hall : Retargeted (fun _ => True) s0 t := by
    rw [ht]
    refine Retargeted.trans ?_ (hsend.mono fun _ _ => trivial)
    exact foldl_keeps (P := Retargeted (fun _ => True) s0)
      (fun u k hu => hu.trans ((retarget_retargets u k).mono fun _ _ => trivial)) keys s0 (.of_te rfl)
  have hguards : t.te.guards = s0.te.guards := by rw [hall.te]
  refine ⟨by rw [hguards, hall.te]; rfl, fun p hp => ?_, fun key e p he hp hg => ?_⟩
  · rw [hguards]
    refine (mem_takeGuards red positionList s.te.guards p).trans ?_
    rw [if_pos (show p ∈ positionList from List.mem_range.2 hp)]
  · obtain ⟨e0, he0, hsh⟩ := Option.map_eq_some_iff.1 ((hall.shapes.find key).symm.trans (congrArg _ he))
    have hl : e0.listener = e.listener := congrArg PathShape.listener hsh
    have hkey : key ∈ keys := by
      refine List.mem_map.2 ⟨(key, e0), List.mem_filter.2 ⟨mem_of_tfind he0, ?_⟩, rfl⟩
      have hport : (s0.te.port e0.listener).guardPos = some p := by rw [hl]; exact hg
      rw [hport]
      simp [positionList, hp]
    have htarget := retargets_target keys hkey he0
    rw [← hsend.targets key id, ← ht, he] at htarget
    rw [hall.targetGain hsh.symm]
    exact Option.some.inj htarget

end Sys2Proof.Machine
end


section
/-! SUPPORT. The resolution after TR's soft reset, and the path table after TE's (O20). -/

namespace Sys2Proof.Machine

variable {s : State}

/-! ### The resolution (R119, R120) -/

theorem has_add (set : Colours) (a c : Colour) : (set.add a).has c = true ↔ set.has c = true ∨ a = c := by
  rcases set with ⟨_ | _, _ | _, _ | _⟩ <;> cases a <;> cases c <;> decide

/-- A position has the colours of the walks that visit it. -/
theorem coloursFrom_has (walks : List (Contribution × WalkResult)) (p : Nat) (c : Colour) :
    (coloursFrom walks p).has c = true ↔ ∃ w ∈ walks, w.1.colour = c ∧ p ∈ w.2.visited := by
  have fold : ∀ set : Colours,
      ((walks.foldl (fun c w => if w.2.visited.contains p then c.add w.1.colour else c) set).has c = true
        ↔ set.has c = true ∨ ∃ w ∈ walks, w.1.colour = c ∧ p ∈ w.2.visited) := by
    induction walks with
    | nil => simp
    | cons w walks ih =>
      intro set
      rw [List.foldl_cons, ih]
      by_cases hw : p ∈ w.2.visited
      · simp only [List.contains_iff_mem, hw, if_true, has_add, List.mem_cons, exists_eq_or_imp, and_true, or_assoc]
      · simp [hw]
  refine (fold noColours).trans ?_
  have hnone : noColours.has c = false := by cases c <;> rfl
  simp [hnone]

/-- A position without its calls. -/
def bare (x : Position) : Position := { x with hostCall := none, keyCalls := [] }

/-- TR with no calls, before its recomputation. -/
def tallyBared (tr : Tr) : Tr :=
  { tr with
    positions := positionList.foldl (fun t p => tset noPosition t p (bare (tget noPosition t p))) tr.positions
    resolutions := 0 }

/-- What the mixers give TR at its soft reset. -/
def resetContributions (s : State) : List Contribution := if yetToReset .mm s then [] else contributionsOf s.mm

theorem softResetTr_tr (s : State) : (softResetTr s).tr = resolve s.rc (resetContributions s) (tallyBared s.tr) := rfl

/-- The walks of a list of contributions (R119). -/
def walksOf (rc : Rc) (tr : Tr) (cs : List Contribution) : List (Contribution × WalkResult) :=
  cs.map fun c => (c, walk rc (tr.binding c.mixer c.input))

theorem resolve_position (rc : Rc) (cs : List Contribution) (tr : Tr) {p : Nat} (hp : p ∈ positionList) :
    (resolve rc cs tr).position p = { tr.position p with colours := coloursFrom (walksOf rc tr cs) p } := by
  have hnodup : positionList.Nodup := List.nodup_range
  unfold resolve Tr.position
  generalize positionList = l at hp hnodup ⊢
  exact (tget_foldl_tset noPosition (fun p x => { x with colours := coloursFrom (walksOf rc tr cs) p }) l hnodup tr.positions p).trans
    (if_pos hp)

theorem tallyBared_position (tr : Tr) {p : Nat} (hp : p ∈ positionList) : (tallyBared tr).position p = bare (tr.position p) := by
  have hnodup : positionList.Nodup := List.nodup_range
  unfold tallyBared Tr.position
  generalize positionList = l at hp hnodup ⊢
  exact (tget_foldl_tset noPosition (fun _ x => bare x) l hnodup tr.positions p).trans (if_pos hp)

theorem tallyBared_walks (rc : Rc) (tr : Tr) (cs : List Contribution) : walksOf rc (tallyBared tr) cs = walksOf rc tr cs := by
  have hb (m : Mixer) (i : Nat) : (tallyBared tr).binding m i = tr.binding m i := by
    cases m <;> simp only [Tr.binding, Tr.bindings, tallyBared]
  simp only [walksOf, hb]

theorem softResetTr_position (s : State) {p : Nat} (hp : p < 24) : (softResetTr s).tr.position p =
    { bare (s.tr.position p) with colours := coloursFrom (walksOf s.rc s.tr (resetContributions s)) p } := by
  have hm : p ∈ positionList := List.mem_range.2 hp
  rw [softResetTr_tr, resolve_position _ _ _ hm, tallyBared_position _ hm, tallyBared_walks]

theorem softResetTr_colours (s : State) {p : Nat} (hp : p < 24) (c : Colour) :
    ((softResetTr s).tr.position p).colours.has c = true ↔
      ∃ k ∈ (softResetTr s).tr.contributions, k.colour = c ∧ p ∈ (walk s.rc (s.tr.binding k.mixer k.input)).visited := by
  rw [softResetTr_position s hp]
  refine (coloursFrom_has _ p c).trans ?_
  unfold walksOf
  simp only [List.mem_map, exists_exists_and_eq_and]
  rfl

theorem softResetTr_silent (h : (softResetTr s).tr.contributions = []) :
    (softResetTr s).tr.unbound = 0 ∧ (softResetTr s).tr.stops = [] := by
  have hc : resetContributions s = [] := h
  rw [softResetTr_tr, hc]
  exact ⟨rfl, rfl⟩

/-! ### Which blocks are still awaited -/

theorem yetToReset_iff {b : Block} : yetToReset b s = true ↔ ∃ r, s.cp.resetting = some r ∧ b ∈ r.left := by
  unfold yetToReset
  cases s.cp.resetting <;> simp

/-! ### The path table of the standing causes alone (R161) -/

/-- The level of an entry is the highest of its causes. -/
theorem settle_level (e : PathEntry) (h : e.causes ≠ []) :
    (∃ c ∈ e.causes, c.level = (settle e).level) ∧ ∀ c ∈ e.causes, c.level ≤ (settle e).level := by
  have fold : ∀ (l : List Cause) (m : Int),
      (l.foldl (fun m x => max m x.level) m = m ∨ ∃ c ∈ l, c.level = l.foldl (fun m x => max m x.level) m)
      ∧ m ≤ l.foldl (fun m x => max m x.level) m ∧ ∀ c ∈ l, c.level ≤ l.foldl (fun m x => max m x.level) m := by
    intro l
    induction l with
    | nil => exact fun m => ⟨.inl rfl, Int.le_refl m, nofun⟩
    | cons x l ih =>
      intro m
      obtain ⟨hmax, hle, hall⟩ := ih (max m x.level)
      rw [List.foldl_cons]
      refine ⟨?_, by omega, fun c hc => ?_⟩
      · rcases hmax with hmax | ⟨c, hc, hl⟩
        · rcases max_choice m x.level with hm | hm
          · exact .inl (hmax.trans hm)
          · exact .inr ⟨x, List.mem_cons_self .., (hmax.trans hm).symm⟩
        · exact .inr ⟨c, List.mem_cons_of_mem _ hc, hl⟩
      · rcases List.mem_cons.1 hc with rfl | hc
        · omega
        · exact hall c hc
  unfold settle
  split
  · next he => exact absurd he h
  · next c l he =>
    obtain ⟨hmax, hle, hall⟩ := fold l c.level
    dsimp only
    refine ⟨?_, fun x hx => ?_⟩
    · rcases hmax with hmax | ⟨x, hx, hl⟩
      · exact ⟨c, he ▸ List.mem_cons_self .., hmax.symm⟩
      · exact ⟨x, he ▸ List.mem_cons_of_mem _ hx, hl⟩
    · rw [he] at hx
      rcases List.mem_cons.1 hx with rfl | hx
      · exact hle
      · exact hall x hx

theorem settle_opened (e : PathEntry) (h : e.causes ≠ []) : (settle e).opened = true := by
  unfold settle
  split
  · next he => exact absurd he h
  · rfl

/-- The entry of one new cause's pair, with the causes of `news` for it. -/
def recorded (news : List NewCause) (n : NewCause) : PathEntry := newEntry n.talker n.listener (causesFor news n.key)

theorem mem_causesFor {news : List NewCause} {key : Nat} {c : Cause} :
    c ∈ causesFor news key ↔ ∃ n ∈ news, n.key = key ∧ n.cause = c := by
  simp [causesFor, and_assoc]

theorem recorded_causes (news : List NewCause) (n : NewCause) : (recorded news n).causes = causesFor news n.key := settle_causes _

/-- What stands of a cleared table: each entry is that of some new cause, and each new cause has its entry. -/
theorem changeCauses_fresh (news : List NewCause) :
    (∀ kv ∈ changeCauses (fun _ _ => false) news [], ∃ n ∈ news, kv = (n.key, recorded news n))
    ∧ ∀ n ∈ news, (tfind (changeCauses (fun _ _ => false) news []) n.key).isSome = true := by
  have fold : ∀ (l : List NewCause), (∀ n ∈ l, n ∈ news) → ∀ t : Tab PathEntry, (∀ kv ∈ t, ∃ n ∈ news, kv = (n.key, recorded news n)) →
      let u := l.foldl (fun t n => if (tfind t n.key).isSome then t else tput t n.key (recorded news n)) t
      (∀ kv ∈ u, ∃ n ∈ news, kv = (n.key, recorded news n))
      ∧ (∀ key, (tfind t key).isSome = true → (tfind u key).isSome = true) ∧ ∀ n ∈ l, (tfind u n.key).isSome = true := by
    intro l
    induction l with
    | nil => exact fun _ t ht => ⟨ht, fun _ h => h, nofun⟩
    | cons n l ih =>
      intro hl t ht
      have hstep : (∀ kv ∈ (if (tfind t n.key).isSome then t else tput t n.key (recorded news n)),
            ∃ n ∈ news, kv = (n.key, recorded news n))
          ∧ ∀ key, (tfind t key).isSome = true ∨ key = n.key →
            (tfind (if (tfind t n.key).isSome then t else tput t n.key (recorded news n)) key).isSome = true := by
        split
        · next hn => exact ⟨ht, fun key hk => hk.elim id fun e => e ▸ hn⟩
        · refine ⟨fun kv hkv => ?_, fun key hk => ?_⟩
          · rcases mem_tput hkv with rfl | hm
            · exact ⟨n, hl n (List.mem_cons_self ..), rfl⟩
            · exact ht kv hm
          · rw [tfind_tput]
            split
            · rfl
            · next hne => exact hk.resolve_right hne
      obtain ⟨hmem, hold, hnew⟩ := ih (fun m hm => hl m (List.mem_cons_of_mem _ hm)) _ hstep.1
      refine ⟨hmem, fun key hk => hold key (hstep.2 key (.inl hk)), fun m hm => ?_⟩
      rcases List.mem_cons.1 hm with rfl | hm
      · exact hold _ (hstep.2 _ (.inr rfl))
      · exact hnew m hm
  obtain ⟨hmem, -, hfound⟩ := fold news (fun _ h => h) [] nofun
  exact ⟨hmem, hfound⟩

/-- An entry of the cleared table, at the gain TE computes for it. -/
def jumped (te : Te) (e : PathEntry) : PathEntry :=
  { e with
    target := targetGain te e
    current := targetGain te e
    sync := if targetGain te e = .mute then .clean else .dirty }

theorem sameShapes_jumped (te : Te) (a : Tab PathEntry) : SameShapes a (a.map fun kv => (kv.1, jumped te kv.2)) := by
  refine ⟨fun key => ?_, fun f => ?_⟩
  · have hm := tfind_map a (fun _ e => jumped te e) key
    rw [hm]
    cases tfind a key <;> rfl
  · rw [List.any_map]; rfl

/-- TE with the path table of its standing causes. -/
def standingOnly (te : Te) : Te := { te with paths := changeCauses (fun _ _ => false) (standingCauses te) [] }

/-- The path table TE clears to. -/
def clearedPaths (te : Te) : Tab PathEntry :=
  (standingOnly te).paths.map fun kv => (kv.1, jumped (standingOnly te) kv.2)

theorem mem_standingCauses {te : Te} {n : NewCause} : n ∈ standingCauses te ↔ ∃ x ∈ te.standing,
    n = ⟨x.2.talker, x.2.listener, .standing x.1, x.2.level⟩ := by
  simp only [standingCauses, List.mem_map, eq_comm]

/-- What an entry of the cleared table is. -/
theorem mem_clearedPaths {te : Te} {kv : Nat × PathEntry} (h : kv ∈ clearedPaths te) :
    kv.2.opened = true ∧ kv.2.target = targetGain { te with paths := clearedPaths te } kv.2 ∧ kv.2.current = kv.2.target
    ∧ kv.2.sentValue = .mute ∧ kv.2.sync = (if kv.2.current = .mute then .clean else .dirty)
    ∧ kv.1 = pairKey kv.2.talker kv.2.listener
    ∧ (∃ c ∈ kv.2.causes, c.level = kv.2.level) ∧ (∀ c ∈ kv.2.causes, c.level ≤ kv.2.level)
    ∧ ∀ c ∈ kv.2.causes, ∃ x ∈ te.standing,
        kv.1 = pairKey x.2.talker x.2.listener ∧ c = { origin := .standing x.1, level := x.2.level } := by
  obtain ⟨kv0, h0, rfl⟩ := List.mem_map.1 h
  obtain ⟨n, hn, rfl⟩ := (changeCauses_fresh (standingCauses te)).1 kv0 h0
  have hne : causesFor (standingCauses te) n.key ≠ [] :=
    List.ne_nil_of_mem (mem_causesFor.2 ⟨n, hn, rfl, rfl⟩)
  have hcauses := recorded_causes (standingCauses te) n
  have htarget : targetGain { te with paths := clearedPaths te } (jumped (standingOnly te) (recorded (standingCauses te) n)) =
      targetGain (standingOnly te) (recorded (standingCauses te) n) :=
    targetGain_sameShapes (te := standingOnly te) (sameShapes_jumped _ _) rfl
  have hpair : (recorded (standingCauses te) n).talker = n.talker ∧ (recorded (standingCauses te) n).listener = n.listener := by
    unfold recorded newEntry settle; split <;> exact ⟨rfl, rfl⟩
  have hsent : (recorded (standingCauses te) n).sentValue = .mute := by
    unfold recorded newEntry settle; split <;> rfl
  have hlevel := settle_level
    { talker := n.talker, listener := n.listener, opened := true, level := 0, causes := causesFor (standingCauses te) n.key
      target := .mute, current := .mute, sentValue := .mute, sync := .clean } hne
  dsimp only at hlevel
  refine ⟨settle_opened _ hne, htarget.symm, rfl, hsent, rfl, ?_, ?_, ?_, fun c hc => ?_⟩
  · change n.key = pairKey (recorded (standingCauses te) n).talker (recorded (standingCauses te) n).listener
    rw [hpair.1, hpair.2]; rfl
  · obtain ⟨c, hc, hl⟩ := hlevel.1
    exact ⟨c, hcauses.symm ▸ hc, hl⟩
  · exact fun c hc => hlevel.2 c (hcauses ▸ hc)
  · have hc' : c ∈ causesFor (standingCauses te) n.key := hcauses ▸ hc
    obtain ⟨m, hm, hkey, rfl⟩ := mem_causesFor.1 hc'
    obtain ⟨x, hx, rfl⟩ := mem_standingCauses.1 hm
    exact ⟨x, hx, hkey.symm, rfl⟩

/-- Every standing slot has its entry in the cleared table, with its cause. -/
theorem clearedPaths_standing {te : Te} {x : Nat × Standing} (hx : x ∈ te.standing) : ∃ e,
    tfind (clearedPaths te) (pairKey x.2.talker x.2.listener) = some e ∧ e.opened = true
    ∧ { origin := .standing x.1, level := x.2.level } ∈ e.causes := by
  have hn : (⟨x.2.talker, x.2.listener, .standing x.1, x.2.level⟩ : NewCause) ∈ standingCauses te := mem_standingCauses.2 ⟨x, hx, rfl⟩
  obtain ⟨e, he⟩ := Option.isSome_iff_exists.1 ((changeCauses_fresh (standingCauses te)).2 _ hn)
  have hfind : tfind (clearedPaths te) (pairKey x.2.talker x.2.listener) = some (jumped (standingOnly te) e) := by
    refine (tfind_map (standingOnly te).paths (fun _ e => jumped (standingOnly te) e) _).trans ?_
    exact congrArg (Option.map _) he
  refine ⟨_, hfind, (mem_clearedPaths (mem_of_tfind hfind)).1, ?_⟩
  obtain ⟨m, hm, hkv⟩ := (changeCauses_fresh (standingCauses te)).1 _ (mem_of_tfind he)
  obtain ⟨hkey, rfl⟩ := Prod.mk.inj hkv
  change _ ∈ (recorded (standingCauses te) m).causes
  rw [recorded_causes]
  exact mem_causesFor.2 ⟨_, hn, hkey, rfl⟩

end Sys2Proof.Machine
end


section
/-! SUPPORT. The soft reset of each block (O20). -/

namespace Sys2Proof.Machine

variable {s : State}

/-- The lamps as a rebuilding leaves them (R142). -/
def Rebuilt (s : State) (colours : Nat → Colours) (new : Ld) : Prop :=
  new = { s.ld with channels := new.channels, lamps := new.lamps }
  ∧ (∀ p, new.lamp p = { s.ld.lamp p with phase := none })
  ∧ ∀ p < 24, ∀ n c, (n, c) ∈ [(0, Colour.red), (1, .green), (2, .amber)] →
      let lit := if (s.ld.lamp p).exclusive then (colours p).highest == some c else (colours p).has c
      let level := if lit then s.ld.litTarget p else 0
      new.channel (3 * p + n) = { lit := lit, target := level, level := level, output := level, pin := (s.ld.channel (3 * p + n)).pin }

theorem rebuildLamps_rebuilt (s : State) (colours : Nat → Colours) : Rebuilt s colours (rebuildLamps colours s.ld) :=
  ⟨rebuildLamps_rest colours s.ld, rebuildLamps_lamp colours s.ld, fun _ hp _ _ hc => rebuildLamps_channel colours s.ld hp hc⟩

theorem ld_reports_frame (ld : Ld) (r : Reports) (s : State) : OnlyChanges [.ld, .reports] s { s with ld := ld, reports := r } := by
  intro q hq; cases q <;> first | rfl | simp at hq

theorem rc_reports_frame (rc : Rc) (r : Reports) (s : State) : OnlyChanges [.cp, .rc, .reports] s { s with rc := rc, reports := r } := by
  intro q hq; cases q <;> first | rfl | simp at hq

theorem routerAsking_dest (rc : Rc) (d : Nat) : (routerAsking rc).dest d = ⟨(rc.dest d).confirmed, none, none⟩ := by
  refine Eq.trans ?_ (routerCleared_dest rc d)
  simp only [Rc.dest, routerAsking]

/-! ### LD -/

theorem softResetLd_awaited (h : yetToReset .tr s = true) : ∃ new, Rebuilt s (fun _ => ⟨false, false, false⟩) new
    ∧ softResetLd s = { s with ld := new, reports := { s.reports with ldRelights := [], ldCalls := [] } } :=
  ⟨_, rebuildLamps_rebuilt s _, if_pos h⟩

theorem softResetLd_tally (h : yetToReset .tr s = false) : ∃ new, Rebuilt s (fun p => (s.tr.position p).colours) new
    ∧ softResetLd s = { s with ld := new, reports := { s.reports with ldRelights := [] } } :=
  ⟨_, rebuildLamps_rebuilt s _, if_neg (by rw [h]; exact Bool.false_ne_true)⟩

/-! ### TR -/

/-- LD finds its state from TR's anew where it took its soft reset before. -/
def lampsFollow (s : State) : State := if yetToReset .ld s then s else lampsFromTally s

/-- TE takes TR's guard states where it took its soft reset before. -/
def gainsFollow (s : State) : State :=
  if yetToReset .te s then s else sendGains (guardTargets (positionList.map fun p => (p, s.tr.guard p)) s)

theorem followTrReset_eq (s : State) : followTrReset s = gainsFollow (lampsFollow (softResetTr s)) := rfl

theorem lampsFollow_frame (s : State) : OnlyChanges [.ld] s (lampsFollow s) := by
  unfold lampsFollow; split
  · exact .refl _ _
  · intro q hq; cases q <;> first | rfl | simp at hq

theorem gainsFollow_frame (s : State) : OnlyChanges [.te, .ml] s (gainsFollow s) := by
  unfold gainsFollow; split
  · exact .refl _ _
  · exact (guardTargets_frame _ s).trans (sendGains_frame _)

theorem tr_reports_frame (tr : Tr) (r : Reports) (s : State) : OnlyChanges [.tr, .reports] s { s with tr := tr, reports := r } := by
  intro q hq; cases q <;> first | rfl | simp at hq

theorem softResetTr_frame (s : State) : OnlyChanges [.tr, .reports] s (softResetTr s) := tr_reports_frame _ _ s

theorem softResetTr_rest (s : State) : (softResetTr s).tr.bindingsA = s.tr.bindingsA
    ∧ (softResetTr s).tr.bindingsB = s.tr.bindingsB ∧ (softResetTr s).tr.resolutions = 1
    ∧ (softResetTr s).tr.contributions = resetContributions s := by
  have hbump : bump 0 = 1 := rfl
  simp only [softResetTr_tr, resolve, tallyBared, hbump, and_self]

theorem followTrReset_frame (s : State) : OnlyChanges [.tr, .ld, .te, .ml, .reports] s (followTrReset s) :=
  ((softResetTr_frame s).mono (by simp)).trans
    (((lampsFollow_frame _).mono (by simp)).trans ((gainsFollow_frame _).mono (by simp)))

theorem followTrReset_tr (s : State) : (followTrReset s).tr = (softResetTr s).tr :=
  (gainsFollow_frame _ .tr (by simp)).trans (lampsFollow_frame _ .tr (by simp))

theorem followTrReset_reports (s : State) : (followTrReset s).reports = (softResetTr s).reports :=
  (gainsFollow_frame _ .reports (by simp)).trans (lampsFollow_frame _ .reports (by simp))

theorem followTrReset_ld (s : State) : (followTrReset s).ld = (lampsFollow (softResetTr s)).ld := gainsFollow_frame _ .ld (by simp)

theorem yetToReset_softResetTr (b : Block) (s : State) : yetToReset b (softResetTr s) = yetToReset b s := by
  unfold yetToReset
  rw [show (softResetTr s).cp = s.cp from softResetTr_frame s .cp (by simp)]

theorem yetToReset_lampsFollow (b : Block) (s : State) : yetToReset b (lampsFollow s) = yetToReset b s := by
  unfold yetToReset
  rw [show (lampsFollow s).cp = s.cp from lampsFollow_frame s .cp (by simp)]

theorem followTrReset_lamps (h : yetToReset .ld s = false) :
    Rebuilt s (fun p => ((followTrReset s).tr.position p).colours) (followTrReset s).ld := by
  rw [followTrReset_ld, followTrReset_tr]
  unfold lampsFollow
  rw [yetToReset_softResetTr, h]
  exact rebuildLamps_rebuilt s _

theorem followTrReset_lamps_awaited (h : yetToReset .ld s = true) : (followTrReset s).ld = s.ld := by
  rw [followTrReset_ld]
  unfold lampsFollow
  rw [yetToReset_softResetTr, h]
  exact softResetTr_frame s .ld (by simp)

/-- TR's part alone leaves TE and ML. -/
theorem lampsFollow_softResetTr (s : State) :
    (lampsFollow (softResetTr s)).te = s.te ∧ (lampsFollow (softResetTr s)).ml = s.ml :=
  ⟨(lampsFollow_frame _ .te (by simp)).trans (softResetTr_frame s .te (by simp)),
    (lampsFollow_frame _ .ml (by simp)).trans (softResetTr_frame s .ml (by simp))⟩

theorem followTrReset_gains_awaited (h : yetToReset .te s = true) :
    (followTrReset s).te = s.te ∧ (followTrReset s).ml = s.ml := by
  have hstay : followTrReset s = lampsFollow (softResetTr s) := by
    rw [followTrReset_eq]
    exact if_pos (by rw [yetToReset_lampsFollow, yetToReset_softResetTr, h])
  rw [hstay]
  exact lampsFollow_softResetTr s

theorem followTrReset_gains (h : yetToReset .te s = false) :
    let t := followTrReset s
    t.te = { s.te with paths := t.te.paths, guards := t.te.guards }
    ∧ (∀ p < 24, p ∈ t.te.guards ↔ (t.tr.position p).colours.red = true)
    ∧ ∀ key e p, tfind t.te.paths key = some e → p < 24 → (s.te.port e.listener).guardPos = some p →
        e.target = targetGain t.te e := by
  intro t
  have htr : t.tr = (lampsFollow (softResetTr s)).tr := gainsFollow_frame _ .tr (by simp)
  have hte : (lampsFollow (softResetTr s)).te = s.te := (lampsFollow_softResetTr s).1
  have ht : t = sendGains (guardTargets (positionList.map fun p => (p, (lampsFollow (softResetTr s)).tr.guard p))
      (lampsFollow (softResetTr s))) := by
    refine Eq.trans (followTrReset_eq s) (if_neg ?_)
    rw [yetToReset_lampsFollow, yetToReset_softResetTr, h]
    exact Bool.false_ne_true
  have hall := guardTargets_all (lampsFollow (softResetTr s)).tr.guard (lampsFollow (softResetTr s))
  dsimp only at hall
  rw [← ht, hte] at hall
  obtain ⟨hsame, hguards, htargets⟩ := hall
  exact ⟨hsame, fun p hp => by rw [htr]; exact hguards p hp, htargets⟩

/-! ### TE -/

/-- TE after its soft reset, with the guard states it takes. -/
def routesReset (guards : List Nat) (te : Te) : Te :=
  { te with guards := guards, paths := clearedPaths { te with guards := guards }, refusals := 0, liveSkips := 0 }

theorem softResetTe_eq (s : State) : softResetTe s =
    { s with
      te := routesReset (if yetToReset .tr s then [] else positionList.filter s.tr.guard) s.te
      ml :=
        if s.ml.line = .up then
          { s.ml with
            line := .clearing, muteQueue := [], levelQueue := [], outstanding := [], muteAll := some none, nextPing := none
            consecutive := 0, tx := s.ml.tx.take 1 ++ [.muteAll] }
        else { s.ml with muteQueue := [], levelQueue := [] }
      reports := { s.reports with teFromTr := [], teFromMl := [] } } := by
  unfold softResetTe
  by_cases h : s.ml.line = .up
  · rw [if_pos h, if_pos h]; rfl
  · rw [if_neg h, if_neg h]; rfl

/-- Settles O20, block by block. -/
theorem softResetOfEachBlock : Obligations.SoftResetOfEachBlock := by
  intro s awaited rebuilt
  have hyet (b : Block) : awaited b ↔ yetToReset b s = true := yetToReset_iff.symm
  have hnot {b : Block} (h : ¬ awaited b) : yetToReset b s = false := by
    rw [hyet] at h; exact Bool.eq_false_iff.2 h
  refine ⟨rfl, ?pbc, ?kd, ?rc, ?mm, ?tr, ?ld, ?te, ?ml, rfl, rfl⟩
  case pbc =>
    obtain ⟨hframe, hcp, node, expiry, hp⟩ := softResetPbc_cleared s
    have hnode := softResetPbc_node s
    have hchecking := softResetPbc_checking (s := s)
    rw [show softReset .pbc s = softResetPbc s from rfl]
    rw [hp] at hnode hchecking ⊢
    exact ⟨hframe, hcp, rfl, rfl, rfl, rfl, rfl, rfl, rfl, rfl, rfl, rfl, rfl, rfl, rfl, rfl, rfl, rfl, rfl, rfl, rfl, rfl, hnode,
      hchecking⟩
  case kd => exact ⟨by intro q hq; cases q <;> first | rfl | simp at hq, rfl, rfl⟩
  case rc =>
    rw [show softReset .rc s = softResetRc s from rfl, softResetRc_eq]
    exact ⟨rc_reports_frame _ _ s, rfl, rfl, rfl, rfl, rfl, rfl, rfl, rfl, rfl, rfl, rfl, rfl, rfl,
      routerAsking_dest s.rc, fun d => routerAsking_queried s.rc, rfl⟩
  case mm => exact ⟨by intro q hq; cases q <;> first | rfl | simp at hq, fun x => by cases x <;> rfl⟩
  case tr =>
    intro t
    have htr : t.tr = (softResetTr s).tr := followTrReset_tr s
    obtain ⟨hbindingsA, hbindingsB, hresolutions, hcontributions⟩ := softResetTr_rest s
    refine ⟨followTrReset_frame s, by rw [htr, hbindingsA], by rw [htr, hbindingsB],
      by rw [htr, hresolutions], fun h => ?_, fun h => ?_, fun h => ?_,
      fun p hp => ?_, followTrReset_reports s, fun h => ?_, fun h => followTrReset_lamps (hnot h), fun h => ?_,
      fun h => followTrReset_gains (hnot h)⟩
    · rw [htr, hcontributions]; exact if_pos ((hyet _).1 h)
    · rw [htr, hcontributions]; exact if_neg (by rw [hnot h]; exact Bool.false_ne_true)
    · rw [htr] at h ⊢; exact softResetTr_silent h
    · rw [htr]
      have hpos := softResetTr_position s hp
      exact ⟨by rw [hpos]; rfl, by rw [hpos]; rfl, by rw [hpos]; rfl, softResetTr_colours s hp⟩
    · exact followTrReset_lamps_awaited ((hyet _).1 h)
    · exact followTrReset_gains_awaited ((hyet _).1 h)
  case ld =>
    intro t
    by_cases h : awaited .tr
    · obtain ⟨new, hnew, ht⟩ := softResetLd_awaited ((hyet _).1 h)
      rw [show t = softResetLd s from rfl, ht]
      exact ⟨ld_reports_frame _ _ s, fun _ => ⟨hnew, rfl⟩, fun hn => absurd h hn⟩
    · obtain ⟨new, hnew, ht⟩ := softResetLd_tally (hnot h)
      rw [show t = softResetLd s from rfl, ht]
      exact ⟨ld_reports_frame _ _ s, fun hy => absurd hy h, fun _ => ⟨hnew, rfl⟩⟩
  case te =>
    intro t
    have ht : t = softResetTe s := rfl
    rw [ht, softResetTe_eq]
    refine ⟨by intro q hq; cases q <;> first | rfl | simp at hq, rfl, fun h => if_pos ((hyet _).1 h), fun h p => ?_, fun kv hkv => ?_,
      fun x hx => ?_, rfl, rfl⟩
    · have hg : (if yetToReset .tr s then [] else positionList.filter s.tr.guard) = positionList.filter s.tr.guard :=
        if_neg (by rw [hnot h]; exact Bool.false_ne_true)
      change p ∈ (if yetToReset .tr s then [] else positionList.filter s.tr.guard) ↔ _
      rw [hg, List.mem_filter]
      exact and_congr_left' List.mem_range
    · exact mem_clearedPaths hkv
    · exact clearedPaths_standing (te := { s.te with guards := if yetToReset .tr s then [] else positionList.filter s.tr.guard }) hx
  case ml =>
    exact ⟨by intro q hq; cases q <;> first | rfl | simp at hq, rfl, unsent_eq s.te.paths, rfl⟩

end Sys2Proof.Machine
end


section
/-! SUPPORT. A SETTINGS record for node ID 0 taken by a node ASLEEP that holds another ID (O60). -/

namespace Sys2Proof.Machine

/-- A node ASLEEP with ID 5. No run from power-on meets it, but the statement speaks of every state. -/
def asleepWithId : State := { State.reset with pbc := { State.reset.pbc with node := .asleep, id := 5 } }

/-- SET-NODE 0 is accepted in ASLEEP and changes nothing there (R7). -/
theorem applyNodeId_asleep {s : State} (h : s.pbc.node = .asleep) : applyNodeId 0 s = some s := by
  unfold applyNodeId; simp only [h]

/-- The record of 26 zero bytes names node ID 0, and the node keeps ID 5. -/
theorem settings_keep_stray_id : (applyEntry 1 0 (List.replicate 26 0) asleepWithId).1.pbc.id = 5 := by
  have hnode : applySetting ownSetNode (sliceOf (List.replicate 26 0) 0 1) (asleepWithId, 0) = (asleepWithId, 0) := by
    change applySetting ownSetNode [0] (asleepWithId, 0) = _
    unfold applySetting ownSetNode
    simp only [show (0 : Byte).toNat = 0 from rfl, applyNodeId_asleep (s := asleepWithId) rfl]
    rfl
  change (applySettings (List.replicate 26 0) asleepWithId).1.pbc.id = 5
  unfold applySettings
  rw [hnode]
  rfl

/-- Refutes O60: a SETTINGS record whose node ID is 0 is accepted by a node ASLEEP, which keeps the ID it holds, so that the clause on
the ID fails where that is not 0. The statement lacks the premise that a node ASLEEP has ID 0. -/
theorem not_entriesAreApplied : ¬ Obligations.EntriesAreApplied := by
  unfold Obligations.EntriesAreApplied
  rintro ⟨-, -, -, -, hsettings⟩
  obtain ⟨-, hid, -⟩ := hsettings (List.replicate 26 0) asleepWithId List.length_replicate
  have htaken := hid ⟨by decide, .inl rfl⟩
  rw [settings_keep_stray_id] at htaken
  exact absurd htaken (by decide)

end Sys2Proof.Machine
end


section
/-! SUPPORT. Which components of the state the effect of each command can change: the Panel Bus, the mixers, the tally, the lamps
and the gains (O6). -/

namespace Sys2Proof.Machine

/-- Composition, the last operation first: read along the term from the outside in. -/
theorem OnlyChanges.after {ps : List Part} {s t u : State} (k : OnlyChanges ps t u) (h : OnlyChanges ps s t) : OnlyChanges ps s u :=
  h.trans k

/-! ### PBC: frames and windows -/

theorem lapseReservation_frame (s : State) : OnlyChanges [.pbc] s (lapseReservation s) := pbc_frame _ s

theorem startChecking_frame (s : State) : OnlyChanges [.pbc] s (startChecking s) := pbc_frame _ s

theorem enterListening_frame (s : State) : OnlyChanges [.pbc] s (enterListening s) := pbc_frame _ s

theorem sendPb_frame (f : PbFrame) (s : State) : OnlyChanges [.pbc] s (sendPb f s) := pbc_frame _ s

/-- The components the effects of PBC can change. -/
abbrev busParts : List Part := [.cp, .pbc, .reports]

/-- The state in which a clean frame that is no CARGO is taken. -/
theorem heard_frame (l : List Byte) (s : State) : OnlyChanges busParts s (lapseReservation (cleanFrame l s)) :=
  ((cleanFrame_frame l s).mono (by decide)).trans ((lapseReservation_frame _).mono (by decide))

theorem hearActivity_frame (c : Option BusOther) (s : State) : OnlyChanges busParts s (hearActivity c s) := by
  unfold hearActivity; split
  · exact (noteActivity_frame s).mono (by decide)
  · split
    · exact (badPbFrame_frame s).mono (by decide)
    · split
      · exact .refl _ s
      · exact (answerProbe_frame _).after (heard_frame _ s)

theorem pbFrameSent_frame (s : State) : OnlyChanges [.pbc] s (pbFrameSent s) := by
  unfold pbFrameSent; split
  · exact .refl _ s
  · dsimp only; split
    · exact pbc_frame _ s
    · split <;> exact pbc_frame _ s

theorem hearPass_frame (t : Byte) (s : State) : OnlyChanges busParts s (hearPass t s) := by
  unfold hearPass; dsimp only
  have h := heard_frame [t] s
  generalize lapseReservation (cleanFrame [t] s) = u at h ⊢
  refine (answerProbe_frame _).after (h.trans ?_)
  split
  · exact (pbc_frame _ u).mono (by decide)
  · exact (pbc_frame _ u).mono (by decide)
  · split
    · exact (beginTurn_frame u).mono (by decide)
    · exact .refl _ u
  · exact .refl _ u

theorem hearAsk_frame (f t : Byte) (s : State) : OnlyChanges busParts s (hearAsk f t s) := by
  unfold hearAsk; dsimp only
  have h := heard_frame [f, t] s
  generalize lapseReservation (cleanFrame [f, t] s) = u at h ⊢
  refine (answerProbe_frame _).after (h.trans ?_)
  split
  · split
    · exact ((sendPb_frame _ _).mono (by decide)).after ((pbc_frame _ u).mono (by decide))
    · exact (sendPb_frame _ u).mono (by decide)
  · exact .refl _ u

theorem hearCargo_frame (f t q : Byte) (l : List Byte) (s : State) : OnlyChanges busParts s (hearCargo f t q l s) := by
  unfold hearCargo; dsimp only
  have h : OnlyChanges busParts s (cleanFrame [f, t] s) := (cleanFrame_frame [f, t] s).mono (by decide)
  generalize cleanFrame [f, t] s = u at h ⊢
  refine (answerProbe_frame _).after (((lapseReservation_frame _).mono (by decide)).after (h.trans ?_))
  split
  · exact (takeCargo_frame _ _ _ u).mono (by decide)
  · exact .refl _ u

theorem hearRoom_frame (f t : Byte) (s : State) : OnlyChanges busParts s (hearRoom f t s) := by
  unfold hearRoom; dsimp only
  have h := heard_frame [f, t] s
  generalize lapseReservation (cleanFrame [f, t] s) = u at h ⊢
  refine (answerProbe_frame _).after (h.trans ?_)
  split
  · split
    · exact (sendLamps_frame _ u).mono (by decide)
    · exact .refl _ u
  · exact .refl _ u

theorem hearNoroom_frame (f t : Byte) (s : State) : OnlyChanges busParts s (hearNoroom f t s) := by
  unfold hearNoroom; dsimp only
  have h := heard_frame [f, t] s
  generalize lapseReservation (cleanFrame [f, t] s) = u at h ⊢
  refine (answerProbe_frame _).after (h.trans ?_)
  split
  · split
    · exact ((nextExchange_frame _).mono (by decide)).after ((stallPanel_frame _ u).mono (by decide))
    · exact .refl _ u
  · exact .refl _ u

theorem hearGot_frame (f t : Byte) (s : State) : OnlyChanges busParts s (hearGot f t s) := by
  unfold hearGot; dsimp only
  have h := heard_frame [f, t] s
  generalize lapseReservation (cleanFrame [f, t] s) = u at h ⊢
  refine (answerProbe_frame _).after (h.trans ?_)
  split
  · split
    · exact ((nextExchange_frame _).mono (by decide)).after ((confirmLamps_frame _ _ u).mono (by decide))
    · exact .refl _ u
  · exact .refl _ u

theorem hearHere_frame (f k : Byte) (unit : BitVec 32) (n : Byte) (s : State) : OnlyChanges busParts s (hearHere f k unit n s) := by
  unfold hearHere; dsimp only
  refine (heard_frame [f] s).trans ?_
  generalize lapseReservation (cleanFrame [f] s) = u
  split
  · exact endProbe_frame _ u
  · exact .refl _ u

theorem closeProbe_frame (s : State) : OnlyChanges busParts s (closeProbe s) := by
  unfold closeProbe; split
  · exact endProbe_frame _ s
  · exact .refl _ s

theorem closeAsk_frame (s : State) : OnlyChanges [.pbc] s (closeAsk s) := by
  unfold closeAsk; split
  · exact nextExchange_frame s
  · exact .refl _ s

theorem closeCargo_frame (s : State) : OnlyChanges [.pbc] s (closeCargo s) := by
  unfold closeCargo; split
  · exact nextExchange_frame s
  · exact .refl _ s

theorem closePass_frame (s : State) : OnlyChanges busParts s (closePass s) := by
  unfold closePass; split
  · exact (sendAndWait_frame _ _ s).mono (by decide)
  · exact loseTurn_frame _ s
  · exact .refl _ s

theorem lapseRoom_frame (s : State) : OnlyChanges [.pbc] s (lapseRoom s) := by
  unfold lapseRoom; split
  · exact lapseReservation_frame s
  · exact .refl _ s

theorem endChecking_frame (s : State) : OnlyChanges [.pbc] s (endChecking s) := by
  unfold endChecking; split
  · exact startSweep_frame s
  · exact .refl _ s

theorem endCensusInterval_frame (s : State) : OnlyChanges [.pbc] s (endCensusInterval s) := by
  unfold endCensusInterval; split
  · exact beginTurn_frame s
  · exact .refl _ s

theorem busAutoStep_frame (s : State) : OnlyChanges [.pbc] s (busAutoStep s) := by
  unfold busAutoStep; split
  · exact startChecking_frame s
  · exact .refl _ s

theorem softResetPbc_frame (s : State) : OnlyChanges [.cp, .pbc] s (softResetPbc s) := by
  unfold softResetPbc; dsimp only
  have h0 := ((setFlagIf_frame (!s.pbc.roster.isEmpty) .roster _).mono (by decide)).after
    ((pbc_frame { Pbc.powerOn with
        id := s.pbc.id, busAuto := s.pbc.busAuto, timing := s.pbc.timing, lastCensus := s.now
        turn := { s.pbc.turn with holds := false, made := 0, chosen := [] } } s).mono (qs := [.cp, .pbc]) (by decide))
  split
  · exact h0
  · split
    · exact h0.trans ((startChecking_frame _).mono (by decide))
    · exact h0.trans ((enterListening_frame _).mono (by decide))

/-! ### PBC: requests -/

theorem applyNodeId_frame {n : Nat} {s t : State} (e : applyNodeId n s = some t) : OnlyChanges busParts s t := by
  have hid : OnlyChanges busParts s { s with pbc := { s.pbc with id := n } } := (pbc_frame _ s).mono (by decide)
  have hown : OnlyChanges busParts s (if (tfind s.pbc.roster n).isSome then removeEntry n { s with pbc := { s.pbc with id := n } }
      else { s with pbc := { s.pbc with id := n } }) := by
    split
    · exact hid.trans (removeEntry_frame n _)
    · exact hid
  unfold applyNodeId at e
  split at e
  · cases e; exact .refl _ _
  · cases e; exact ((enterListening_frame _).mono (by decide)).after hown
  · cases e; exact (pbc_frame _ s).mono (by decide)
  · cases e; exact hown
  · cases e
  · cases e; exact ((startChecking_frame _).mono (by decide)).after hown
  · cases e

theorem ownSetNode_frame (body : List Byte) (s : State) : OnlyChanges busParts s (ownSetNode body s).state := by
  unfold ownSetNode; split
  · split
    · exact .refl _ s
    · split
      · exact .refl _ s
      · rename_i e; exact applyNodeId_frame e
  · exact .refl _ s

theorem applyEnable_frame (on : Bool) (s : State) : OnlyChanges busParts s (applyEnable on s).state := by
  unfold applyEnable; split
  · exact .refl _ s
  · exact .refl _ s
  · exact .refl _ s
  · exact (startChecking_frame s).mono (by decide)
  · exact .refl _ s
  · exact leaveBus_frame s

theorem ownBusEnable_frame (body : List Byte) (s : State) : OnlyChanges busParts s (ownBusEnable body s).state := by
  unfold ownBusEnable; split
  · split
    · exact applyEnable_frame _ s
    · split
      · exact .refl _ s
      · exact (applyEnable_frame _ _).after ((pbc_frame _ s).mono (by decide))
    · exact .refl _ s
  · exact .refl _ s

theorem ownBusAuto_frame (body : List Byte) (s : State) : OnlyChanges [.pbc] s (ownBusAuto body s).state := by
  unfold ownBusAuto; split
  · split
    · exact .refl _ s
    · exact pbc_frame _ s
  · exact .refl _ s

theorem ownBusTiming_frame (body : List Byte) (s : State) : OnlyChanges busParts s (ownBusTiming body s).state := by
  unfold ownBusTiming; split
  · exact .refl _ s
  · exact applyBusTiming_frame _ s

theorem ownSweepNow_frame (s : State) : OnlyChanges [.pbc] s (ownSweepNow s).state := by
  unfold ownSweepNow; split
  · exact .refl _ s
  · dsimp only [Answer.state_now]; split
    · exact (startSweep_frame _).after (pbc_frame _ s)
    · exact pbc_frame _ s

theorem ownForget_frame (body : List Byte) (s : State) : OnlyChanges busParts s (ownForget body s).state := by
  unfold ownForget; split
  · split
    · exact .refl _ s
    · split
      · exact .refl _ s
      · split
        · exact .refl _ s
        · exact removeEntry_frame _ s
  · exact .refl _ s

/-! ### KD: notices, timers and reports -/

/-- The components a panel's deactivation can change. -/
abbrev deactivationParts : List Part := [.kd, .tr, .te, .ml, .reports]

theorem takeDeparture_frame (n : Nat) (s : State) : OnlyChanges deactivationParts s (takeDeparture n s) := by
  unfold takeDeparture; split
  · exact (((setContexts_frame _ _).mono (by decide)).after (deactivatePanel_frame _ n _)).after
      ((reports_frame _ s).mono (by decide))
  · exact .refl _ s

theorem paintKey_frame (n : Nat) (s : State) (k : Nat) : OnlyChanges [.pbc, .kd] s (paintKey n s k) := by
  unfold paintKey; split
  · exact .refl _ s
  · split
    · exact .refl _ s
    · exact ((markDirty_frame _ _ _).mono (by decide)).after ((setKeyCtx_frame _ _ _ s).mono (by decide))

theorem takeJoin_frame (n : Nat) (s : State) : OnlyChanges [.pbc, .kd, .reports] s (takeJoin n s) := by
  unfold takeJoin; split
  · refine OnlyChanges.after (.foldl (fun t k => ((paintKey_frame n t k).mono (by decide))) _ _) ?_
    exact ((setContexts_frame _ _).mono (by decide)).after ((reports_frame _ s).mono (by decide))
  · exact .refl _ s

theorem settleNotices_frame (s : State) : OnlyChanges [.pbc, .kd, .tr, .te, .ml, .reports] s (settleNotices s) :=
  .foldl (fun t x => by
    cases x with
    | departure n => exact (takeDeparture_frame n t).mono (by decide)
    | join n keys => exact ((takeJoin_frame n t).mono (by decide))) _ s

theorem endTapWindow_frame (n k : Nat) (s : State) : OnlyChanges [.pbc, .kd] s (endTapWindow n k s) := by
  unfold endTapWindow; split
  · exact .refl _ s
  · split
    · exact (refreshKey_frame _ _ _).after ((setKeyCtx_frame _ _ _ s).mono (by decide))
    · exact .refl _ s

theorem endLatchLimit_frame (n k : Nat) (s : State) :
    OnlyChanges [.pbc, .kd, .tr, .te, .ml, .reports] s (endLatchLimit n k s) := by
  unfold endLatchLimit; split
  · exact .refl _ s
  · split
    · exact ((refreshKey_frame _ _ _).mono (by decide)).after ((deactivateKey_frame _ _ s).mono (by decide))
    · exact .refl _ s

theorem endRefusal_frame (n k : Nat) (s : State) : OnlyChanges [.pbc, .kd] s (endRefusal n k s) := by
  unfold endRefusal; split
  · exact .refl _ s
  · split
    · exact (refreshKey_frame _ _ _).after ((setKeyCtx_frame _ _ _ s).mono (by decide))
    · exact .refl _ s

theorem takeOutcome_frame (s : State) : OnlyChanges [.pbc, .kd, .reports] s (takeOutcome s) := by
  unfold takeOutcome; split
  · exact .refl _ s
  · rename_i r rest _
    have h0 : OnlyChanges [.pbc, .kd, .reports] s
        (r.changes.foldl takeImageReport { s with reports := { s.reports with kdOutcomes := rest } }) :=
      (OnlyChanges.foldl (fun t x => ((takeImageReport_frame t x).mono (by decide))) _ _).after
        ((reports_frame _ s).mono (by decide))
    dsimp only; split
    · exact h0
    · exact h0.trans ((indicate_frame _ _ _).mono (by decide))

theorem takeFire_frame (s : State) : OnlyChanges [.pbc, .kd, .reports] s (takeFire s) := by
  unfold takeFire; split
  · exact .refl _ s
  · rename_i r rest _
    have h0 : OnlyChanges [.pbc, .kd, .reports] s
        (takeImageReport { s with reports := { s.reports with kdFires := rest } } (.fire r.salvo (some r.node))) :=
      ((takeImageReport_frame _ _).mono (by decide)).after ((reports_frame _ s).mono (by decide))
    dsimp only; split
    · exact h0
    · exact h0.trans ((indicate_frame _ _ _).mono (by decide))

theorem takeReportOf_frame (src : KdSource) (s : State) : OnlyChanges [.pbc, .kd, .reports] s (takeReportOf src s) := by
  have taken (r : ImageReport) (q : Reports) : OnlyChanges [.pbc, .kd, .reports] s (takeImageReport { s with reports := q } r) :=
    ((takeImageReport_frame _ _).mono (by decide)).after ((reports_frame _ s).mono (by decide))
  unfold takeReportOf
  cases src with
  | tr =>
    dsimp only; split
    · exact .refl _ s
    · exact taken _ _
  | te =>
    dsimp only; split
    · exact .refl _ s
    · exact taken _ _
  | rc =>
    dsimp only; split
    · exact .refl _ s
    · exact taken _ _

theorem kd_frame (kd : Kd) (s : State) : OnlyChanges [.kd] s { s with kd := kd } := by
  intro q hq; cases q <;> first | rfl | simp at hq

theorem softResetKd_frame (s : State) : OnlyChanges [.kd, .reports] s (softResetKd s) :=
  ((reports_frame _ _).mono (by decide)).after
    ((kd_frame { s.kd with contexts := [], unassigned := 0, duplicate := 0 } s).mono (by decide))

/-! ### MM -/

theorem mm_frame (mm : Mm) (s : State) : OnlyChanges [.mm] s { s with mm := mm } := by
  intro q hq; cases q <;> first | rfl | simp at hq

theorem onMixer_frame (x : Mixer) (f : MixerRec → MixerRec) (s : State) : OnlyChanges [.mm] s (onMixer x f s) := by
  cases x <;> exact mm_frame _ s

theorem badMixerFrame_frame (x : Mixer) (s : State) : OnlyChanges [.mm] s (badMixerFrame x s) := onMixer_frame x _ s

theorem reportMixer_frame (x : Mixer) (s : State) : OnlyChanges [.reports] s (reportMixer x s) := reports_frame _ s

/-- The components the effects of MM can change. -/
abbrev mixerParts : List Part := [.cp, .mm, .reports]

theorem takeRecord_frame (x : Mixer) (write : MixerRec → MixerRec) (s : State) :
    OnlyChanges mixerParts s (takeRecord x write s) := by
  unfold takeRecord; dsimp only
  have h : OnlyChanges mixerParts s (onMixer x (fun _ => (write (s.mm.mixer x)).refreshed s.now) s) :=
    (onMixer_frame x _ s).mono (by decide)
  refine ((setFlagIf_frame _ _ _).mono (by decide)).after ?_
  split
  · exact h
  · exact h.trans ((reportMixer_frame x _).mono (by decide))

theorem goStale_frame (x : Mixer) (s : State) : OnlyChanges mixerParts s (goStale x s) :=
  (((setFlag_frame _ _).mono (by decide)).after ((reportMixer_frame x _).mono (by decide))).after
    ((onMixer_frame x _ s).mono (by decide))

theorem withdraw_frame (x : Mixer) (s : State) : OnlyChanges mixerParts s (withdraw x s) :=
  (((setFlag_frame _ _).mono (by decide)).after ((reportMixer_frame x _).mono (by decide))).after
    ((onMixer_frame x _ s).mono (by decide))

theorem settleMixer_frame (x : Mixer) (s : State) : OnlyChanges mixerParts s (settleMixer x s) := by
  unfold settleMixer; split
  · exact withdraw_frame x s
  · split
    · exact goStale_frame x s
    · exact .refl _ s

theorem expireStale_frame (x : Mixer) (s : State) : OnlyChanges mixerParts s (expireStale x s) := by
  unfold expireStale; split
  · exact goStale_frame x s
  · exact .refl _ s

theorem expireWithdraw_frame (x : Mixer) (s : State) : OnlyChanges mixerParts s (expireWithdraw x s) := by
  unfold expireWithdraw; split
  · exact withdraw_frame x s
  · exact .refl _ s

theorem configureMixer_frame (x : Mixer) (mode stale wd : Option Nat) (s : State) :
    OnlyChanges mixerParts s (configureMixer x mode stale wd s) := by
  unfold configureMixer; dsimp only
  have h0 : OnlyChanges mixerParts s (onMixer x (fun _ => (s.mm.mixer x).configure mode stale wd) s) :=
    (onMixer_frame x _ s).mono (by decide)
  have h1 : OnlyChanges mixerParts s (if ((s.mm.mixer x).configure mode stale wd).mode = (s.mm.mixer x).mode
      then onMixer x (fun _ => (s.mm.mixer x).configure mode stale wd) s
      else reportMixer x (onMixer x (fun _ => (s.mm.mixer x).configure mode stale wd) s)) := by
    split
    · exact h0
    · exact h0.trans ((reportMixer_frame x _).mono (by decide))
  split
  · exact h1
  · exact h1.trans (settleMixer_frame x _)

theorem ownSetMixer_frame (body : List Byte) (s : State) : OnlyChanges mixerParts s (ownSetMixer body s).state := by
  unfold ownSetMixer; split
  · split
    · exact .refl _ s
    · split
      · exact .refl _ s
      · split
        · exact .refl _ s
        · exact configureMixer_frame _ _ _ _ s
  · exact .refl _ s

/-! ### TR -/

/-- The components the effects of TR can change. -/
abbrev tallyParts : List Part := [.cp, .tr, .reports]

theorem tr_frame (tr : Tr) (s : State) : OnlyChanges [.tr] s { s with tr := tr } := by
  intro q hq; cases q <;> first | rfl | simp at hq

theorem takeTallyReport_frame (src : TrSource) (s : State) : OnlyChanges tallyParts s (takeTallyReport src s) := by
  unfold takeTallyReport; split
  · split
    · exact .refl _ s
    · exact (recompute_frame _).after ((reports_frame _ s).mono (by decide))
  · split
    · exact .refl _ s
    · exact (recompute_frame _).after ((reports_frame _ s).mono (by decide))

theorem settleTallies_frame (s : State) : OnlyChanges tallyParts s (settleTallies s) :=
  (OnlyChanges.foldl (fun t _ => takeTallyReport_frame .rc t) _ _).after (.foldl (fun t _ => takeTallyReport_frame .mm t) _ s)

theorem expireHostCall_frame (p : Nat) (s : State) : OnlyChanges [.tr, .reports] s (expireHostCall p s) := by
  unfold expireHostCall; split
  · exact changeCalls_frame _ _ s
  · exact .refl _ s

theorem ownSetBinding_frame (body : List Byte) (s : State) : OnlyChanges tallyParts s (ownSetBinding body s).state := by
  unfold ownSetBinding; split
  · split
    · exact .refl _ s
    · split
      · exact .refl _ s
      · split
        · exact .refl _ s
        · rw [Answer.state_now]; unfold storeBinding; split
          · exact .refl _ s
          · exact (recompute_frame _).after ((tr_frame _ s).mono (by decide))
  · exact .refl _ s

theorem storePosition_frame (p : Nat) (port : Option Nat) (s : State) : OnlyChanges [.tr, .reports] s (storePosition p port s) := by
  unfold storePosition; dsimp only; split
  · exact .refl _ s
  · exact ((reportResolution_frame _ _).mono (by decide)).after (tr_reports_frame _ _ s)

theorem ownSetPosition_frame (body : List Byte) (s : State) : OnlyChanges [.tr, .reports] s (ownSetPosition body s).state := by
  unfold ownSetPosition; split
  · split
    · exact .refl _ s
    · exact storePosition_frame _ _ s
  · exact .refl _ s

theorem ownCall_frame (body : List Byte) (s : State) : OnlyChanges [.tr, .reports] s (ownCall body s).state := by
  unfold ownCall; split
  · split
    · exact .refl _ s
    · exact changeCalls_frame _ (fun x => { x with hostCall := _ }) s
  · exact .refl _ s

/-! ### LD -/

theorem storeHouse_frame (h : Nat) (s : State) : OnlyChanges [.ld] s (storeHouse h s) := by
  unfold storeHouse; split
  · exact .refl _ s
  · exact (relightAll_frame _).after (ld_frame _ s)

theorem ownSetHouse_frame (body : List Byte) (s : State) : OnlyChanges [.ld] s (ownSetHouse body s).state := by
  unfold ownSetHouse; split
  · exact .refl _ s
  · dsimp only [Answer.state_now]; split
    · exact storeHouse_frame _ s
    · exact .refl _ s

theorem storeLamp_frame (p : Nat) (fs : List (Option Nat)) (s : State) : OnlyChanges [.ld] s (storeLamp p fs s) := by
  unfold storeLamp; dsimp only; split
  · exact .refl _ s
  · exact (ld_frame _ _).after (ld_frame _ s)

theorem ownSetLamp_frame (body : List Byte) (s : State) : OnlyChanges [.ld] s (ownSetLamp body s).state := by
  unfold ownSetLamp; split
  · split
    · exact .refl _ s
    · split
      · exact .refl _ s
      · split
        · exact .refl _ s
        · exact storeLamp_frame _ _ s
  · exact .refl _ s

/-- A tick setting takes the tick it brings due. -/
theorem setTick_frame (tick : Nat) (next : Millis) (s : State) :
    OnlyChanges [.ld] s (lampTick { s with ld := { s.ld with tick := tick, nextTick := next } }) :=
  (lampTick_frame _).after (ld_frame _ s)

theorem storeLampTiming_frame (fs : List (Option Nat)) (s : State) : OnlyChanges [.ld] s (storeLampTiming fs s) := by
  unfold storeLampTiming; dsimp only
  have h0 : OnlyChanges [.ld] s { s with ld := { s.ld with step := ((fieldAt fs 1).map (clampN 1 255)).getD s.ld.step } } :=
    ld_frame _ s
  cases fieldAt fs 2 with
  | none =>
    cases fieldAt fs 0 with
    | none => exact h0
    | some t => exact h0.trans (setTick_frame _ _ _)
  | some f =>
    have h1 : OnlyChanges [.ld] s
        (if clampN 0 255 f = s.ld.floor then
          { s with ld := { s.ld with step := ((fieldAt fs 1).map (clampN 1 255)).getD s.ld.step } }
          else relightAll { s with ld := { s.ld with
            step := ((fieldAt fs 1).map (clampN 1 255)).getD s.ld.step, floor := clampN 0 255 f } }) := by
      split
      · exact h0
      · exact (relightAll_frame _).after (ld_frame _ s)
    cases fieldAt fs 0 with
    | none => exact h1
    | some t => exact h1.trans (setTick_frame _ _ _)

theorem ownLampTiming_frame (body : List Byte) (s : State) : OnlyChanges [.ld] s (ownLampTiming body s).state := by
  unfold ownLampTiming; split
  · exact .refl _ s
  · exact storeLampTiming_frame _ s

theorem takeRelight_frame (s : State) : OnlyChanges [.ld, .reports] s (takeRelight s) := by
  unfold takeRelight; split
  · exact .refl _ s
  · exact (OnlyChanges.foldl (fun t _ => ((ld_frame _ t).mono (by decide))) _ _).after ((reports_frame _ s).mono (by decide))

theorem takeCallReport_frame (p : Nat) (b : Bool) (s : State) : OnlyChanges [.ld, .reports] s (takeCallReport p b s) := by
  unfold takeCallReport; split
  · split
    · exact ld_reports_frame _ _ s
    · exact .refl _ s
  · exact .refl _ s

theorem expirePhase_frame (p : Nat) (s : State) : OnlyChanges [.ld] s (expirePhase p s) := by
  unfold expirePhase; split
  · exact .refl _ s
  · split
    · exact ld_frame _ s
    · exact .refl _ s

theorem softResetLd_frame (s : State) : OnlyChanges [.ld, .reports] s (softResetLd s) := by
  unfold softResetLd; split
  · exact ld_reports_frame _ _ s
  · exact ld_reports_frame _ _ s

/-! ### TE and ML -/

/-- The components the effects of TE and ML can change. -/
abbrev talkParts : List Part := [.cp, .te, .ml, .reports]

theorem te_frame (te : Te) (s : State) : OnlyChanges [.te] s { s with te := te } := by
  intro q hq; cases q <;> first | rfl | simp at hq

theorem ml_frame (ml : Ml) (s : State) : OnlyChanges [.ml] s { s with ml := ml } := by
  intro q hq; cases q <;> first | rfl | simp at hq

theorem matrixFrameSent_frame (s : State) : OnlyChanges [.ml] s (matrixFrameSent s) := by
  unfold matrixFrameSent; split
  · exact .refl _ s
  · dsimp only; split
    · split <;> exact ml_frame _ s
    · split <;> exact ml_frame _ s
    · exact ml_frame _ s

theorem confirmGain_frame (o : OutGain) (s : State) : OnlyChanges [.te, .ml, .reports] s (confirmGain o s) := by
  unfold confirmGain; dsimp only; split
  · exact .refl _ s
  · split
    · split
      · exact ((reportRemoval_frame _ _).mono (by decide)).after ((setEntry_frame _ _ s).mono (by decide))
      · exact (setEntry_frame _ _ s).mono (by decide)
    · exact ((requeue_frame _ _ _).mono (by decide)).after ((setEntry_frame _ _ s).mono (by decide))

theorem takeGainOk_frame (l t : Nat) (s : State) : OnlyChanges [.te, .ml, .reports] s (takeGainOk l t s) := by
  unfold takeGainOk; split
  · exact (ml_frame _ s).mono (by decide)
  · exact (((sendGains_frame _).mono (by decide)).after (confirmGain_frame _ _)).after ((ml_frame _ s).mono (by decide))

theorem requeueTimedOut_frame (o : OutGain) (s : State) : OnlyChanges [.te, .ml] s (requeueTimedOut o s) := by
  unfold requeueTimedOut; dsimp only; split
  · exact .refl _ s
  · exact ((requeue_frame _ _ _).mono (by decide)).after ((setEntry_frame _ _ s).mono (by decide))

theorem expireGain_frame (l t : Nat) (s : State) : OnlyChanges talkParts s (expireGain l t s) := by
  unfold expireGain; split
  · exact .refl _ s
  · split
    · exact (((sendGains_frame _).mono (by decide)).after (matrixTimeout_frame _)).after
        (((requeueTimedOut_frame _ _).mono (by decide)).after ((ml_frame _ s).mono (by decide)))
    · exact .refl _ s

theorem sendPing_frame (s : State) : OnlyChanges [.ml] s (sendPing s) := by
  unfold sendPing; split
  · exact .refl _ s
  · split
    · exact ml_frame _ s
    · exact .refl _ s

theorem takePong_frame (s : State) : OnlyChanges [.ml] s (takePong s) := by
  unfold takePong; split
  · exact ml_frame _ s
  · exact ml_frame _ s

theorem finishClearing_frame (s : State) : OnlyChanges talkParts s (finishClearing s) := by
  unfold finishClearing; dsimp only
  refine ((sendGains_frame _).mono (by decide)).after
    (((setFlag_frame _ _).mono (by decide)).after (((ml_frame _ _).mono (by decide)).after ?_))
  exact (OnlyChanges.foldl (fun t k => ((reportRemoval_frame k t).mono (by decide))) _ _).after ((te_frame _ s).mono (by decide))

theorem takeMuteAllOk_frame (s : State) : OnlyChanges talkParts s (takeMuteAllOk s) := by
  unfold takeMuteAllOk; split
  · exact finishClearing_frame s
  · exact (ml_frame _ s).mono (by decide)

theorem expireMuteAll_frame (s : State) : OnlyChanges talkParts s (expireMuteAll s) := by
  unfold expireMuteAll; split
  · exact matrixDown_frame s
  · exact .refl _ s

theorem followLive_frame (l : List Nat) (g : List (Nat × Bool)) (s : State) : OnlyChanges talkParts s (followLive l g s) := by
  unfold followLive; dsimp only
  refine ((setFlagIf_frame _ _ _).mono (by decide)).after
    (((sendGains_frame _).mono (by decide)).after (((te_frame _ _).mono (by decide)).after ?_))
  exact ((retargetGuarded_frame _ _).mono (by decide)).after
    (((moveCauses_frame _ _ _).mono (by decide)).after ((te_frame _ s).mono (by decide)))

theorem takeLiveReport_frame (s : State) : OnlyChanges talkParts s (takeLiveReport s) := by
  unfold takeLiveReport; split
  · exact (followLive_frame _ _ _).after ((reports_frame _ s).mono (by decide))
  · exact .refl _ s

theorem takeGuardReport_frame (s : State) : OnlyChanges [.te, .ml, .reports] s (takeGuardReport s) := by
  unfold takeGuardReport; split
  · exact (((sendGains_frame _).mono (by decide)).after ((guardTargets_frame _ _).mono (by decide))).after
      ((reports_frame _ s).mono (by decide))
  · exact .refl _ s

theorem takeRemoval_frame (s : State) : OnlyChanges [.te, .ml, .reports] s (takeRemoval s) := by
  unfold takeRemoval; split
  · exact .refl _ s
  · dsimp only; split
    · exact (reports_frame _ s).mono (by decide)
    · split
      · exact (reports_frame _ s).mono (by decide)
      · exact te_ml_reports_frame _ _ _ s

theorem softResetTe_frame (s : State) : OnlyChanges [.te, .ml, .reports] s (softResetTe s) := by
  unfold softResetTe; dsimp only
  have h0 : OnlyChanges [.te, .ml, .reports] s
      (if s.ml.line = .up then { s with ml := { clearMatrix s.ml with consecutive := 0 } } else s) := by
    split
    · exact (ml_frame _ s).mono (by decide)
    · exact .refl _ s
  refine h0.trans ?_
  exact (te_reports_frame _ _ _).after ((clearPaths_frame _).after ((te_frame _ _).mono (by decide)))

end Sys2Proof.Machine
end


section
/-! SUPPORT. The tables whose records a save writes, and the effects that leave PM as it is and keep those tables within their
bounds (O6). -/

namespace Sys2Proof.Machine

/-! ### The tables of the image -/

/-- RC's part of the tables: the salvos by number within their pool, and the destinations, a protect of the host's being one of a
destination 0 to 255 (R62, R67, R70). -/
structure RcImage (rc : Rc) : Prop where
  salvos : tsorted rc.salvos = true ∧ (∀ kv ∈ rc.salvos, kv.1 ≤ 63) ∧ rc.poolUsed ≤ Config.poolPairs
  dests : tsorted rc.dests = true ∧ ∀ kv ∈ rc.dests, ∀ p, kv.2.protect = some p → p.owner = none → kv.1 ≤ 255

/-- The panel records a save writes (R32, R33). -/
abbrev RecordsForm (t : Tab PanelRec) : Prop :=
  tsorted t = true ∧ ∀ r ∈ t, isNode r.1 ∧ tsorted r.2.keys = true ∧ ∀ k ∈ r.2.keys, k.1 ≤ 31

/-- TE's part of the tables: the groups and the standing paths (R145, R147). -/
structure TeImage (te : Te) : Prop where
  groups : ∀ kv ∈ te.groups, kv.2.length ≤ Config.groupMax
  standing : tsorted te.standing = true ∧ ∀ kv ∈ te.standing, kv.1 < Config.slots

/-- The tables of `ImageInv`. -/
structure ImageTables (s : State) : Prop where
  records : RecordsForm s.kd.records
  rc : RcImage s.rc
  te : TeImage s.te

/-- PM's part of `ImageInv`: a save writes within its bound, and a transfer lies within the memory. -/
structure PmInv (pm : Pm) : Prop where
  save : ∀ sv index rest next, pm.op = .saving sv → sv.phase = .sect index rest next →
    index < 12 ∧ next + rest.length ≤ sectionEnd index
  transfer : ∀ t, pm.transfer = some t → t.outside = false

theorem imageInv_iff {s : State} : ImageInv s ↔ ImageTables s ∧ PmInv s.pm :=
  ⟨fun h => ⟨⟨h.records, ⟨h.salvos, h.dests⟩, ⟨h.groups, h.standing⟩⟩, ⟨h.save, h.transfer⟩⟩,
    fun ⟨h, p⟩ => ⟨h.records, h.rc.salvos, h.rc.dests, h.te.groups, h.te.standing, p.save, p.transfer⟩⟩

/-! ### What keeps them -/

/-- An effect that leaves PM as it is and keeps the tables of the image. -/
structure KeepsImage (s t : State) : Prop where
  pm : t.pm = s.pm
  tables : ImageTables s → ImageTables t

theorem KeepsImage.refl (s : State) : KeepsImage s s := ⟨rfl, id⟩

theorem KeepsImage.trans {s t u : State} (h : KeepsImage s t) (k : KeepsImage t u) : KeepsImage s u :=
  ⟨k.pm.trans h.pm, k.tables ∘ h.tables⟩

/-- Composition, the last operation first: read along the term from the outside in. -/
theorem KeepsImage.after {s t u : State} (k : KeepsImage t u) (h : KeepsImage s t) : KeepsImage s u := h.trans k

theorem KeepsImage.foldl {α : Type} {f : State → α → State} (h : ∀ s a, KeepsImage s (f s a)) (l : List α) (s : State) :
    KeepsImage s (l.foldl f s) :=
  foldl_keeps (P := KeepsImage s) (fun _ a hs => hs.trans (h _ a)) l s (.refl s)

/-- The components that hold nothing of the image's tables. -/
abbrev tablelessParts : List Part := [.straps, .now, .cp, .pbc, .mm, .tr, .ld, .ml, .reports, .pending]

theorem KeepsImage.of_frame {ps : List Part} {s t : State} (hp : OnlyChanges ps s t) (hq : ∀ p ∈ ps, p ∈ tablelessParts) :
    KeepsImage s t := by
  have h := hp.mono hq
  have hkd : t.kd = s.kd := h .kd (by decide)
  have hrc : t.rc = s.rc := h .rc (by decide)
  have hte : t.te = s.te := h .te (by decide)
  exact ⟨h .pm (by decide), fun k => ⟨hkd ▸ k.records, hrc ▸ k.rc, hte ▸ k.te⟩⟩

theorem settings_image {s t : State} (h : settingsOf t = settingsOf s) :
    t.kd.records = s.kd.records ∧ t.te.groups = s.te.groups ∧ t.te.standing = s.te.standing :=
  ⟨congrArg Settings.records h, congrArg Settings.groups h, congrArg Settings.standing h⟩

/-- An effect on KD and TE, besides those components, that leaves the settings. -/
theorem KeepsImage.of_kept {ps : List Part} {s t : State} (hp : OnlyChanges ps s t)
    (hq : ∀ p ∈ ps, p ∈ .kd :: .te :: tablelessParts)
    (k : ConfigKept s t) : KeepsImage s t := by
  have h := hp.mono hq
  obtain ⟨hr, hg, hst⟩ := settings_image k.settings
  have hrc : t.rc = s.rc := h .rc (by decide)
  exact ⟨h .pm (by decide), fun i => ⟨hr ▸ i.records, hrc ▸ i.rc, ⟨hg ▸ i.te.groups, hst ▸ i.te.standing⟩⟩⟩

theorem KeepsImage.of_apart {ps : List Part} {s t : State} (hp : OnlyChanges ps s t)
    (hq : ∀ p ∈ ps, p ∈ .kd :: .te :: tablelessParts) (k : Apart s t) : KeepsImage s t := .of_kept hp hq k.toConfigKept

/-- An effect on RC that keeps RC's tables. -/
theorem KeepsImage.of_rc {s t : State} (e : t.pm = s.pm ∧ t.kd.records = s.kd.records ∧ t.te = s.te)
    (h : RcImage s.rc → RcImage t.rc) : KeepsImage s t :=
  ⟨e.1, fun i => ⟨e.2.1 ▸ i.records, h i.rc, e.2.2 ▸ i.te⟩⟩

theorem setFlag_keepsImage (f : Flag) (s : State) : KeepsImage s (setFlag f s) := .of_frame (setFlag_frame f s) (by decide)

theorem deferredReply_keepsImage (tag kind : Byte) (c : Code) (l : List Byte) (s : State) :
    KeepsImage s (deferredReply tag kind c l s) := .of_frame (deferredReply_frame tag kind c l s) (by decide)

theorem setFlagIf_keepsImage (b : Bool) (f : Flag) (s : State) : KeepsImage s (setFlagIf b f s) :=
  .of_frame (setFlagIf_frame b f s) (by decide)

/-! ### RC -/

/-- A destination's record takes a value whose protect, if it is the host's, stands on a destination 0 to 255. -/
theorem RcImage.setDest {rc : Rc} (h : RcImage rc) (d : Nat) {r : DestRec}
    (hr : ∀ p, r.protect = some p → p.owner = none → d ≤ 255) : RcImage { rc with dests := tset noDest rc.dests d r } :=
  ⟨h.salvos, tsorted_tset _ _ _ h.dests.1, forall_tset h.dests.2 hr⟩

theorem RcImage.dest_protect {rc : Rc} (h : RcImage rc) (d : Nat) (p : Protect) (hp : (rc.dest d).protect = some p)
    (ho : p.owner = none) : d ≤ 255 := by
  unfold Rc.dest tget at hp
  cases e : tfind rc.dests d with
  | none => rw [e] at hp; cases hp
  | some r => rw [e] at hp; exact h.dests.2 _ (mem_of_tfind e) p hp ho

/-- What stands of a destination but its protect is no matter of the image. -/
theorem RcImage.setLive {rc : Rc} (h : RcImage rc) (d : Nat) {r : DestRec} (hp : r.protect = (rc.dest d).protect) :
    RcImage { rc with dests := tset noDest rc.dests d r } :=
  h.setDest d fun p e => h.dest_protect d p (hp ▸ e)

theorem reportKd_keepsImage (l : List ImageReport) (s : State) : KeepsImage s (reportKd l s) :=
  .of_frame (reportKd_frame l s) (by decide)

theorem setConfirmed_keepsImage (d : Nat) (v : Option Nat) (s : State) : KeepsImage s (setConfirmed d v s).1 := by
  unfold setConfirmed; dsimp only; split
  · exact .refl s
  · exact .of_rc ⟨rfl, rfl, rfl⟩ fun h => h.setLive d rfl

theorem setPending_keepsImage (d : Nat) (v : Option Nat) (s : State) : KeepsImage s (setPending d v s).1 := by
  unfold setPending; dsimp only; split
  · exact .refl s
  · exact .of_rc ⟨rfl, rfl, rfl⟩ fun h => h.setLive d rfl

/-- A protect is the host's on a destination 0 to 255 alone (R67). -/
theorem setProtect_keepsImage {d : Nat} {v : Option Protect} (hv : ∀ p, v = some p → p.owner = none → d ≤ 255) (s : State) :
    KeepsImage s (setProtect d v s) := by
  unfold setProtect; dsimp only; split
  · exact .refl s
  · exact (reportKd_keepsImage _ _).after (.of_rc (s := s)
      (t := { s with rc := { s.rc with dests := tset noDest s.rc.dests d { s.rc.dest d with protect := v } } }) ⟨rfl, rfl, rfl⟩
      fun h => h.setDest d hv)

theorem clearProtect_keepsImage (d : Nat) (s : State) : KeepsImage s (setProtect d none s) :=
  setProtect_keepsImage (by rintro p ⟨⟩) s

theorem toggleProtect_keepsImage (d n : Nat) (s : State) : KeepsImage s (toggleProtect d n s).1 := by
  unfold toggleProtect; split
  · exact setProtect_keepsImage (by rintro p ⟨⟩ ho; cases ho) s
  · split
    · exact clearProtect_keepsImage _ s
    · exact .refl s
  · exact .refl s

theorem releaseProtects_keepsImage (n : Nat) (s : State) : KeepsImage s (releaseProtects n s) :=
  .foldl (fun t kv => by
    split
    · exact clearProtect_keepsImage _ t
    · exact .refl t) _ s

/-- An effect on RC that leaves its salvos and its destinations. -/
theorem KeepsImage.of_live {s t : State} (hr : t.rc.salvos = s.rc.salvos ∧ t.rc.dests = s.rc.dests)
    (e : t.pm = s.pm ∧ t.kd.records = s.kd.records ∧ t.te = s.te) : KeepsImage s t :=
  .of_rc e fun h => ⟨by unfold Rc.poolUsed; rw [hr.1]; exact h.salvos, hr.2 ▸ h.dests⟩

theorem completeFire_keepsImage (f : Fire) (s : State) : KeepsImage s (completeFire f s) := by
  unfold completeFire; dsimp only; split
  · exact ((deferredReply_keepsImage _ _ _ _ _).after (reportKd_keepsImage _ _)).after
      (.of_live (t := { s with rc := { s.rc with fires := s.rc.fires.filter (·.serial != f.serial) } }) ⟨rfl, rfl⟩ ⟨rfl, rfl, rfl⟩)
  · exact .of_live ⟨rfl, rfl⟩ ⟨rfl, rfl, rfl⟩

theorem countFire_keepsImage (n : Nat) (o : TakeOutcome) (s : State) : KeepsImage s (countFire n o s) := by
  unfold countFire; split
  · exact .refl s
  · dsimp only; split
    · exact completeFire_keepsImage _ _
    · exact .of_live ⟨rfl, rfl⟩ ⟨rfl, rfl, rfl⟩

theorem deliver_keepsImage (r : Requester) (o : TakeOutcome) (c : List Byte) (l : List ImageReport) (s : State) :
    KeepsImage s (deliver r o c l s) := by
  unfold deliver; split
  · exact (deferredReply_keepsImage _ _ _ _ _).after (reportKd_keepsImage l s)
  · exact .of_live ⟨rfl, rfl⟩ ⟨rfl, rfl, rfl⟩
  · exact (countFire_keepsImage _ _ _).after (reportKd_keepsImage l s)

theorem setQueue_keepsImage (q : List TakeEntry) (s : State) : KeepsImage s { s with rc := { s.rc with queue := q } } :=
  .of_live ⟨rfl, rfl⟩ ⟨rfl, rfl, rfl⟩

theorem sendEntry_keepsImage (e : TakeEntry) (l : List TakeEntry) (s : State) : KeepsImage s (sendEntry e l s) := by
  unfold sendEntry; split
  · exact (deliver_keepsImage _ _ _ _ _).after (setQueue_keepsImage l s)
  · refine (setPending_keepsImage e.dest (some e.source) s).trans ?_
    exact (reportKd_keepsImage (setPending e.dest (some e.source) s).2 _).trans (.of_live ⟨rfl, rfl⟩ ⟨rfl, rfl, rfl⟩)

theorem fillPlace_keepsImage {s t : State} (h : fillPlace s = some t) : KeepsImage s t := by
  unfold fillPlace at h
  split at h
  · cases h
  · split at h
    · cases h; exact sendEntry_keepsImage _ _ _
    · obtain ⟨d, -, rfl⟩ := Option.map_eq_some_iff.1 h
      exact .of_live ⟨rfl, rfl⟩ ⟨rfl, rfl, rfl⟩

theorem fillLoop_keepsImage (n : Nat) (s : State) : KeepsImage s (fillLoop n s) := by
  induction n generalizing s with
  | zero => exact .refl s
  | succ n ih =>
    unfold fillLoop
    cases h : fillPlace s with
    | none => exact .refl s
    | some t => exact (fillPlace_keepsImage h).trans (ih t)

theorem fillWindow_keepsImage (s : State) : KeepsImage s (fillWindow s) := fillLoop_keepsImage _ s

theorem enqueue_keepsImage (d x : Nat) (r : Requester) (s : State) : KeepsImage s (enqueue d x r s) := by
  unfold enqueue
  refine (fillWindow_keepsImage _).after ?_
  split
  · exact (deliver_keepsImage _ _ _ _ _).after (setQueue_keepsImage _ s)
  · exact (reportKd_keepsImage _ _).after (setQueue_keepsImage _ s)

theorem startFire_keepsImage (n : Nat) (p : Party) (s : State) : KeepsImage s (startFire n p s) := by
  unfold startFire; dsimp only
  generalize ({ serial := s.rc.nextSerial, salvo := n, party := p, awaiting := _, done := 0, other := 0, skipped := _ } : Fire) = f
  have h0 : KeepsImage s (reportKd [.fire n p.identity]
      { s with rc := { s.rc with fires := s.rc.fires ++ [f], nextSerial := s.rc.nextSerial + 1 } }) :=
        .of_live ⟨rfl, rfl⟩ ⟨rfl, rfl, rfl⟩
  split
  · exact h0.trans (completeFire_keepsImage _ _)
  · exact h0.trans (.foldl (fun t q => enqueue_keepsImage _ _ _ t) _ _)

theorem routerDown_keepsImage (s : State) : KeepsImage s (routerDown s) := by
  unfold routerDown; dsimp only
  refine (setFlag_keepsImage _ _).after ((KeepsImage.foldl (fun t q => deliver_keepsImage _ _ _ _ t) _ _).after ?_)
  exact .of_live ⟨rfl, rfl⟩ ⟨rfl, rfl, rfl⟩

theorem routerTimeout_keepsImage (s : State) : KeepsImage s (routerTimeout s) := by
  unfold routerTimeout; dsimp only
  have h0 : KeepsImage s { s with rc := { s.rc with consecutive := bump s.rc.consecutive } } := .of_live ⟨rfl, rfl⟩ ⟨rfl, rfl, rfl⟩
  split
  · exact h0.trans (routerDown_keepsImage _)
  · exact h0

theorem routerUp_keepsImage (s : State) : KeepsImage s (routerUp s) := by
  unfold routerUp; split
  · exact .of_live ⟨rfl, rfl⟩ ⟨rfl, rfl, rfl⟩
  · exact .refl s

theorem routerStray_keepsImage (s : State) : KeepsImage s (routerStray s) := .of_live ⟨rfl, rfl⟩ ⟨rfl, rfl, rfl⟩

theorem endEntry_keepsImage (e : TakeEntry) (l : List TakeEntry) (o : TakeOutcome) (c : List Byte) (r : List ImageReport)
    (s : State) : KeepsImage s (endEntry e l o c r s) := by
  unfold endEntry; dsimp only
  exact (deliver_keepsImage _ _ _ _ _).after ((setPending_keepsImage _ _ _).after (setQueue_keepsImage l s))

theorem confirm_keepsImage (d x : Nat) (s : State) : KeepsImage s (confirm d x s) := by
  unfold confirm; dsimp only
  exact (reportKd_keepsImage _ _).after (setConfirmed_keepsImage _ _ s)

theorem relearn_keepsImage (d : Nat) (c : Bool) (s : State) : KeepsImage s (relearn d c s) := by
  unfold relearn; dsimp only
  refine (fillWindow_keepsImage _).after ?_
  have h0 : KeepsImage s { s with rc := { s.rc with querySet := insertAsc s.rc.querySet d } } := .of_live ⟨rfl, rfl⟩ ⟨rfl, rfl, rfl⟩
  split
  · exact ((reportKd_keepsImage _ _).after (setConfirmed_keepsImage _ _ _)).after h0
  · exact h0

theorem softResetRc_keepsImage (s : State) : KeepsImage s (softResetRc s) := by
  unfold softResetRc; dsimp only
  refine (fillWindow_keepsImage _).after (.of_rc ⟨rfl, rfl, rfl⟩ fun h => ⟨h.salvos, ?_⟩)
  refine ⟨tsorted_map (fun kv => (⟨kv.2.confirmed, none, none⟩ : DestRec)) h.dests.1, fun kv hkv p hp => ?_⟩
  obtain ⟨_, _, rfl⟩ := List.mem_map.1 hkv
  cases hp

theorem takeRelease_keepsImage (n : Nat) (s : State) : KeepsImage s (takeRelease n s) := by
  unfold takeRelease; split
  · exact (releaseProtects_keepsImage _ _).after (.of_frame (reports_frame _ s) (by decide))
  · exact .refl s

theorem takeXdone_keepsImage (d x : Nat) (s : State) : KeepsImage s (takeXdone d x s) := by
  unfold takeXdone; dsimp only
  refine (routerUp_keepsImage s).trans ?_
  split
  · exact (fillWindow_keepsImage _).after ((endEntry_keepsImage _ _ _ _ _ _).after ((setConfirmed_keepsImage _ _ _).after
      (.of_live (t := { routerUp s with rc := { (routerUp s).rc with consecutive := 0 } }) ⟨rfl, rfl⟩ ⟨rfl, rfl, rfl⟩)))
  · exact (fillWindow_keepsImage _).after ((confirm_keepsImage _ _ _).after (routerStray_keepsImage _))

theorem takeXfail_keepsImage (d : Nat) (r : Byte) (s : State) : KeepsImage s (takeXfail d r s) := by
  unfold takeXfail; dsimp only
  refine (routerUp_keepsImage s).trans ?_
  split
  · exact (fillWindow_keepsImage _).after ((endEntry_keepsImage _ _ _ _ _ _).after
      (.of_live (t := { routerUp s with rc := { (routerUp s).rc with consecutive := 0 } }) ⟨rfl, rfl⟩ ⟨rfl, rfl, rfl⟩))
  · exact (fillWindow_keepsImage _).after (routerStray_keepsImage _)

theorem takeXstate_keepsImage (d x : Nat) (s : State) : KeepsImage s (takeXstate d x s) := by
  unfold takeXstate; dsimp only
  refine (routerUp_keepsImage s).trans ?_
  split
  · exact (fillWindow_keepsImage _).after ((confirm_keepsImage _ _ _).after (.of_live ⟨rfl, rfl⟩ ⟨rfl, rfl, rfl⟩))
  · exact (fillWindow_keepsImage _).after ((confirm_keepsImage _ _ _).after (routerStray_keepsImage _))

theorem takeXmoved_keepsImage (d x : Nat) (s : State) : KeepsImage s (takeXmoved d x s) := by
  unfold takeXmoved; dsimp only
  refine ((routerUp_keepsImage s).trans (confirm_keepsImage d x _)).trans ((fillWindow_keepsImage _).after ?_)
  split
  · exact (setFlag_keepsImage _ _).after (.of_live ⟨rfl, rfl⟩ ⟨rfl, rfl, rfl⟩)
  · exact setFlag_keepsImage _ _

theorem routerFrameSent_keepsImage (s : State) : KeepsImage s (routerFrameSent s) := by
  unfold routerFrameSent; split
  · exact .refl s
  · dsimp only; split
    · split <;> exact .of_live ⟨rfl, rfl⟩ ⟨rfl, rfl, rfl⟩
    · split <;> exact .of_live ⟨rfl, rfl⟩ ⟨rfl, rfl, rfl⟩
    · exact .of_live ⟨rfl, rfl⟩ ⟨rfl, rfl, rfl⟩

theorem expireTake_keepsImage (d : Nat) (s : State) : KeepsImage s (expireTake d s) := by
  unfold expireTake; split
  · exact .refl s
  · split
    · split
      · exact (fillWindow_keepsImage _).after ((routerTimeout_keepsImage _).after (endEntry_keepsImage _ _ _ _ _ s))
      · exact .refl s
    · exact .refl s

theorem expireQuery_keepsImage (d : Nat) (s : State) : KeepsImage s (expireQuery d s) := by
  unfold expireQuery; split
  · exact (fillWindow_keepsImage _).after ((routerTimeout_keepsImage _).after (.of_live ⟨rfl, rfl⟩ ⟨rfl, rfl, rfl⟩))
  · exact .refl s

theorem sendProbe_keepsImage (s : State) : KeepsImage s (sendProbe s) := by
  unfold sendProbe; split
  · exact .refl s
  · split
    · exact .of_live ⟨rfl, rfl⟩ ⟨rfl, rfl, rfl⟩
    · exact .refl s

theorem badRouterFrame_keepsImage (s : State) : KeepsImage s (badRouterFrame s) := .of_live ⟨rfl, rfl⟩ ⟨rfl, rfl, rfl⟩

/-! ### RC's requests -/

theorem ownTake_keepsImage (tag : Byte) (body : List Byte) (s : State) : KeepsImage s (ownTake tag body s).state := by
  unfold ownTake; dsimp only; split
  · split
    · exact .refl s
    · split
      · exact .refl s
      · exact enqueue_keepsImage _ _ _ s
  · exact .refl s

theorem ownTakeCancel_keepsImage (s : State) : KeepsImage s (ownTakeCancel s).state := by
  unfold ownTakeCancel; split
  · exact .refl s
  · exact (fillWindow_keepsImage _).after ((deliver_keepsImage _ _ _ _ _).after (setQueue_keepsImage _ s))

theorem ownFireSalvo_keepsImage (tag : Byte) (body : List Byte) (s : State) : KeepsImage s (ownFireSalvo tag body s).state := by
  unfold ownFireSalvo; split
  · split
    · exact .refl s
    · split
      · exact .refl s
      · exact startFire_keepsImage _ _ s
  · exact .refl s

theorem ownRouterTiming_keepsImage (body : List Byte) (s : State) : KeepsImage s (ownRouterTiming body s).state := by
  unfold ownRouterTiming; split
  · exact .of_live ⟨rfl, rfl⟩ ⟨rfl, rfl, rfl⟩
  · exact .refl s

theorem storeSource_keepsImage (i : Nat) (r : SourceRec) (s : State) : KeepsImage s (storeSource i r s) := by
  unfold storeSource; dsimp only
  have h0 : KeepsImage s { s with rc := { s.rc with sources := tset noSource s.rc.sources i r } } :=
    .of_live ⟨rfl, rfl⟩ ⟨rfl, rfl, rfl⟩
  have position (u : State) : KeepsImage u
      (if r.position = (s.rc.source i).position then u else reportKd [.sourcePosition i] (reportTrFromRc u)) := by
    split
    · exact .refl u
    · exact (reportKd_keepsImage _ _).after (.of_frame (reportTrFromRc_frame u) (by decide))
  have tie (u : State) : KeepsImage u (if r.tie = (s.rc.source i).tie then u else reportTrFromRc u) := by
    split
    · exact .refl u
    · exact .of_frame (reportTrFromRc_frame u) (by decide)
  exact (h0.trans (position _)).trans (tie _)

theorem ownSetSource_keepsImage (body : List Byte) (s : State) : KeepsImage s (ownSetSource body s).state := by
  unfold ownSetSource; split
  · split
    · exact .refl s
    · dsimp only; split
      · exact .refl s
      · exact storeSource_keepsImage _ _ s
  · exact .refl s

theorem ownSetDest_keepsImage (body : List Byte) (s : State) : KeepsImage s (ownSetDest body s).state := by
  unfold ownSetDest; split
  · split
    · exact .refl s
    · split
      · exact .refl s
      · exact relearn_keepsImage _ _ s
  · exact .refl s

theorem ownProtectRequest_keepsImage (body : List Byte) (s : State) : KeepsImage s (ownProtectRequest body s).state := by
  unfold ownProtectRequest; split
  · split
    · exact .refl s
    · split
      · exact .refl s
      · exact setProtect_keepsImage (fun _ _ _ => by omega) s
  · exact .refl s

theorem ownDestEntry_keepsImage (body : List Byte) (s : State) : KeepsImage s (ownDestEntry body s).state := by
  unfold ownDestEntry; split
  · split
    · exact .refl s
    · exact ownProtectRequest_keepsImage _ s
  · exact .refl s

end Sys2Proof.Machine
end


section
/-! SUPPORT. The configuration requests and the key transitions keep the tables of the image within their bounds (O6). -/

namespace Sys2Proof.Machine

/-! ### The salvo pool (R69, R70) -/

section
variable {α : Type}

/-- The lengths of a table's lists together. -/
def listed (t : Tab (List α)) : Nat := (t.map (·.2.length)).sum

theorem listed_cons (kv : Nat × List α) (t : Tab (List α)) : listed (kv :: t) = kv.2.length + listed t := by
  simp [listed]

theorem poolUsed_eq (rc : Rc) : rc.poolUsed = listed rc.salvos := rfl

/-- Below every key of a table none is listed. -/
theorem tfind_of_above {β : Type} {b i : Nat} {t : Tab β} (h : Above b t) (hi : i ≤ b) : tfind t i = none := by
  cases e : tfind t i with
  | none => rfl
  | some v => exact absurd (h _ (mem_of_tfind e)) (by dsimp only; omega)

theorem listed_tput {t : Tab (List α)} (hs : tsorted t = true) (i : Nat) (x : List α) :
    listed (tput t i x) + (tget [] t i).length = listed t + x.length := by
  induction t with
  | nil => simp [tput, listed, tget, tfind]
  | cons kv t ih =>
    obtain ⟨k, v⟩ := kv
    obtain ⟨habove, hs⟩ := (tsorted_cons k v t).1 hs
    simp only [tput]
    split
    · have hnone : tget [] ((k, v) :: t) i = [] := by
        unfold tget; rw [tfind, if_neg (by omega), tfind_of_above habove (by omega)]; rfl
      simp only [hnone, listed_cons, List.length_nil]; omega
    · split
      · simp only [listed_cons, tget, tfind, if_pos ‹i = k›, Option.getD_some]; omega
      · have hi := ih hs
        simp only [tget, tfind, if_neg ‹¬i = k›, listed_cons] at hi ⊢; omega

theorem listed_tdel {t : Tab (List α)} (hs : tsorted t = true) (i : Nat) :
    listed (tdel t i) + (tget [] t i).length = listed t := by
  induction t with
  | nil => simp [tdel, listed, tget, tfind]
  | cons kv t ih =>
    obtain ⟨k, v⟩ := kv
    obtain ⟨habove, hs⟩ := (tsorted_cons k v t).1 hs
    have hi := ih hs
    simp only [tdel]
    split
    · have hnone : tget [] t i = [] := by unfold tget; rw [tfind_of_above habove (by omega)]; rfl
      simp only [hnone, List.length_nil] at hi
      simp only [listed_cons, tget, tfind, if_pos ‹i = k›, Option.getD_some]; omega
    · simp only [tget, tfind, if_neg ‹¬i = k›, listed_cons] at hi ⊢; omega

/-- A list replaced: the old one's length leaves the sum, the new one's joins it. -/
theorem listed_tset [DecidableEq α] {t : Tab (List α)} (hs : tsorted t = true) (i : Nat) (x : List α) :
    listed (tset [] t i x) + (tget [] t i).length = listed t + x.length := by
  unfold tset; split
  · rw [listed_tdel hs, ‹x = []›]; rfl
  · exact listed_tput hs i x

end

theorem ownDefineSalvo_keepsImage (body : List Byte) (s : State) : KeepsImage s (ownDefineSalvo body s).state := by
  unfold ownDefineSalvo; split
  · rename_i n c rest
    split
    · exact .refl s
    · split
      · exact .refl s
      · rename_i hn
        dsimp only; split
        · exact .refl s
        · split
          · exact .refl s
          · split
            · exact .refl s
            · rename_i hpool
              refine .of_rc ⟨rfl, rfl, rfl⟩ fun ⟨⟨hsorted, hnumber, _⟩, hdests⟩ => ⟨⟨tsorted_tset _ _ _ hsorted, ?_, ?_⟩, hdests⟩
              · exact forall_tset (P := fun kv => kv.1 ≤ 63) hnumber (Nat.le_of_not_lt hn)
              · have hsum := listed_tset hsorted n.toNat (bytePairs rest)
                rw [poolUsed_eq] at hpool ⊢
                unfold Rc.salvo at hpool
                exact show listed (tset [] s.rc.salvos n.toNat (bytePairs rest)) ≤ Config.poolPairs by omega
  · exact .refl s

/-! ### Panel records (R32, R33) -/

/-- A change of a panel's records alone. -/
theorem KeepsImage.of_records {s t : State} (e : t.pm = s.pm ∧ t.rc = s.rc ∧ t.te = s.te)
    (h : RecordsForm s.kd.records → RecordsForm t.kd.records) : KeepsImage s t :=
  ⟨e.1, fun i => ⟨h i.records, e.2.1 ▸ i.rc, e.2.2 ▸ i.te⟩⟩

theorem RecordsForm.put {t : Tab PanelRec} (h : RecordsForm t) {n : Nat} (hn : isNode n) {r : PanelRec}
    (hr : tsorted r.keys = true ∧ ∀ k ∈ r.keys, k.1 ≤ 31) : RecordsForm (tput t n r) :=
  ⟨tsorted_tput n r h.1, forall_tput h.2 ⟨hn, hr⟩⟩

theorem RecordsForm.del {t : Tab PanelRec} (h : RecordsForm t) (n : Nat) : RecordsForm (tdel t n) :=
  ⟨tsorted_tdel n h.1, forall_tdel h.2⟩

theorem RecordsForm.setKey {t : Tab PanelRec} (h : RecordsForm t) (n : Nat) {k : Nat} (hk : k ≤ 31) (e : KeyEntry) :
    RecordsForm (tmodify t n fun r => { r with keys := tset .none r.keys k e }) := by
  refine ⟨tsorted_tmodify n _ h.1, forall_tmodify h.2 ?_⟩
  rintro r ⟨hn, hs, hks⟩
  exact ⟨hn, tsorted_tset _ _ _ hs, forall_tset (P := fun kv => kv.1 ≤ 31) hks hk⟩

theorem refreshPanel_keepsImage (q : KeyEntry → Bool) (n : Nat) (s : State) : KeepsImage s (refreshPanel q n s) :=
  .of_kept (refreshPanel_frame q n s) (by decide) (refreshPanel_kept q n s).toConfigKept

theorem refreshKey_keepsImage (s : State) (n k : Nat) : KeepsImage s (refreshKey s n k) :=
  .of_kept (refreshKey_frame s n k) (by decide) (refreshKey_kept s n k).toConfigKept

theorem deactivatePanel_keepsImage (q : KeyEntry → Bool) (n : Nat) (s : State) : KeepsImage s (deactivatePanel q n s) :=
  .of_kept (deactivatePanel_frame q n s) (by decide) (deactivatePanel_kept q n s).toConfigKept

theorem setKeyCtx_keepsImage (n k : Nat) (f : KeyCtx → KeyCtx) (s : State) : KeepsImage s (setKeyCtx n k f s) :=
  .of_kept (setKeyCtx_frame n k f s) (by decide) (setKeyCtx_kept n k f s).toConfigKept

theorem isNode_of_nodeByte {n : Byte} (h : nodeByte n = true) : isNode n.toNat := by
  simpa [nodeByte] using h

theorem storePanel_keepsImage {n : Nat} (hn : isNode n) (port : Option Nat) (mode : TakeMode) (s : State) :
    KeepsImage s (storePanel n port mode s) := by
  unfold storePanel
  refine (refreshPanel_keepsImage _ _ _).after ?_
  split
  · exact .of_records ⟨rfl, rfl, rfl⟩ fun h => h.put hn ⟨rfl, nofun⟩
  · rename_i r e
    dsimp only
    have h0 : KeepsImage s (if r.port = port then s else deactivatePanel talkOrListen n s) := by
      split
      · exact .refl s
      · exact deactivatePanel_keepsImage _ _ _
    have hold : (if r.port = port then s else deactivatePanel talkOrListen n s).kd.records = s.kd.records := by
      split
      · rfl
      · exact (settings_image (deactivatePanel_kept talkOrListen n s).settings).1
    generalize (if r.port = port then s else deactivatePanel talkOrListen n s) = u at h0 hold ⊢
    refine h0.trans (.of_records ⟨rfl, rfl, rfl⟩ fun h => h.put hn ?_)
    exact (h.2 _ (hold ▸ mem_of_tfind e)).2

theorem removePanel_keepsImage (n : Nat) (s : State) : KeepsImage s (removePanel n s) := by
  unfold removePanel; dsimp only
  refine (refreshPanel_keepsImage _ _ _).after ((deactivatePanel_keepsImage (fun _ => true) n s).trans ?_)
  generalize deactivatePanel (fun _ => true) n s = u
  exact .of_records ⟨rfl, rfl, rfl⟩ fun h => h.del n

theorem ownSetPanel_keepsImage (body : List Byte) (s : State) : KeepsImage s (ownSetPanel body s).state := by
  unfold ownSetPanel; split
  · split
    · exact .refl s
    · split
      · exact .refl s
      · rename_i hr
        simp only [Bool.or_eq_true, Bool.not_eq_true', not_or, Bool.not_eq_false] at hr
        exact storePanel_keepsImage (isNode_of_nodeByte hr.1) _ _ s
  · split
    · exact .refl s
    · split
      · exact .refl s
      · exact removePanel_keepsImage _ s
  · exact .refl s

theorem storeKey_keepsImage (n : Nat) {k : Nat} (hk : k ≤ 31) (e : KeyEntry) (s : State) : KeepsImage s (storeKey n k e s) := by
  unfold storeKey; dsimp only
  have h0 : KeepsImage s (setKeyCtx n k (fun x => { x with refusalExpiry := none }) (deactivateIfActive n k s)) :=
    (setKeyCtx_keepsImage _ _ _ _).after
      (.of_kept (deactivateIfActive_frame n k s) (by decide) (deactivateIfActive_kept n k s).toConfigKept)
  exact (refreshKey_keepsImage _ _ _).after (h0.trans (.of_records ⟨rfl, rfl, rfl⟩ fun h => h.setKey n hk e))

theorem ownSetKey_keepsImage (body : List Byte) (s : State) : KeepsImage s (ownSetKey body s).state := by
  unfold ownSetKey; split
  · split
    · exact .refl s
    · split
      · exact .refl s
      · rename_i hr
        simp only [Bool.or_eq_true, decide_eq_true_eq, not_or] at hr
        split
        · exact .refl s
        · exact storeKey_keepsImage _ (Nat.le_of_not_lt hr.1.2) _ s
  · exact .refl s

theorem ownKeyTiming_keepsImage (body : List Byte) (s : State) : KeepsImage s (ownKeyTiming body s).state := by
  unfold ownKeyTiming; split
  · exact .of_records ⟨rfl, rfl, rfl⟩ id
  · exact .refl s

/-! ### Groups and standing paths (R145, R147) -/

/-- A change of TE's tables alone. -/
theorem KeepsImage.of_te {s t : State} (e : t.pm = s.pm ∧ t.kd = s.kd ∧ t.rc = s.rc) (h : TeImage s.te → TeImage t.te) :
    KeepsImage s t :=
  ⟨e.1, fun i => ⟨e.2.1 ▸ i.records, e.2.2 ▸ i.rc, h i.te⟩⟩

theorem applyCauses_keepsImage (gone : Nat → Cause → Bool) (news : List NewCause) (s : State) :
    KeepsImage s (applyCauses gone news s) :=
  .of_apart (applyCauses_frame gone news s) (by decide) (applyCauses_apart gone news s)

theorem refuseRoom_keepsImage (s : State) : KeepsImage s (refuseRoom s) :=
  (setFlag_keepsImage _ _).after (.of_te ⟨rfl, rfl, rfl⟩ fun h => ⟨h.groups, h.standing⟩)

theorem storeGroup_keepsImage (g : Nat) {members : List Nat} (hl : members.length ≤ Config.groupMax) {s t : State}
    (e : storeGroup g members s = some t) : KeepsImage s t := by
  unfold storeGroup at e; split at e
  · cases e; exact .refl s
  · dsimp only at e; split at e
    · injection e with e
      subst e
      have h0 : KeepsImage s { s with te := { s.te with groups := tset [] s.te.groups g members } } :=
        .of_te ⟨rfl, rfl, rfl⟩ fun h =>
          ⟨forall_tset (P := fun kv : Nat × List Nat => kv.2.length ≤ Config.groupMax) h.groups hl, h.standing⟩
      refine (h0.trans (applyCauses_keepsImage (groupGone (groupWould s g members))
        ((groupWould s g members).flatMap fun w => lacking s.te (ofKey w.1 w.2.1) w.2.2) _)).trans ?_
      generalize applyCauses _ _ _ = u
      exact .of_frame (reports_frame _ u) (by decide)
    · cases e

theorem ownSetGroup_keepsImage (body : List Byte) (s : State) : KeepsImage s (ownSetGroup body s).state := by
  unfold ownSetGroup; split
  · dsimp only; split
    · exact .refl s
    · rename_i c rest hlen
      split
      · exact .refl s
      · split
        · exact .refl s
        · rename_i hc
          simp only [Bool.or_eq_true, not_or, decide_eq_true_eq] at hc
          split
          · exact refuseRoom_keepsImage s
          · rename_i e
            refine storeGroup_keepsImage _ ((length_sortAsc_le _).trans ?_) e
            rw [List.length_map]; omega
  · exact .refl s

theorem defineSlot_keepsImage {k : Nat} (hk : k < Config.slots) (x : Standing) {s t : State} (e : defineSlot k x s = some t) :
    KeepsImage s t := by
  unfold defineSlot at e; dsimp only at e
  generalize (if (tfind s.te.standing k).isSome then 1 else 0 : Nat) = freed at e
  split at e
  · injection e with e
    subst e
    have h0 : KeepsImage s { s with te := { s.te with standing := tput s.te.standing k x } } :=
      .of_te ⟨rfl, rfl, rfl⟩ fun h =>
        ⟨h.groups, tsorted_tput _ _ h.standing.1, forall_tput (P := fun kv => kv.1 < Config.slots) h.standing.2 hk⟩
    exact h0.trans (applyCauses_keepsImage _ _ _)
  · cases e

theorem freeSlot_lt {te : Te} {k : Nat} (h : freeSlot te = some k) : k < Config.slots :=
  List.mem_range.1 (List.mem_of_find?_eq_some h)

theorem ownAddStanding_keepsImage (body : List Byte) (s : State) : KeepsImage s (ownAddStanding body s).state := by
  unfold ownAddStanding; split
  · split
    · exact .refl s
    · split
      · exact .refl s
      · split
        · exact .refl s
        · rename_i k hk
          split
          · exact refuseRoom_keepsImage s
          · rename_i e; exact defineSlot_keepsImage (freeSlot_lt hk) _ e
  · exact .refl s

theorem ownStandingEntry_keepsImage (body : List Byte) (s : State) : KeepsImage s (ownStandingEntry body s).state := by
  unfold ownStandingEntry; split
  · split
    · exact .refl s
    · rename_i hr
      simp only [Bool.or_eq_true, not_or, decide_eq_true_eq] at hr
      split
      · exact .refl s
      · split
        · exact refuseRoom_keepsImage s
        · rename_i e; exact defineSlot_keepsImage (show _ < 128 by omega) _ e
  · exact .refl s

theorem ownDropStanding_keepsImage (body : List Byte) (s : State) : KeepsImage s (ownDropStanding body s).state := by
  unfold ownDropStanding; split
  · rename_i k
    split
    · exact .refl s
    · split
      · exact .refl s
      · have h0 : KeepsImage s { s with te := { s.te with standing := tdel s.te.standing k.toNat } } :=
          .of_te ⟨rfl, rfl, rfl⟩ fun h => ⟨h.groups, tsorted_tdel _ h.standing.1, forall_tdel h.standing.2⟩
        exact h0.trans (applyCauses_keepsImage _ _ _)
  · exact .refl s

/-! ### Key transitions (R36) -/

theorem refuseKey_keepsImage (n k : Nat) (s : State) : KeepsImage s (refuseKey n k s) := setKeyCtx_keepsImage _ _ _ _

theorem askTake_keepsImage (n k : Nat) (d x : Option Nat) (s : State) : KeepsImage s (askTake n k d x s) := by
  unfold askTake; split
  · split
    · exact refuseKey_keepsImage _ _ _
    · exact enqueue_keepsImage _ _ _ _
  · exact refuseKey_keepsImage _ _ _

theorem setRouterPanel_keepsImage (n : Nat) (d x : Option Nat) (s : State) : KeepsImage s (setRouterPanel n d x s) :=
  .of_kept (setRouterPanel_frame n d x s) (by decide) (setRouterPanel_kept n d x s).toConfigKept

theorem deactivateKey_keepsImage (n k : Nat) (s : State) : KeepsImage s (deactivateKey n k s) :=
  .of_kept (deactivateKey_frame n k s) (by decide) (deactivateKey_kept n k s).toConfigKept

theorem activateKey_keepsImage (n k : Nat) (dst : KeyState) (limit : Nat) (e : KeyEntry) (target : KeyTarget) (s : State) :
    KeepsImage s (activateKey n k dst limit e target s) :=
  .of_kept (activateKey_frame n k dst limit e target s) (by decide) (activateKey_kept n k dst limit e target s).toConfigKept

theorem addKeyCall_keepsImage (p n k : Nat) (s : State) : KeepsImage s (addKeyCall p n k s) :=
  .of_frame (changeCalls_frame _ _ s) (by decide)

theorem keyAct_keepsImage (n k : Nat) (press : Bool) (r : PanelRec) (c : Context) (st : KeyState) (s : State) :
    KeepsImage s (keyAct n k press r c st s) := by
  unfold keyAct
  split
  case h_1 => exact .of_records ⟨rfl, rfl, rfl⟩ id
  case h_2 =>
    split
    · exact .refl s
    · exact activateKey_keepsImage _ _ _ _ _ _ s
    · exact setKeyCtx_keepsImage _ _ _ s
    · exact deactivateKey_keepsImage _ _ s
  case h_3 =>
    split
    · exact .refl s
    · split
      · exact activateKey_keepsImage _ _ _ _ _ _ s
      · exact deactivateKey_keepsImage _ _ s
  case h_4 =>
    split
    · split
      · exact (addKeyCall_keepsImage _ _ _ _).after (setKeyCtx_keepsImage _ _ _ s)
      · exact .refl s
    · split
      · exact deactivateKey_keepsImage _ _ s
      · exact .refl s
  case h_5 =>
    split
    · exact setRouterPanel_keepsImage _ _ _ s
    · exact .refl s
  case h_6 =>
    split
    · exact .refl s
    · dsimp only; split
      · exact (askTake_keepsImage _ _ _ _ _).after (setRouterPanel_keepsImage _ _ _ s)
      · exact setRouterPanel_keepsImage _ _ _ s
  case h_7 =>
    split
    · exact askTake_keepsImage _ _ _ _ s
    · exact .refl s
  case h_8 =>
    split
    · exact .refl s
    · split
      · exact refuseKey_keepsImage _ _ s
      · dsimp only; split
        · exact (refuseKey_keepsImage _ _ _).after (toggleProtect_keepsImage _ _ s)
        · exact toggleProtect_keepsImage _ _ s
  case h_9 =>
    split
    · exact .refl s
    · split
      · exact refuseKey_keepsImage _ _ s
      · exact startFire_keepsImage _ _ s

theorem takeTransition_keepsImage (n : Nat) (s : State) (t : Nat × Bool) : KeepsImage s (takeTransition n s t) := by
  have counted (kd : Kd) (h : kd.records = s.kd.records) : KeepsImage s { s with kd := kd } :=
    .of_records ⟨rfl, rfl, rfl⟩ fun i => h ▸ i
  unfold takeTransition; dsimp only
  split
  · exact counted _ rfl
  · split
    · exact counted _ rfl
    · split
      · exact counted _ rfl
      · split
        · exact counted _ rfl
        · split
          · exact counted _ rfl
          · exact ((refreshKey_keepsImage _ _ _).after (keyAct_keepsImage _ _ _ _ _ _ _)).after (setKeyCtx_keepsImage _ _ _ s)

theorem dispatchOldest_keepsImage (s : State) : KeepsImage s (dispatchOldest s) := by
  unfold dispatchOldest; split
  · exact .refl s
  · exact KeepsImage.after (.of_frame (pbc_frame _ _) (by decide)) (.foldl (takeTransition_keepsImage _) _ s)

end Sys2Proof.Machine
end


section
/-! SUPPORT. No section of the image is longer than its bound while the tables of the image keep theirs (O6). -/

namespace Sys2Proof.Machine

/-! ### Lengths -/

theorem length_flatMap_le {α β : Type} {l : List α} {f : α → List β} {m n : Nat} (hl : l.length = m)
    (h : ∀ a ∈ l, (f a).length ≤ n) : (l.flatMap f).length ≤ m * n := by
  rw [List.length_flatMap]
  refine (List.sum_le_card_nsmul _ n ?_).trans_eq (by simp [hl])
  simpa using h

/-- What a sorted table's records of the keys `lo` up to `hi` give together, the others giving nothing. -/
theorem length_flatMap_table {α β : Type} {f : Nat × α → List β} {hi n : Nat} {t : Tab α} :
    ∀ lo, tsorted t = true → (∀ kv ∈ t, lo ≤ kv.1 ∧ (f kv = [] ∨ kv.1 < hi ∧ (f kv).length ≤ n)) →
      (t.flatMap f).length ≤ (hi - lo) * n := by
  induction t with
  | nil => intros; exact Nat.zero_le _
  | cons kv t ih =>
    obtain ⟨k, v⟩ := kv
    intro lo hs h
    obtain ⟨habove, hs⟩ := (tsorted_cons k v t).1 hs
    have hrest := fun kv hkv => h kv (.tail _ hkv)
    obtain ⟨hlo, hnil | ⟨hhi, hlen⟩⟩ := h _ (.head _)
    · rw [List.flatMap_cons, hnil, List.nil_append]; exact ih lo hs hrest
    · have hsum := ih (k + 1) hs fun kv hkv => ⟨habove kv hkv, (hrest kv hkv).2⟩
      rw [List.flatMap_cons, List.length_append]
      calc _ ≤ n + (hi - (k + 1)) * n := Nat.add_le_add hlen hsum
        _ = (hi - (k + 1) + 1) * n := by rw [Nat.add_mul, Nat.one_mul, Nat.add_comm]
        _ ≤ (hi - lo) * n := Nat.mul_le_mul_right n (by dsimp only at hlo hhi; omega)

/-- A sorted table has a record for each of its keys alone. -/
theorem length_le_of_keys {α : Type} {t : Tab α} {hi : Nat} (hs : tsorted t = true) (h : ∀ kv ∈ t, kv.1 < hi) : t.length ≤ hi := by
  have hone := length_flatMap_table (f := fun _ => [()]) (n := 1) 0 hs fun kv hkv => ⟨Nat.zero_le _, .inr ⟨h kv hkv, Nat.le_refl 1⟩⟩
  simpa using hone

@[simp] theorem length_eInt (g : Int) : (eInt g).length = 1 := rfl
@[simp] theorem length_eIndex (o : Option Nat) : (eIndex o).length = 1 := by cases o <;> rfl
@[simp] theorem length_eWide (o : Option Nat) : (eWide o).length = 2 := by cases o <;> rfl
@[simp] theorem length_crcBytes (l : List Byte) : (crcBytes l).length = 2 := rfl
@[simp] theorem length_targetBytes (t : KeyTarget) : t.bytes.length = 2 := by cases t <;> rfl

/-- A section's header is seven bytes (R206). -/
theorem length_sectionBytes (kind next : Nat) (body : List Byte) : (sectionBytes kind next body).length = 7 + body.length := by
  simp only [sectionBytes, List.length_append, length_e1, length_e2, length_crcBytes]

/-- An image header is nine bytes (R206). -/
theorem length_headerBytes {magic : List Byte} (h : magic.length = 4) (first : Nat) : (headerBytes magic first).length = 9 := by
  simp [headerBytes, h]

theorem length_portBytes (r : PortRec) : (portBytes r).length = 8 := by
  have hduck : r.duck.byte.length = 1 := by cases r.duck <;> rfl
  simp [portBytes, hduck]

theorem length_keyBytes (e : KeyEntry) : e.bytes.length ≤ 8 := by
  cases e <;> simp [KeyEntry.bytes]

/-! ### The twelve sections (R206) -/

theorem length_settingsBytes (s : State) : (settingsBytes s).length = 26 := by
  simp [settingsBytes, timingBytes, mixerSettings]

theorem length_bindingEntries (tr : Tr) (x : Mixer) : (bindingEntries tr x).length ≤ 320 := by
  refine length_flatMap_le (n := 5) List.length_range' fun i _ => ?_
  split <;> simp

theorem length_lampsBytes (ld : Ld) : (lampsBytes ld).length = 150 := by
  simp [lampsBytes, positionList, List.length_flatMap]

theorem length_keyEntries {kd : Kd} (h : RecordsForm kd.records) : (keyEntries kd).length ≤ 20160 := by
  refine length_flatMap_table (hi := 64) (n := 320) 1 h.1 fun r hr => ?_
  obtain ⟨⟨hlow, hhigh⟩, hsorted, hkeys⟩ := h.2 r hr
  refine ⟨hlow, .inr ⟨Nat.lt_succ_of_le hhigh, ?_⟩⟩
  refine length_flatMap_table (hi := 32) (n := 10) 0 hsorted fun k hk => ⟨Nat.zero_le _, .inr ⟨Nat.lt_succ_of_le (hkeys k hk), ?_⟩⟩
  have := length_keyBytes k.2
  simp only [List.length_append, length_e1]; omega

theorem length_destEntries {rc : Rc} (h : RcImage rc) : (destEntries rc).length ≤ 768 := by
  refine length_flatMap_table (hi := 256) (n := 3) 0 h.dests.1 fun kv hkv => ⟨Nat.zero_le _, ?_⟩
  split
  · exact .inr ⟨Nat.lt_succ_of_le (h.dests.2 kv hkv _ ‹_› rfl), Nat.le_refl 3⟩
  · exact .inl rfl

theorem length_salvoEntries {rc : Rc} (h : RcImage rc) :
    (rc.salvos.flatMap fun kv => e1 kv.1 ++ e1 kv.2.length ++ kv.2.flatMap fun q => e1 q.1 ++ e1 q.2).length ≤ 2176 := by
  obtain ⟨hsorted, hkeys, hpool⟩ := h.salvos
  have hcount := length_le_of_keys (hi := 64) hsorted fun kv hkv => Nat.lt_succ_of_le (hkeys kv hkv)
  have hsum : ∀ t : Tab (List (Nat × Nat)),
      (t.flatMap fun kv => e1 kv.1 ++ e1 kv.2.length ++ kv.2.flatMap fun q => e1 q.1 ++ e1 q.2).length
        = 2 * t.length + 2 * listed t := by
    intro t
    induction t with
    | nil => rfl
    | cons kv t ih =>
      have hpairs : (kv.2.flatMap fun q => e1 q.1 ++ e1 q.2).length = kv.2.length * 2 := by simp [List.length_flatMap]
      rw [List.flatMap_cons, List.length_append, ih, listed_cons]
      simp only [List.length_append, length_e1, List.length_cons, hpairs]; omega
  rw [hsum]; rw [poolUsed_eq] at hpool
  have : Config.poolPairs = 1024 := rfl
  omega

theorem length_group {te : Te} (h : TeImage te) (g : Nat) : (te.group g).length ≤ 32 :=
  tget_of_forall (P := fun l : List Nat => l.length ≤ 32) h.groups (Nat.zero_le _) g

theorem length_sectionBody {s : State} (h : ImageTables s) {i : Nat} (hi : i < 12) :
    (sectionBody s (i + 1)).length ≤ sectionMost (i + 1) := by
  match i, hi with
  | 0, _ => exact (length_settingsBytes s).le
  | 1, _ => exact length_flatMap_le (n := 10) List.length_range fun p _ => by simp [length_portBytes]
  | 2, _ =>
    refine length_flatMap_le (n := 34) List.length_range fun g _ => ?_
    have := length_group h.te g
    have hports : ((s.te.group g).flatMap e1).length = (s.te.group g).length := by simp [List.length_flatMap]
    simp only [List.length_append, length_e1, hports]; omega
  | 3, _ =>
    exact length_flatMap_table (hi := 128) (n := 4) 0 h.te.standing.1 fun kv hkv =>
      ⟨Nat.zero_le _, .inr ⟨h.te.standing.2 kv hkv, by simp⟩⟩
  | 4, _ =>
    refine length_flatMap_table (hi := 64) (n := 4) 1 h.records.1 fun r hr => ?_
    obtain ⟨⟨hlow, hhigh⟩, _⟩ := h.records.2 r hr
    exact ⟨hlow, .inr ⟨Nat.lt_succ_of_le hhigh, by simp⟩⟩
  | 5, _ => exact length_keyEntries h.records
  | 6, _ => exact length_flatMap_le (n := 6) List.length_range fun i _ => by simp
  | 7, _ => exact length_destEntries h.rc
  | 8, _ =>
    have := length_bindingEntries s.tr .a
    have := length_bindingEntries s.tr .b
    show (bindingEntries s.tr .a ++ bindingEntries s.tr .b).length ≤ 640
    rw [List.length_append]; omega
  | 9, _ => exact length_flatMap_le (n := 2) List.length_range fun p _ => by simp
  | 10, _ => exact length_salvoEntries h.rc
  | 11, _ => exact (length_lampsBytes s.ld).le

/-! ### The bounds of a save -/

theorem sectionEnd_zero : sectionEnd 0 = 9 + (7 + sectionMost 1) := rfl

theorem sectionEnd_succ (i : Nat) : sectionEnd (i + 1) = sectionEnd i + (7 + sectionMost (i + 1 + 1)) := by
  simp only [sectionEnd, List.range_succ (n := i + 1), List.map_append, List.sum_append, List.map_cons, List.map_nil, List.sum_cons,
    List.sum_nil]
  exact (Nat.add_assoc 9 _ _).symm

theorem sectionEnd_mono {i j : Nat} (h : i ≤ j) : sectionEnd i ≤ sectionEnd j := by
  induction j, h using Nat.le_induction with
  | base => exact Nat.le_refl _
  | succ j _ ih => rw [sectionEnd_succ]; omega

/-- The longest image lies in the memory. -/
theorem sectionEnd_le_memory {i : Nat} (h : i < 12) : sectionEnd i ≤ Config.memoryBytes :=
  (sectionEnd_mono (Nat.le_of_lt_succ h)).trans (by decide)

end Sys2Proof.Machine
end


section
/-! SUPPORT. The walk, its entries and the save keep the memory in form and every transfer in it (O6). -/

namespace Sys2Proof.Machine

/-! ### The settings of TE a section's entry writes -/

theorem retargetPort_keepsImage (p : Nat) (s : State) : KeepsImage s (sendGains (retargetPort p s)) :=
  .of_apart ((sendGains_frame _).after (retargetPort_frame p s)) (by decide)
    ((sendGains_apart _).after (Apart.foldl retarget_apart _ s))

theorem storePort_keepsImage (p : Nat) (r : PortRec) (s : State) : KeepsImage s (storePort p r s) := by
  unfold storePort; dsimp only; split
  · exact .refl s
  · exact (retargetPort_keepsImage p _).after (.of_te ⟨rfl, rfl, rfl⟩ fun h => ⟨h.groups, h.standing⟩)

theorem ownSetPort_keepsImage (body : List Byte) (s : State) : KeepsImage s (ownSetPort body s).state := by
  unfold ownSetPort; split
  · split
    · exact .refl s
    · split
      · exact .refl s
      · dsimp only; split
        · exact .refl s
        · split
          · exact .refl s
          · exact storePort_keepsImage _ _ s
  · exact .refl s

theorem gainTick_keepsImage (s : State) : KeepsImage s (gainTick s) := .of_apart (gainTick_frame s) (by decide) (gainTick_apart s)

theorem storeGainTiming_keepsImage (fs : List (Option Nat)) (s : State) : KeepsImage s (storeGainTiming fs s) := by
  unfold storeGainTiming; dsimp only; split
  · exact .of_te ⟨rfl, rfl, rfl⟩ fun h => ⟨h.groups, h.standing⟩
  · exact (gainTick_keepsImage _).after (.of_te ⟨rfl, rfl, rfl⟩ fun h => ⟨h.groups, h.standing⟩)

theorem ownGainTiming_keepsImage (body : List Byte) (s : State) : KeepsImage s (ownGainTiming body s).state := by
  unfold ownGainTiming; split
  · exact .refl s
  · exact storeGainTiming_keepsImage _ s

/-! ### What an effect does with the profile -/

/-- The memory stays in form, and the image's invariant is kept. -/
structure KeepsProfile (s t : State) : Prop where
  memory : Memory.wf s.pm.memory = true → Memory.wf t.pm.memory = true
  image : ImageInv s → ImageInv t

theorem KeepsProfile.refl (s : State) : KeepsProfile s s := ⟨id, id⟩

theorem KeepsProfile.trans {s t u : State} (h : KeepsProfile s t) (k : KeepsProfile t u) : KeepsProfile s u :=
  ⟨k.memory ∘ h.memory, k.image ∘ h.image⟩

/-- Composition, the last operation first: read along the term from the outside in. -/
theorem KeepsProfile.after {s t u : State} (k : KeepsProfile t u) (h : KeepsProfile s t) : KeepsProfile s u := h.trans k

theorem KeepsImage.profile {s t : State} (h : KeepsImage s t) : KeepsProfile s t :=
  ⟨fun hm => h.pm ▸ hm, fun hi => imageInv_iff.2 ⟨h.tables (imageInv_iff.1 hi).1, h.pm ▸ (imageInv_iff.1 hi).2⟩⟩

/-- A change of PM alone. -/
theorem KeepsProfile.of_pm {s : State} {pm : Pm} (hm : Memory.wf s.pm.memory = true → Memory.wf pm.memory = true)
    (h : ImageTables s → PmInv s.pm → PmInv pm) : KeepsProfile s { s with pm := pm } :=
  ⟨hm, fun hi => imageInv_iff.2 ⟨⟨hi.records, ⟨hi.salvos, hi.dests⟩, ⟨hi.groups, hi.standing⟩⟩,
    h (imageInv_iff.1 hi).1 (imageInv_iff.1 hi).2⟩⟩

/-- A PM that neither saves nor transfers. -/
theorem PmInv.of_still {pm : Pm} (hop : ∀ sv, pm.op ≠ .saving sv) (ht : pm.transfer = none) : PmInv pm :=
  ⟨fun sv _ _ _ e _ => absurd e (hop sv), fun t e => by rw [ht] at e; cases e⟩

theorem setCp_keepsProfile (cp : Cp) (s : State) : KeepsProfile s { s with cp := cp } :=
  (KeepsImage.of_frame (setCp_frame cp s) (by decide)).profile

theorem setWalk_keepsProfile (w : Walk) (s : State) : KeepsProfile s (setWalk w s) :=
  .of_pm id fun _ _ => .of_still nofun rfl

theorem softResetPm_keepsProfile (s : State) : KeepsProfile s (softResetPm s) :=
  .of_pm id fun _ _ => .of_still nofun rfl

theorem startTransfer_keepsProfile {t : Transfer} (h : t.outside = false) (s : State) : KeepsProfile s (startTransfer t s) :=
  .of_pm id fun _ p => ⟨p.save, fun x e => by cases e; exact h⟩

theorem startRead_keepsProfile {a n : Nat} (h : a + n ≤ Config.memoryBytes) (s : State) :
    KeepsProfile s (startTransfer (.read a n) s) :=
  startTransfer_keepsProfile (t := .read a n) (decide_eq_false (Nat.not_lt.2 h)) s

/-! ### The walk (R196) -/

theorem endWalk_keepsProfile (w : Walk) (how : WalkEnd) (s : State) : KeepsProfile s (endWalk w how s) := by
  unfold endWalk; dsimp only
  have hstop : KeepsProfile s (setFlagIf (how != .course) .profile (softResetPm s)) :=
    (setFlagIf_keepsImage _ _ _).profile.after (softResetPm_keepsProfile s)
  refine hstop.trans ?_
  split
  · exact KeepsImage.profile <| (KeepsImage.of_frame (busAutoStep_frame _) (by decide)).after <|
      (KeepsImage.of_frame (setCp_frame _ _) (by decide)).after (.of_frame (settleTallies_frame _) (by decide))
  · exact ((deferredReply_keepsImage _ _ _ _ _).after (.of_frame (busAutoStep_frame _) (by decide))).profile

theorem reachSection_keepsProfile (off : Nat) (w : Walk) (s : State) : KeepsProfile s (reachSection off w s) := by
  unfold reachSection; split
  · exact endWalk_keepsProfile _ _ s
  · dsimp only; split
    · exact endWalk_keepsProfile _ _ s
    · split
      · exact endWalk_keepsProfile _ _ s
      · rename_i hoff
        have hroom : off + 7 ≤ Config.memoryBytes := by simp [validOffset] at hoff; exact hoff.2
        exact (startRead_keepsProfile hroom _).after (setWalk_keepsProfile _ s)

theorem openSection_keepsProfile (head body : List Byte) (w : Walk) (s : State) : KeepsProfile s (openSection head body w s) := by
  unfold openSection; dsimp only; split
  · exact endWalk_keepsProfile _ _ s
  · split
    · exact reachSection_keepsProfile _ _ s
    · split
      · exact reachSection_keepsProfile _ _ s
      · exact setWalk_keepsProfile _ s

theorem readBody_keepsProfile (off : Nat) (head : List Byte) (w : Walk) (s : State) : KeepsProfile s (readBody off head w s) := by
  unfold readBody; dsimp only; split
  · exact endWalk_keepsProfile _ _ s
  · split
    · exact openSection_keepsProfile _ _ _ s
    · exact (startRead_keepsProfile (Nat.le_of_not_lt ‹_›) _).after (setWalk_keepsProfile _ s)

theorem walkOn_keepsProfile (w : Walk) (bytes : List Byte) (s : State) : KeepsProfile s (walkOn w bytes s) := by
  unfold walkOn; split
  · split
    · exact endWalk_keepsProfile _ _ s
    · exact reachSection_keepsProfile _ _ s
  · exact readBody_keepsProfile _ _ _ s
  · exact openSection_keepsProfile _ _ _ s
  · exact .refl s

theorem walkFailed_keepsProfile (w : Walk) (s : State) : KeepsProfile s (walkFailed w s) := by
  unfold walkFailed; split <;> exact endWalk_keepsProfile _ _ s

/-! ### Entries -/

theorem applySetting_keepsImage {own : List Byte → State → Answer} (h : ∀ body s, KeepsImage s (own body s).state)
    (body : List Byte)
    (acc : State × Nat) : KeepsImage acc.1 (applySetting own body acc).1 := by
  unfold applySetting; dsimp only; rw [Answer.loaded_state]; exact h body _

theorem ownSetMixer_keepsImage (body : List Byte) (s : State) : KeepsImage s (ownSetMixer body s).state :=
  .of_frame (ownSetMixer_frame body s) (by decide)

theorem applySettings_keepsImage (b : List Byte) (s : State) : KeepsImage s (applySettings b s).1 := by
  have setNode (b s) : KeepsImage s (ownSetNode b s).state := .of_frame (ownSetNode_frame b s) (by decide)
  have busAuto (b s) : KeepsImage s (ownBusAuto b s).state := .of_frame (ownBusAuto_frame b s) (by decide)
  have busTiming (b s) : KeepsImage s (ownBusTiming b s).state := .of_frame (ownBusTiming_frame b s) (by decide)
  unfold applySettings; dsimp only
  refine (applySetting_keepsImage ownGainTiming_keepsImage _ _).after ?_
  refine (applySetting_keepsImage ownSetMixer_keepsImage _ _).after ((applySetting_keepsImage ownSetMixer_keepsImage _ _).after ?_)
  refine (applySetting_keepsImage ownRouterTiming_keepsImage _ _).after
    ((applySetting_keepsImage ownKeyTiming_keepsImage _ _).after ?_)
  exact (applySetting_keepsImage busTiming _ _).after
    ((applySetting_keepsImage busAuto _ _).after (applySetting_keepsImage setNode _ (s, 0)))

theorem entryRequest_keepsImage (kind ordinal : Nat) (body : List Byte) (s : State) :
    KeepsImage s (entryRequest kind ordinal body s).state := by
  unfold entryRequest; split
  · exact ownSetPort_keepsImage body s
  · exact ownSetGroup_keepsImage body s
  · exact ownStandingEntry_keepsImage body s
  · exact ownSetPanel_keepsImage body s
  · exact ownSetKey_keepsImage body s
  · exact ownSetSource_keepsImage body s
  · exact ownDestEntry_keepsImage body s
  · exact .of_frame (ownSetBinding_frame body s) (by decide)
  · exact .of_frame (ownSetPosition_frame body s) (by decide)
  · exact ownDefineSalvo_keepsImage body s
  · split
    · exact .of_frame (ownSetHouse_frame body s) (by decide)
    · exact .of_frame (ownLampTiming_frame body s) (by decide)
    · exact .of_frame (ownSetLamp_frame body s) (by decide)
  · exact .refl s

theorem applyEntry_keepsImage (kind ordinal : Nat) (body : List Byte) (s : State) :
    KeepsImage s (applyEntry kind ordinal body s).1 := by
  unfold applyEntry; split
  · exact applySettings_keepsImage body s
  · rw [Answer.loaded_state]; unfold ownEntry; split
    · exact entryRequest_keepsImage kind ordinal body s
    · exact .refl s

theorem afterEntry_keepsProfile (w : Walk) (kind ordinal next : Nat) (rest : List Byte) (loaded : Bool) (s : State) :
    KeepsProfile s (afterEntry w kind ordinal next rest loaded s) := by
  unfold afterEntry; dsimp only
  refine (setFlagIf_keepsImage (!loaded) .profile s).profile.trans ?_
  split
  · exact reachSection_keepsProfile _ _ _
  · exact setWalk_keepsProfile _ _

theorem applyNextEntry_keepsProfile (s : State) : KeepsProfile s (applyNextEntry s) := by
  unfold applyNextEntry; split
  · split
    · split
      · exact afterEntry_keepsProfile _ _ _ _ _ _ s
      · split
        · exact afterEntry_keepsProfile _ _ _ _ _ _ s
        · exact (afterEntry_keepsProfile _ _ _ _ _ _ _).after (applyEntry_keepsImage _ _ _ s).profile
    · exact .refl s
  · exact .refl s

/-! ### The save (R198) -/

theorem endSave_keepsProfile (sv : Save) (ok : Bool) (s : State) : KeepsProfile s (endSave sv ok s) :=
  (softResetPm_keepsProfile s).trans ((deferredReply_keepsImage _ _ _ _ _).after (setFlagIf_keepsImage _ _ _)).profile

/-- A write of up to 64 bytes from the front of what is left, which then ends where it did. -/
theorem writeFront_keepsProfile (sv : Save) {index off len : Nat} {bytes : List Byte} (s : State)
    (h : ImageTables s → PmInv s.pm → index < 12 ∧ off + bytes.length ≤ sectionEnd index) :
    KeepsProfile s (startTransfer (.write off (bytes.take Config.writeBytes)) (setSave
      { sv with phase := .sect index (bytes.drop Config.writeBytes) (off + min bytes.length Config.writeBytes), length := len }
        s)) := by
  refine .of_pm id fun tables pm => ?_
  obtain ⟨hi, hend⟩ := h tables pm
  constructor
  · intro sv' index' rest next e ep
    cases e; cases ep
    exact ⟨hi, by rw [List.length_drop]; omega⟩
  · intro t e
    cases e
    have := sectionEnd_le_memory hi
    have := List.length_take_le Config.writeBytes bytes
    simp only [Transfer.outside, List.length_take, decide_eq_false_iff_not]; omega

theorem beginSection_keepsProfile {index off : Nat} (sv : Save) (s : State)
    (h : ImageTables s → PmInv s.pm → index < 12 ∧ off + (7 + sectionMost (index + 1)) ≤ sectionEnd index) :
    KeepsProfile s (beginSection index off sv s) := by
  unfold beginSection; dsimp only
  refine writeFront_keepsProfile sv s fun tables pm => ?_
  obtain ⟨hi, hend⟩ := h tables pm
  have := length_sectionBody tables hi
  exact ⟨hi, by rw [length_sectionBytes]; omega⟩

theorem header_room {magic : List Byte} (h : magic.length = 4) (first : Nat) :
    0 + (headerBytes magic first).length ≤ Config.memoryBytes := by
  rw [length_headerBytes h]; decide

theorem spoiledHeader_room : 0 + spoiledHeader.length ≤ Config.memoryBytes := header_room (magic := [0, 0, 0, 0]) rfl 9

theorem header_inside {magic : List Byte} (h : magic.length = 4) (first : Nat) :
    (Transfer.write 0 (headerBytes magic first)).outside = false :=
  decide_eq_false (Nat.not_lt.2 (header_room h first))

theorem saveOn_keepsProfile {sv : Save} {s : State} (e : s.pm.op = .saving sv) : KeepsProfile s (saveOn sv s) := by
  unfold saveOn; split
  · exact beginSection_keepsProfile sv s fun _ _ => ⟨by omega, sectionEnd_zero.ge⟩
  · rename_i index rest next ephase
    split
    · exact writeFront_keepsProfile sv s fun _ pm => pm.save sv index rest next e ephase
    · split
      · rename_i hi
        refine beginSection_keepsProfile sv s fun _ pm => ⟨by omega, ?_⟩
        have := (pm.save sv index rest next e ephase).2
        rw [sectionEnd_succ]; omega
      · refine .of_pm id fun _ _ => ⟨?_, fun t et => by cases et; exact header_inside rfl 9⟩
        intro sv' index' rest' next' e' ep
        cases e'; cases ep
  · exact endSave_keepsProfile sv true s

/-- A save begins with bytes written at once. -/
theorem openSave_keepsProfile (tag : Byte) (n a : Nat) {l : List Byte} (h : a + l.length ≤ Config.memoryBytes) (s : State) :
    KeepsProfile s { s with pm := { s.pm with op := .saving ⟨tag, .spoil, n⟩, memory := writeBytes s.pm.memory a l } } := by
  refine .of_pm (fun hm => wf_writeBytes l hm h) fun _ p => ⟨?_, p.transfer⟩
  intro sv index rest next e ep
  cases e; cases ep

theorem ownProfileSave_keepsProfile (tag : Byte) (s : State) : KeepsProfile s (ownProfileSave tag s).state := by
  unfold ownProfileSave; split
  · exact .refl s
  · exact (startTransfer_keepsProfile (t := .write 0 spoiledHeader) (header_inside rfl 9) _).after
      (openSave_keepsProfile tag 9 0 spoiledHeader_room s)

theorem ownProfileLoad_keepsProfile (tag : Byte) (s : State) : KeepsProfile s (ownProfileLoad tag s).state := by
  unfold ownProfileLoad; split
  · exact .refl s
  · refine (startRead_keepsProfile (by decide) _).after ((setWalk_keepsProfile _ _).after (KeepsImage.profile ?_))
    refine (KeepsImage.of_apart (clearPaths_frame _) (by decide) (clearPaths_apart _)).after ?_
    refine (KeepsImage.of_kept (kd_frame _ _) (by decide) (setContexts_kept _ _).toConfigKept).after ?_
    exact (KeepsImage.of_kept (settleNotices_frame _) (by decide) (settleNotices_kept _)).after
      (.of_frame (ml_frame _ s) (by decide))

/-! ### Transfer events (R197) -/

/-- A write inside the memory leaves it in form. -/
theorem storeWrite_keepsProfile {t : Transfer} (h : t.outside = false) (s : State) : KeepsProfile s (storeWrite t s) := by
  unfold storeWrite; split
  · exact .refl s
  · exact .of_pm (fun hm => wf_writeBytes _ hm (Nat.le_of_not_lt (of_decide_eq_false h))) fun _ p => ⟨p.save, p.transfer⟩

theorem transferDone_keepsProfile {t : Transfer} (h : t.outside = false) (s : State) : KeepsProfile s (transferDone t s) := by
  unfold transferDone; dsimp only
  refine KeepsProfile.trans (t := { s with pm := { s.pm with transfer := none, unacked := 0 } })
    (.of_pm id fun _ p => ⟨p.save, nofun⟩)
    ((storeWrite_keepsProfile h _).trans ?_)
  split
  · exact .refl _
  · exact walkOn_keepsProfile _ _ _
  · exact saveOn_keepsProfile ‹_›

theorem transferFailed_keepsProfile (s : State) : KeepsProfile s (transferFailed s) := by
  unfold transferFailed; split
  · exact .refl s
  · exact walkFailed_keepsProfile _ s
  · exact endSave_keepsProfile _ _ s

theorem addressRetry_keepsProfile (s : State) : KeepsProfile s (addressRetry s) := by
  unfold addressRetry; split
  · exact .refl s
  · split
    · exact .refl s
    · split
      · exact transferFailed_keepsProfile s
      · exact .of_pm id fun _ p => ⟨p.save, p.transfer⟩

theorem writeUnacknowledged_keepsProfile (n : Nat) {t : Transfer} (h : t.outside = false) (s : State) :
    KeepsProfile s (writeUnacknowledged n t s) := by
  unfold writeUnacknowledged; split
  · exact .refl s
  · rename_i a b
    split
    · have hroom : a + b.length ≤ Config.memoryBytes := Nat.le_of_not_lt (of_decide_eq_false h)
      refine (transferFailed_keepsProfile _).after (storeWrite_keepsProfile ?_ s)
      refine decide_eq_false (Nat.not_lt.2 ?_)
      rw [List.length_take]; omega
    · exact .refl s

end Sys2Proof.Machine
end


section
/-! SUPPORT. Every command keeps the memory in form and every transfer in it, and no step stops (O6). -/

namespace Sys2Proof.Machine

/-! ### Components -/

theorem KeepsProfile.of_frame {ps : List Part} {s t : State} (h : OnlyChanges ps s t) (hq : ∀ p ∈ ps, p ∈ tablelessParts) :
    KeepsProfile s t := (KeepsImage.of_frame h hq).profile

theorem KeepsProfile.of_apart {ps : List Part} {s t : State} (h : OnlyChanges ps s t)
    (hq : ∀ p ∈ ps, p ∈ .kd :: .te :: tablelessParts) (k : Apart s t) : KeepsProfile s t := (KeepsImage.of_apart h hq k).profile

theorem KeepsProfile.of_kept {ps : List Part} {s t : State} (h : OnlyChanges ps s t)
    (hq : ∀ p ∈ ps, p ∈ .kd :: .te :: tablelessParts) (k : ConfigKept s t) : KeepsProfile s t := (KeepsImage.of_kept h hq k).profile

/-- Power-on keeps what the memory holds, and every table is empty. -/
theorem powerOn_keepsProfile (straps : Straps) (pending : List Instr) (s : State) :
    KeepsProfile s (State.powerOn straps s.pm.memory pending) where
  memory := by unfold State.powerOn Pm.powerOn; split <;> exact id
  image _ := by
    obtain ⟨rate, skip, unit⟩ := straps
    cases skip
    · exact ⟨⟨rfl, nofun⟩, ⟨rfl, nofun, Nat.zero_le 1024⟩, ⟨rfl, nofun⟩, nofun, ⟨rfl, nofun⟩, nofun, fun t e => by cases e; rfl⟩
    · exact ⟨⟨rfl, nofun⟩, ⟨rfl, nofun, Nat.zero_le 1024⟩, ⟨rfl, nofun⟩, nofun, ⟨rfl, nofun⟩, nofun, nofun⟩

/-! ### Soft reset -/

theorem softReset_keepsProfile (b : Block) (s : State) : KeepsProfile s (softReset b s) := by
  cases b
  case cp => exact setCp_keepsProfile _ s
  case pbc => exact .of_frame (softResetPbc_frame s) (by decide)
  case kd => exact .of_kept (softResetKd_frame s) (by decide) (softResetKd_kept s)
  case rc => exact (softResetRc_keepsImage s).profile
  case mm => exact .of_frame (mm_frame _ s) (by decide)
  case tr => exact .of_apart (followTrReset_frame s) (by decide) (followTrReset_apart s)
  case ld => exact .of_frame (softResetLd_frame s) (by decide)
  case te => exact .of_apart (softResetTe_frame s) (by decide) (softResetTe_apart s)
  case ml => exact .of_apart (te_ml_reports_frame _ _ s.reports s) (by decide) (softResetMl_apart s)
  case tb => exact .refl s
  case pm => exact softResetPm_keepsProfile s

theorem resetBlock_keepsProfile (b : Block) (s : State) : KeepsProfile s (resetBlock b s) := by
  unfold resetBlock
  split
  · exact .refl s
  · split
    · refine (softReset_keepsProfile b s).trans ?_
      generalize softReset b s = t
      dsimp only; split
      · exact (deferredReply_keepsImage _ _ _ _ _).profile.after (setCp_keepsProfile _ t)
      · exact setCp_keepsProfile _ t
    · exact .refl s

/-! ### Requests -/

/-- CP's checks leave everything else as it is, and what passes them goes to its block. -/
theorem takeRequest_keepsProfile (kind tag : Byte) (cls : Class) (body : List Byte) {own : List Byte → State → Answer}
    (hown : ∀ body s, KeepsProfile s (own body s).state) (s : State) : KeepsProfile s (takeRequest kind tag cls body own s) := by
  unfold takeRequest
  split
  · exact .of_frame (discardFrame_frame s) (by decide)
  · dsimp only
    split
    · exact setCp_keepsProfile _ s
    · split
      · exact setCp_keepsProfile _ s
      · split
        · exact setCp_keepsProfile _ s
        · refine KeepsProfile.trans
            (setCp_keepsProfile { s.cp with inFrame := false, outstanding := s.cp.outstanding ++ [⟨tag, kind⟩] } s) ?_
          have hbody := hown body { s with cp := { s.cp with inFrame := false, outstanding := s.cp.outstanding ++ [⟨tag, kind⟩] } }
          split
          · rename_i t e
            rw [e] at hbody
            exact (setCp_keepsProfile _ t).after hbody
          · rename_i e
            rwa [e] at hbody

/-- What a request without fields does. -/
theorem noFields_keepsProfile {own : State → Answer} (h : ∀ s, KeepsProfile s (own s).state) (body : List Byte) (s : State) :
    KeepsProfile s (noFields own body s).state := by
  unfold noFields; split
  · exact h s
  · exact .refl s

theorem finish_keepsProfile {s u t : State} (h : KeepsProfile s u) (e : finish u = .next t) : KeepsProfile s t := by
  cases e; exact (KeepsProfile.of_frame (announce_frame u) (by decide)).after h

theorem request_keepsProfile {k : ReqKind} {c : Class} {own : List Byte → State → Answer} {tag : Byte} {body : List Byte}
    {s t : State}
    (hown : ∀ body s, KeepsProfile s (own body s).state) (e : request k c own tag body s = .next t) : KeepsProfile s t :=
  finish_keepsProfile (takeRequest_keepsProfile _ _ _ _ hown s) e

theorem readRequest_keepsProfile {k : ReqKind} {c : Class} {own : List Byte → State → Answer} {tag : Byte} {body : List Byte}
    {s t : State} (hown : ∀ body s, (own body s).state = s) (e : request k c own tag body s = .next t) : KeepsProfile s t :=
  request_keepsProfile (fun body s => by rw [hown]; exact .refl s) e

theorem withTransfer_keepsProfile {act : Transfer → State → State} {s t : State}
    (h : ∀ x : Transfer, x.outside = false → KeepsProfile s (act x s)) (e : withTransfer act s = .next t) : KeepsProfile s t := by
  unfold withTransfer at e
  split at e
  · exact finish_keepsProfile (.refl s) e
  · split at e
    · cases e
    · exact finish_keepsProfile (h _ (Bool.not_eq_true _ ▸ ‹_›)) e

/-! ### Every command -/

theorem beginNotice_keepsProfile (s : State) : KeepsProfile s (beginNotice s) := by
  unfold beginNotice; dsimp only; split
  · exact setCp_keepsProfile _ s
  · exact .refl s

theorem discardReceived_keepsProfile (s : State) : KeepsProfile s (discardReceived s) := by
  unfold discardReceived; split
  · exact .of_frame (discardFrame_frame s) (by decide)
  · exact .refl s

theorem refuseUnknown_keepsProfile (kind tag : Byte) (body : List Byte) (s : State) :
    KeepsProfile s (refuseUnknown kind tag body s) := by
  unfold refuseUnknown; split
  · exact .of_frame (discardFrame_frame s) (by decide)
  · dsimp only
    repeat' split
    all_goals exact setCp_keepsProfile _ s

theorem mixerFrame_keepsProfile (c : Bool) (x : Mixer) (write : MixerRec → MixerRec) (s : State) :
    KeepsProfile s (if c then takeRecord x write s else badMixerFrame x s) := by
  split
  · exact .of_frame (takeRecord_frame x write s) (by decide)
  · exact .of_frame (badMixerFrame_frame x s) (by decide)

/-- A frame with a field out of range counts as one that is not clean. -/
theorem busFrame_keepsProfile {c : Bool} {u s : State} (h : OnlyChanges busParts s u) :
    KeepsProfile s (if c then u else badPbFrame s) := by
  split
  · exact .of_frame h (by decide)
  · exact .of_frame (badPbFrame_frame s) (by decide)

theorem tickMillis_keepsProfile (s : State) : KeepsProfile s (tickMillis s) :=
  ⟨id, fun h => ⟨h.records, h.salvos, h.dests, h.groups, h.standing, h.save, h.transfer⟩⟩

theorem exec_keepsProfile (i : Instr) {s t : State} (e : exec i s = .next t) : KeepsProfile s t := by
  have other {u : State} (h : KeepsProfile s u) (e : finish u = .next t) : KeepsProfile s t := finish_keepsProfile h e
  have image {u : State} (h : KeepsImage s u) (e : finish u = .next t) : KeepsProfile s t := finish_keepsProfile h.profile e
  have own {k : ReqKind} {c : Class} {f : List Byte → State → Answer} {tag : Byte} {body : List Byte}
      (hf : ∀ body s, KeepsImage s (f body s).state) (e : request k c f tag body s = .next t) : KeepsProfile s t :=
    request_keepsProfile (fun body s => (hf body s).profile) e
  cases i
  case powerOn => exact other (powerOn_keepsProfile _ _ s) e
  case controlFrameDiscard => exact other (discardReceived_keepsProfile s) e
  case controlGapExpiry => exact other (discardReceived_keepsProfile s) e
  case unknownKind => exact other (refuseUnknown_keepsProfile _ _ _ s) e
  case noticeTransmitStart => exact other (beginNotice_keepsProfile s) e
  case setNode => exact own (fun b s => .of_frame (ownSetNode_frame b s) (by decide)) e
  case busEnable => exact own (fun b s => .of_frame (ownBusEnable_frame b s) (by decide)) e
  case busTiming => exact own (fun b s => .of_frame (ownBusTiming_frame b s) (by decide)) e
  case sweepNow => exact request_keepsProfile (noFields_keepsProfile fun s => .of_frame (ownSweepNow_frame s) (by decide)) e
  case forget => exact own (fun b s => .of_frame (ownForget_frame b s) (by decide)) e
  case readRoster => exact readRequest_keepsProfile ownReadRoster_state e
  case setPanel => exact own ownSetPanel_keepsImage e
  case setKey => exact own ownSetKey_keepsImage e
  case keyTiming => exact own ownKeyTiming_keepsImage e
  case readPanel => exact readRequest_keepsProfile ownReadPanel_state e
  case setSource => exact own ownSetSource_keepsImage e
  case setDest => exact own ownSetDest_keepsImage e
  case protect => exact own ownProtectRequest_keepsImage e
  case defineSalvo => exact own ownDefineSalvo_keepsImage e
  case readDest => exact readRequest_keepsProfile ownReadDest_state e
  case take tag _ => exact own (ownTake_keepsImage tag) e
  case takeCancel => exact request_keepsProfile (noFields_keepsProfile fun s => (ownTakeCancel_keepsImage s).profile) e
  case fireSalvo tag _ => exact own (ownFireSalvo_keepsImage tag) e
  case routerTiming => exact own ownRouterTiming_keepsImage e
  case readQueue => exact readRequest_keepsProfile ownReadQueue_state e
  case setMixer => exact own ownSetMixer_keepsImage e
  case readMixer => exact readRequest_keepsProfile ownReadMixer_state e
  case setBinding => exact own (fun b s => .of_frame (ownSetBinding_frame b s) (by decide)) e
  case setPosition => exact own (fun b s => .of_frame (ownSetPosition_frame b s) (by decide)) e
  case call => exact own (fun b s => .of_frame (ownCall_frame b s) (by decide)) e
  case readTally => exact readRequest_keepsProfile ownReadTally_state e
  case setHouse => exact own (fun b s => .of_frame (ownSetHouse_frame b s) (by decide)) e
  case setLamp => exact own (fun b s => .of_frame (ownSetLamp_frame b s) (by decide)) e
  case lampTiming => exact own (fun b s => .of_frame (ownLampTiming_frame b s) (by decide)) e
  case setPort => exact own ownSetPort_keepsImage e
  case setGroup => exact own ownSetGroup_keepsImage e
  case addStanding => exact own ownAddStanding_keepsImage e
  case dropStanding => exact own ownDropStanding_keepsImage e
  case readPaths => exact readRequest_keepsProfile ownReadPaths_state e
  case gainTiming => exact own ownGainTiming_keepsImage e
  case readMatrix => exact request_keepsProfile (noFields_keepsProfile (own := ownReadMatrix) .refl) e
  case status => exact request_keepsProfile (noFields_keepsProfile (own := ownStatus) .refl) e
  case identify => exact request_keepsProfile (noFields_keepsProfile (own := ownIdentify) .refl) e
  case setMask =>
    exact request_keepsProfile (fun body s => by
      unfold ownSetMask; split
      · exact .refl s
      · exact setCp_keepsProfile _ s) e
  case clearFlags =>
    exact request_keepsProfile (fun body s => by
      unfold ownClearFlags; split
      · exact .refl s
      · exact setCp_keepsProfile _ s) e
  case reset tag _ => exact request_keepsProfile (noFields_keepsProfile (own := ownReset tag) fun s => setCp_keepsProfile _ s) e
  case blockSoftReset b => exact other (resetBlock_keepsProfile b s) e
  case profileSave tag _ => exact request_keepsProfile (noFields_keepsProfile (ownProfileSave_keepsProfile tag)) e
  case profileLoad tag _ => exact request_keepsProfile (noFields_keepsProfile (ownProfileLoad_keepsProfile tag)) e
  case pbBadFrame => exact other (.of_frame (badPbFrame_frame s) (by decide)) e
  case pbGapExpiry => exact other (.of_frame (badPbFrame_frame s) (by decide)) e
  case activity c => exact other (.of_frame (hearActivity_frame c s) (by decide)) e
  case pbFrameSent => exact other (.of_frame (pbFrameSent_frame s) (by decide)) e
  case passReceived => exact other (busFrame_keepsProfile (hearPass_frame _ s)) e
  case askReceived => exact other (busFrame_keepsProfile (hearAsk_frame _ _ s)) e
  case cargoReceived => exact other (busFrame_keepsProfile (hearCargo_frame _ _ _ _ s)) e
  case roomReceived => exact other (busFrame_keepsProfile (hearRoom_frame _ _ s)) e
  case noroomReceived => exact other (busFrame_keepsProfile (hearNoroom_frame _ _ s)) e
  case gotReceived => exact other (busFrame_keepsProfile (hearGot_frame _ _ s)) e
  case hereReceived => exact other (busFrame_keepsProfile (hearHere_frame _ _ _ _ s)) e
  case probeWindowClose => exact other (.of_frame (closeProbe_frame s) (by decide)) e
  case askWindowClose => exact other (.of_frame (closeAsk_frame s) (by decide)) e
  case cargoWindowClose => exact other (.of_frame (closeCargo_frame s) (by decide)) e
  case passWindowClose => exact other (.of_frame (closePass_frame s) (by decide)) e
  case reservationLapse => exact other (.of_frame (lapseRoom_frame s) (by decide)) e
  case checkingExpiry => exact other (.of_frame (endChecking_frame s) (by decide)) e
  case silenceExpiry => exact other (.of_frame (endSilence_frame s) (by decide)) e
  case censusIntervalExpiry => exact other (.of_frame (endCensusInterval_frame s) (by decide)) e
  case absenceExpiry n => exact other (.of_frame (endAbsence_frame n s) (by decide)) e
  case kdDeparture n => exact other (.of_kept (takeDeparture_frame n s) (by decide) (takeDeparture_kept n s)) e
  case kdJoin n => exact other (.of_kept (takeJoin_frame n s) (by decide) (takeJoin_kept n s)) e
  case rcRelease n => exact image (takeRelease_keepsImage n s) e
  case dispatch => exact image (dispatchOldest_keepsImage s) e
  case tapWindowExpiry n k => exact other (.of_kept (endTapWindow_frame n k s) (by decide) (endTapWindow_kept n k s).toConfigKept) e
  case latchLimitExpiry n k =>
    exact other (.of_kept (endLatchLimit_frame n k s) (by decide) (endLatchLimit_kept n k s).toConfigKept) e
  case refusalIndicationExpiry n k =>
    exact other (.of_kept (endRefusal_frame n k s) (by decide) (endRefusal_kept n k s).toConfigKept) e
  case kdTakeOutcome => exact other (.of_kept (takeOutcome_frame s) (by decide) (takeOutcome_kept s).toConfigKept) e
  case kdFireCompletion => exact other (.of_kept (takeFire_frame s) (by decide) (takeFire_kept s).toConfigKept) e
  case kdImageReport r => exact other (.of_kept (takeReportOf_frame r s) (by decide) (takeReportOf_kept r s).toConfigKept) e
  case routerBadFrame => exact image (badRouterFrame_keepsImage s) e
  case routerGapExpiry => exact image (badRouterFrame_keepsImage s) e
  case routerFrameSent => exact image (routerFrameSent_keepsImage s) e
  case xdone => exact image (takeXdone_keepsImage _ _ s) e
  case xfail => exact image (takeXfail_keepsImage _ _ s) e
  case xstate => exact image (takeXstate_keepsImage _ _ s) e
  case xmoved => exact image (takeXmoved_keepsImage _ _ s) e
  case takeReplyTimerExpiry => exact image (expireTake_keepsImage _ s) e
  case queryReplyTimerExpiry => exact image (expireQuery_keepsImage _ s) e
  case routerProbeTimer => exact image (sendProbe_keepsImage s) e
  case mixerBadFrame x => exact other (.of_frame (badMixerFrame_frame x s) (by decide)) e
  case mixerGapExpiry x => exact other (.of_frame (badMixerFrame_frame x s) (by decide)) e
  case busRecord => exact other (mixerFrame_keepsProfile _ _ _ s) e
  case transRecord => exact other (mixerFrame_keepsProfile _ _ _ s) e
  case keyerRecord => exact other (mixerFrame_keepsProfile _ _ _ s) e
  case aliveRecord => exact other (.of_frame (takeRecord_frame _ _ s) (by decide)) e
  case staleExpiry x => exact other (.of_frame (expireStale_frame x s) (by decide)) e
  case withdrawExpiry x => exact other (.of_frame (expireWithdraw_frame x s) (by decide)) e
  case trRecomputation r => exact other (.of_frame (takeTallyReport_frame r s) (by decide)) e
  case hostCallExpiry p => exact other (.of_frame (expireHostCall_frame p s) (by decide)) e
  case ldRelight => exact other (.of_frame (takeRelight_frame s) (by decide)) e
  case ldCallStart p => exact other (.of_frame (takeCallReport_frame p _ s) (by decide)) e
  case ldCallEnd p => exact other (.of_frame (takeCallReport_frame p _ s) (by decide)) e
  case lampTick => exact other (.of_frame (lampTick_frame s) (by decide)) e
  case phaseExpiry p => exact other (.of_frame (expirePhase_frame p s) (by decide)) e
  case teLiveSetReport => exact other (.of_apart (takeLiveReport_frame s) (by decide) (takeLiveReport_apart s)) e
  case teGuardReport => exact other (.of_apart (takeGuardReport_frame s) (by decide) (takeGuardReport_apart s)) e
  case teRemovalReport => exact other (.of_apart (takeRemoval_frame s) (by decide) (takeRemoval_apart s)) e
  case gainTick => exact image (gainTick_keepsImage s) e
  case matrixBadFrame => exact other (.of_frame (ml_frame _ s) (by decide)) e
  case matrixGapExpiry => exact other (.of_frame (ml_frame _ s) (by decide)) e
  case matrixFrameSent => exact other (.of_frame (matrixFrameSent_frame s) (by decide)) e
  case gainOk l t' =>
    refine other ?_ e
    split
    · exact .of_apart (takeGainOk_frame _ _ s) (by decide) (takeGainOk_apart _ _ s)
    · exact .of_frame (ml_frame _ s) (by decide)
  case gainReplyExpiry => exact other (.of_apart (expireGain_frame _ _ s) (by decide) (expireGain_apart _ _ s)) e
  case pingTimer => exact other (.of_frame (sendPing_frame s) (by decide)) e
  case pong => exact other (.of_frame (takePong_frame s) (by decide)) e
  case muteAllOk => exact other (.of_apart (takeMuteAllOk_frame s) (by decide) (takeMuteAllOk_apart s)) e
  case muteAllExpiry => exact other (.of_apart (expireMuteAll_frame s) (by decide) (expireMuteAll_apart s)) e
  case profileTransferDone => exact withTransfer_keepsProfile (fun x hx => transferDone_keepsProfile hx s) e
  case profileAddressRetry => exact other (addressRetry_keepsProfile s) e
  case profileEntryApply => exact other (applyNextEntry_keepsProfile s) e
  case millisecondCountTick => exact other (tickMillis_keepsProfile s) e
  case syncFoundWhileHunting => exact other (setCp_keepsProfile _ s) e
  case writeByteNotAcknowledged n => exact withTransfer_keepsProfile (fun x hx => writeUnacknowledged_keepsProfile n hx s) e

/-! ### The step -/

theorem idle_keepsProfile (s : State) : KeepsProfile s (idle s) := by
  unfold idle; split
  · exact setCp_keepsProfile _ s
  · exact .refl s

theorem step_keepsProfile {s t : State} (e : step s = .next t) : KeepsProfile s t := by
  unfold step at e
  split at e
  · cases e; exact idle_keepsProfile s
  · rename_i c rest _
    have hrest : KeepsProfile s { s with pending := rest } :=
      ⟨id, fun h => ⟨h.records, h.salvos, h.dests, h.groups, h.standing, h.save, h.transfer⟩⟩
    exact hrest.trans (exec_keepsProfile c e)

/-- A transfer inside the memory does not stop. -/
theorem withTransfer_runs {s : State} (h : ∀ x, s.pm.transfer = some x → x.outside = false) (act : Transfer → State → State) :
    ∃ t, withTransfer act s = .next t := by
  unfold withTransfer
  split
  · exact ⟨_, rfl⟩
  · rename_i x e
    rw [if_neg (by rw [h x e]; exact Bool.false_ne_true)]
    exact ⟨_, rfl⟩

/-- A command stops only at a transfer past the memory. -/
theorem exec_runs (i : Instr) {s : State} (h : ∀ x, s.pm.transfer = some x → x.outside = false) : ∃ t, exec i s = .next t := by
  cases i
  case profileTransferDone => exact withTransfer_runs h _
  case writeByteNotAcknowledged => exact withTransfer_runs h _
  all_goals exact ⟨_, rfl⟩

theorem step_runs {s : State} (h : ∀ x, s.pm.transfer = some x → x.outside = false) : Runs s := by
  unfold Runs step
  split
  · exact ⟨_, rfl⟩
  · exact exec_runs _ h

end Sys2Proof.Machine

namespace Sys2Proof.Machine

/-- Settles O6: every effect leaves PM and keeps the image's tables, or moves PM along inside the memory, the sections of a save
being no longer than the tables allow. -/
theorem profileMemoryFormKept : Obligations.ProfileMemoryFormKept :=
  ⟨fun _ _ h e => (step_keepsProfile e).memory h, fun _ _ h e => (step_keepsProfile e).image h, fun _ h => step_runs h.transfer⟩

end Sys2Proof.Machine
end


section
/-! SUPPORT. RC's take queue: the tests of a take, and the place an entry takes (O34, O39). -/

namespace Sys2Proof.Machine

/-! ### The first item of a list (R80) -/

section
variable {α : Type} {p : α → Bool}

theorem takeFirst_none {l : List α} (h : ∀ x ∈ l, p x = false) : takeFirst p l = none := by
  induction l with
  | nil => rfl
  | cons a l ih =>
    have ha : ¬ p a = true := by rw [h a (.head _)]; exact Bool.false_ne_true
    rw [takeFirst, if_neg ha, ih fun x hx => h x (.tail _ hx)]; rfl

theorem takeFirst_split {front rest : List α} {e : α} (h : ∀ y ∈ front, p y = false) (he : p e = true) :
    takeFirst p (front ++ e :: rest) = some (e, front ++ rest) := by
  induction front with
  | nil => exact if_pos he
  | cons a l ih =>
    have ha : ¬ p a = true := by rw [h a (.head _)]; exact Bool.false_ne_true
    rw [List.cons_append, takeFirst, if_neg ha, ih fun x hx => h x (.tail _ hx)]; rfl

theorem replaceFirst_split {front rest : List α} {e : α} (f : α → α) (h : ∀ y ∈ front, p y = false) (he : p e = true) :
    replaceFirst p f (front ++ e :: rest) = front ++ f e :: rest := by
  induction front with
  | nil => exact if_pos he
  | cons a l ih =>
    have ha : ¬ p a = true := by rw [h a (.head _)]; exact Bool.false_ne_true
    rw [List.cons_append, replaceFirst, if_neg ha, ih fun x hx => h x (.tail _ hx)]; rfl

end

/-! ### The tests of a take (R72) -/

section
variable {s : State} {d : Nat}

theorem waitingFor_false (h : ∀ e ∈ s.rc.queue, (e.dest == d && e.isWaiting) = false) : s.rc.waitingFor d = false :=
  List.any_eq_false.2 fun e he => by rw [h e he]; exact Bool.false_ne_true

theorem waitingFor_true {front rest : List TakeEntry} {e : TakeEntry} (hq : s.rc.queue = front ++ e :: rest)
    (he : (e.dest == d && e.isWaiting) = true) : s.rc.waitingFor d = true :=
  List.any_eq_true.2 ⟨e, by rw [hq]; simp, he⟩

theorem takeTest_eq_none {rc : Rc} {who : Option Nat} : takeTest rc d who = none ↔
    holdsAgainst (rc.dest d).protect who = none ∧ rc.down = false ∧ (rc.waitingFor d = true ∨ rc.queue.length < 32) := by
  unfold takeTest
  cases holdsAgainst (rc.dest d).protect who with
  | some o => simp
  | none =>
    have hmax : Config.queueMax = 32 := rfl
    cases rc.down <;> cases rc.waitingFor d <;> simp [hmax]

/-! ### The place an entry takes (R80) -/

theorem enqueue_appended (src : Nat) (r : Requester) (h : ∀ e ∈ s.rc.queue, (e.dest == d && e.isWaiting) = false) :
    enqueue d src r s = fillWindow (reportKd [.takes d r.panels]
      { s with rc := { s.rc with queue := s.rc.queue ++ [⟨d, src, r, .waiting⟩] } }) := by
  unfold enqueue; rw [takeFirst_none h]

theorem enqueue_replaced (src : Nat) (r : Requester) {front rest : List TakeEntry} {e : TakeEntry}
    (hq : s.rc.queue = front ++ e :: rest) (h : ∀ y ∈ front, (y.dest == d && y.isWaiting) = false)
    (he : (e.dest == d && e.isWaiting) = true) :
    enqueue d src r s = fillWindow (deliver e.requester .superseded [] [.takes d (e.requester.panels ++ r.panels)]
      { s with rc := { s.rc with queue := front ++ { e with source := src, requester := r } :: rest } }) := by
  unfold enqueue; rw [hq, takeFirst_split h he, replaceFirst_split _ h he]

/-! ### A take a key asks for (R44, R45) -/

variable {n k x : Nat}

theorem askTake_unset {dest src : Option Nat} (h : dest = none ∨ src = none) : askTake n k dest src s = refuseKey n k s := by
  rcases h with rfl | rfl
  · rfl
  · cases dest <;> rfl

theorem askTake_refused (h : takeTest s.rc d (some n) ≠ none) : askTake n k (some d) (some x) s = refuseKey n k s := by
  obtain ⟨c, hc⟩ := Option.ne_none_iff_exists'.1 h
  unfold askTake; dsimp only; rw [hc]

theorem askTake_entered (h : takeTest s.rc d (some n) = none) :
    askTake n k (some d) (some x) s = enqueue d x (.party (.panel n k)) s := by
  unfold askTake; dsimp only; rw [h]

end

end Sys2Proof.Machine
end


section
/-! SUPPORT. The router-panel state of a panel and the images that follow it (O34). -/

namespace Sys2Proof.Machine

theorem tfind_eq_none {α : Type} {t : Tab α} {i : Nat} (h : tfind t i = none) : ∀ kv ∈ t, kv.1 ≠ i := by
  induction t with
  | nil => exact nofun
  | cons kv t ih =>
    obtain ⟨k, v⟩ := kv
    rw [tfind] at h
    split at h
    · cases h
    · next hk =>
      intro kv hkv
      rcases List.mem_cons.1 hkv with rfl | hkv
      · exact fun e => hk e.symm
      · exact ih h kv hkv

theorem mem_keys_of_tfind {α : Type} {t : Tab α} {i : Nat} {v : α} (h : tfind t i = some v) : i ∈ t.map (·.1) :=
  List.mem_map.2 ⟨(i, v), mem_of_tfind h, rfl⟩

theorem tmodify_unlisted {α : Type} {t : Tab α} {i : Nat} (h : tfind t i = none) (f : α → α) : tmodify t i f = t := by
  unfold tmodify
  refine (List.map_congr_left fun kv hkv => ?_).trans (List.map_id t)
  exact if_neg (tfind_eq_none h kv hkv)

/-- The contexts after a change of one key's live state. -/
theorem tfind_setKeyCtx (n k : Nat) (f : KeyCtx → KeyCtx) (s : State) (m : Nat) : tfind (setKeyCtx n k f s).kd.contexts m =
    if m = n then (tfind s.kd.contexts m).map fun c => { c with keys := tmodify c.keys k f } else tfind s.kd.contexts m :=
  tfind_tmodify s.kd.contexts n m fun c => { c with keys := tmodify c.keys k f }

/-- What `t` has made of `s` when the images of the keys in `done` are composed on a panel with the context `c`. -/
structure Recomposed (n : Nat) (c : Context) (s : State) (done : List Nat) (t : State) : Prop where
  same : t = withPanels t.kd.contexts t.pbc.roster s
  others : ∀ m, m ≠ n → tfind t.kd.contexts m = tfind s.kd.contexts m
  context : ∃ c', tfind t.kd.contexts n = some c' ∧ c'.dest = c.dest ∧ c'.preset = c.preset
    ∧ ∀ k, tfind c'.keys k = (tfind c.keys k).map fun x => { x with image := if k ∈ done then composeImage s n k c x else x.image }

section
variable {n : Nat} {c : Context} {s t : State} {done : List Nat}

/-- An image depends on none of what a recomposition changes. -/
theorem composeImage_withPanels (contexts : Tab Context) (roster : Tab RosterEntry) (s : State) (n k : Nat) {c c' : Context}
    (hd : c'.dest = c.dest) (hp : c'.preset = c.preset) (x : KeyCtx) (i : Image) :
    composeImage (withPanels contexts roster s) n k c' { x with image := i } = composeImage s n k c x := by
  unfold composeImage; rw [hd, hp]; rfl

theorem Recomposed.start (h : tfind s.kd.contexts n = some c) : Recomposed n c s [] s :=
  ⟨rfl, fun _ _ => rfl, c, h, rfl, rfl, fun k => by simp⟩

theorem Recomposed.refresh (h : Recomposed n c s done t) (k : Nat) : Recomposed n c s (done ++ [k]) (refreshKey t n k) := by
  obtain ⟨c', hc', hd, hp, hkeys⟩ := h.context
  have hk := hkeys k
  cases e : tfind c.keys k with
  | none =>
    rw [e] at hk
    have hstay : refreshKey t n k = t := by unfold refreshKey; simp only [hc', hk, Option.map_none]
    rw [hstay]
    refine ⟨h.same, h.others, c', hc', hd, hp, fun j => ?_⟩
    rw [hkeys j]
    by_cases hj : j = k
    · subst hj; rw [e]; rfl
    · simp [hj]
  | some x =>
    generalize hshown : (if k ∈ done then composeImage s n k c x else x.image) = shown at hk
    replace hk : tfind c'.keys k = some { x with image := shown } := by rw [hk, e, Option.map_some, hshown]
    have hi : composeImage t n k c' { x with image := shown } = composeImage s n k c x := by
      rw [h.same]; exact composeImage_withPanels _ _ s n k hd hp x _
    rw [refreshKey_eq hc' hk, hi]
    split
    · next hsame =>
      refine ⟨h.same, h.others, c', hc', hd, hp, fun j => ?_⟩
      rw [hkeys j]
      by_cases hj : j = k
      · subst hj hsame
        rw [e]; simp only [Option.map_some, hshown, List.mem_append, List.mem_singleton, or_true, if_true]
      · simp [hj]
    · have hrecolour := tfind_setKeyCtx n k (fun y => { y with image := composeImage s n k c x }) t
      refine ⟨?_, fun m hm => ?_, { c' with keys := tmodify c'.keys k fun y => { y with image := composeImage s n k c x } },
        ?_, hd, hp, fun j => ?_⟩
      · rw [h.same]; rfl
      · exact ((hrecolour m).trans (if_neg hm)).trans (h.others m hm)
      · exact ((hrecolour n).trans (if_pos rfl)).trans (by rw [hc']; rfl)
      · dsimp only
        rw [tfind_tmodify, hkeys j]
        by_cases hj : j = k
        · subst hj; rw [e]; simp
        · simp [hj]

theorem Recomposed.refreshAll (h : Recomposed n c s done t) (l : List Nat) :
    Recomposed n c s (done ++ l) (l.foldl (fun t k => refreshKey t n k) t) := by
  induction l generalizing done t with
  | nil => simpa using h
  | cons k l ih => simpa using ih (h.refresh k)

/-- What the images of a panel's keys become when those of some kinds are recomputed (R52). -/
theorem refreshPanel_recomposed {q : KeyEntry → Bool} (h : tfind s.kd.contexts n = some c) :
    Recomposed n c s ((c.keys.map (·.1)).filter fun k => q (s.kd.entry n k)) (refreshPanel q n s) := by
  rw [refreshPanel_context h]
  exact (Recomposed.start h).refreshAll _

theorem Recomposed.kd (h : Recomposed n c s done t) : t.kd = { s.kd with contexts := t.kd.contexts } := congrArg State.kd h.same

end

/-- The router-panel state of a panel, its images not yet recomputed. -/
def withRouterPanel (n : Nat) (dest preset : Option Nat) (s : State) : State :=
  { s with kd := { s.kd with contexts := tmodify s.kd.contexts n fun c => { c with dest := dest, preset := preset } } }

theorem tfind_withRouterPanel (n : Nat) (dest preset : Option Nat) (s : State) (m : Nat) :
    tfind (withRouterPanel n dest preset s).kd.contexts m =
      if m = n then (tfind s.kd.contexts m).map fun c => { c with dest := dest, preset := preset } else tfind s.kd.contexts m :=
  tfind_tmodify s.kd.contexts n m fun c => { c with dest := dest, preset := preset }

section
variable {n : Nat} {s : State}

theorem setRouterPanel_eq (n : Nat) (dest preset : Option Nat) (s : State) :
    setRouterPanel n dest preset s = refreshPanel routerKey n (withRouterPanel n dest preset s) := rfl

theorem setRouterPanel_unlisted (dest preset : Option Nat) (h : tfind s.kd.contexts n = none) :
    setRouterPanel n dest preset s = s := by
  have hstay : withRouterPanel n dest preset s = s := by unfold withRouterPanel; rw [tmodify_unlisted h]
  rw [setRouterPanel_eq, hstay, refreshPanel_none h]

theorem setRouterPanel_recomposed (dest preset : Option Nat) {c : Context} (h : tfind s.kd.contexts n = some c) :
    Recomposed n { c with dest := dest, preset := preset } (withRouterPanel n dest preset s)
      ((c.keys.map (·.1)).filter fun k => routerKey (s.kd.entry n k)) (setRouterPanel n dest preset s) :=
  refreshPanel_recomposed ((tfind_withRouterPanel ..).trans (by rw [if_pos rfl, h]; rfl))

/-- R43: what the router-panel state of a panel leaves, and the images that follow it. -/
theorem setRouterPanel_leaves (n : Nat) (dest preset : Option Nat) (s : State) :
    let t := setRouterPanel n dest preset s
    OnlyChanges [.pbc, .kd] s t ∧ t.kd = { s.kd with contexts := t.kd.contexts }
    ∧ (∀ m, m ≠ n → tfind t.kd.contexts m = tfind s.kd.contexts m)
    ∧ (tfind s.kd.contexts n = none → t = s)
    ∧ (∀ c, tfind s.kd.contexts n = some c → ∃ c', tfind t.kd.contexts n = some c' ∧ c'.dest = dest ∧ c'.preset = preset
        ∧ ∀ k x, tfind c.keys k = some x → ∃ i, tfind c'.keys k = some { x with image := i }
            ∧ i = (if routerKey (s.kd.entry n k) then composeImage t n k c' x else x.image)) := by
  have hframe := setRouterPanel_frame n dest preset s
  cases hc : tfind s.kd.contexts n with
  | none =>
    rw [setRouterPanel_unlisted dest preset hc]
    exact ⟨.refl _ s, rfl, fun _ _ => rfl, fun _ => rfl, nofun⟩
  | some c =>
    have h := setRouterPanel_recomposed dest preset hc
    have hkd : (setRouterPanel n dest preset s).kd = { s.kd with contexts := (setRouterPanel n dest preset s).kd.contexts } := h.kd
    refine ⟨hframe, hkd, fun m hm => ?_, nofun, ?_⟩
    · exact (h.others m hm).trans ((tfind_withRouterPanel ..).trans (if_neg hm))
    · rintro _ ⟨⟩
      obtain ⟨c', hc', hd, hp, hkeys⟩ := h.context
      refine ⟨c', hc', hd, hp, fun k x hx => ⟨_, (hkeys k).trans (by rw [hx]; rfl), ?_⟩⟩
      have hcompose : composeImage (setRouterPanel n dest preset s) n k c' x =
          composeImage (withRouterPanel n dest preset s) n k { c with dest := dest, preset := preset } x := by
        rw [h.same]; exact composeImage_withPanels _ _ _ n k hd hp x x.image
      have hmem : k ∈ ((c.keys.map (·.1)).filter fun k => routerKey (s.kd.entry n k)) ↔ routerKey (s.kd.entry n k) = true := by
        rw [List.mem_filter]; exact and_iff_right (mem_keys_of_tfind hx)
      rw [hcompose]
      simp only [hmem]

end

end Sys2Proof.Machine
end


section
/-! SUPPORT. What one key transition does, by the kind of the key's entry (O34). -/

namespace Sys2Proof.Machine

section
variable {n k : Nat} {press : Bool} {r : PanelRec} {c : Context} {x : KeyCtx} {st : KeyState} {s u : State}

/-! ### Which transitions are acted on (R36) -/

/-- A transition that KD ignores is counted. -/
def ignoreTransition (s : State) : State := { s with kd := { s.kd with unassigned := bump s.kd.unassigned } }

theorem takeTransition_unrecorded (h : tfind s.kd.records n = none) : takeTransition n s (k, press) = ignoreTransition s := by
  unfold takeTransition; simp only [h]; rfl

theorem takeTransition_beyond (h : rosterKeys s.pbc n ≤ k) : takeTransition n s (k, press) = ignoreTransition s := by
  unfold takeTransition; dsimp only
  split
  · rfl
  · rw [if_pos h]; rfl

theorem takeTransition_keyless (h : s.kd.key n k = none) : takeTransition n s (k, press) = ignoreTransition s := by
  unfold takeTransition; dsimp only
  split
  · rfl
  · split
    · rfl
    · split
      · rfl
      · next hc =>
        have hx := h
        simp only [Kd.key, hc, Option.bind_some] at hx
        rw [hx]; rfl

theorem takeTransition_same (hr : tfind s.kd.records n = some r) (hk : k < rosterKeys s.pbc n) (hc : tfind s.kd.contexts n = some c)
    (hx : tfind c.keys k = some x) (hp : x.pressed = press) :
    takeTransition n s (k, press) = { s with kd := { s.kd with duplicate := bump s.kd.duplicate } } := by
  unfold takeTransition; simp only [hr, hc, hx, if_neg (Nat.not_le.2 hk), if_pos hp]

theorem takeTransition_acts (hr : tfind s.kd.records n = some r) (hk : k < rosterKeys s.pbc n) (hc : tfind s.kd.contexts n = some c)
    (hx : tfind c.keys k = some x) (hp : x.pressed ≠ press) :
    takeTransition n s (k, press) =
      refreshKey (keyAct n k press r c x.state (setKeyCtx n k (fun y => { y with pressed := press }) s)) n k := by
  unfold takeTransition; simp only [hr, hc, hx, if_neg (Nat.not_le.2 hk), if_neg hp]

/-! ### TALK keys (R37 to R39) -/

variable {target : KeyTarget} {mode : TalkMode} {lw : Bool} {level : Int} {limit : Nat} {dst : KeyState}

theorem talkMove_activate (h : (mode, st, press, dst) ∈
    [(TalkMode.momentary, KeyState.idle, true, KeyState.held), (.latch, .idle, true, .latched), (.auto, .idle, true, .timing)]) :
    talkMove mode st press = .activate dst := by
  simp only [List.mem_cons, Prod.mk.injEq, List.not_mem_nil, or_false] at h
  rcases h with ⟨rfl, rfl, rfl, rfl⟩ | ⟨rfl, rfl, rfl, rfl⟩ | ⟨rfl, rfl, rfl, rfl⟩ <;> rfl

theorem talkMove_go (h : (mode, st, press, dst) ∈
    [(TalkMode.latch, KeyState.latched, true, KeyState.unlatching), (.auto, .timing, false, .latched),
      (.auto, .latched, true, .unlatching)]) : talkMove mode st press = .go dst := by
  simp only [List.mem_cons, Prod.mk.injEq, List.not_mem_nil, or_false] at h
  rcases h with ⟨rfl, rfl, rfl, rfl⟩ | ⟨rfl, rfl, rfl, rfl⟩ | ⟨rfl, rfl, rfl, rfl⟩ <;> rfl

theorem talkMove_deactivate (h : (mode, st, press) ∈
    [(TalkMode.momentary, KeyState.held, false), (.latch, .unlatching, false), (.auto, .held, false),
      (.auto, .unlatching, false)]) :
    talkMove mode st press = .deactivate := by
  simp only [List.mem_cons, Prod.mk.injEq, List.not_mem_nil, or_false] at h
  rcases h with ⟨rfl, rfl, rfl⟩ | ⟨rfl, rfl, rfl⟩ | ⟨rfl, rfl, rfl⟩ | ⟨rfl, rfl, rfl⟩ <;> rfl

theorem talkMove_stay (h : (mode, st, press) ∉
    [(TalkMode.momentary, KeyState.idle, true), (.latch, .idle, true), (.auto, .idle, true), (.latch, .latched, true),
      (.auto, .timing, false), (.auto, .latched, true), (.momentary, .held, false), (.latch, .unlatching, false),
      (.auto, .held, false), (.auto, .unlatching, false)]) : talkMove mode st press = .stay := by
  unfold talkMove
  split
  case h_11 => rfl
  all_goals exact absurd (by simp) h

/-! ### What the entry of a key does (R37 to R48) -/

theorem keyAct_unassigned (he : tget KeyEntry.none r.keys k = .none) : keyAct n k press r c st u = ignoreTransition u := by
  unfold keyAct; rw [he]; rfl

section
variable (he : tget KeyEntry.none r.keys k = .talk target mode lw level limit)
include he

theorem keyAct_talk_activate (hm : talkMove mode st press = .activate dst) :
    keyAct n k press r c st u = activateKey n k dst limit (tget KeyEntry.none r.keys k) target u := by
  unfold keyAct; rw [he]; simp only [hm]

theorem keyAct_talk_go (hm : talkMove mode st press = .go dst) :
    keyAct n k press r c st u = setKeyCtx n k (enterState dst limit u) u := by
  unfold keyAct; rw [he]; simp only [hm]

theorem keyAct_talk_deactivate (hm : talkMove mode st press = .deactivate) :
    keyAct n k press r c st u = deactivateKey n k u := by
  unfold keyAct; rw [he]; simp only [hm]

theorem keyAct_talk_stay (hm : talkMove mode st press = .stay) : keyAct n k press r c st u = u := by
  unfold keyAct; rw [he]; simp only [hm]

end

theorem keyAct_listen (he : tget KeyEntry.none r.keys k = .listen target level) : keyAct n k press r c st u =
    if press = false then u
    else if st = .idle then activateKey n k .active 0 (tget KeyEntry.none r.keys k) target u
    else deactivateKey n k u := by
  unfold keyAct; rw [he]; cases press <;> rfl

theorem keyAct_call {p : Nat} (he : tget KeyEntry.none r.keys k = .call p) : keyAct n k press r c st u =
    if press = true then
      if st = .idle then addKeyCall p n k (setKeyCtx n k (fun y => { y with state := .held }) u) else u
    else if st = .held then deactivateKey n k u
    else u := by
  unfold keyAct; rw [he]

/-- A release of a SOURCE, DEST, TAKE, PROTECT or SALVO key does nothing. -/
theorem keyAct_release (he : tget KeyEntry.none r.keys k = .take ∨ tget KeyEntry.none r.keys k = .protect
    ∨ (∃ d, tget KeyEntry.none r.keys k = .dest d) ∨ (∃ d, tget KeyEntry.none r.keys k = .source d)
    ∨ ∃ i, tget KeyEntry.none r.keys k = .salvo i) : keyAct n k false r c st u = u := by
  unfold keyAct
  rcases he with he | he | ⟨d, he⟩ | ⟨d, he⟩ | ⟨i, he⟩ <;> rw [he] <;> rfl

theorem keyAct_dest {d : Nat} (he : tget KeyEntry.none r.keys k = .dest d) :
    keyAct n k true r c st u = setRouterPanel n (some d) none u := by
  unfold keyAct; rw [he]; rfl

theorem keyAct_source {i : Nat} (he : tget KeyEntry.none r.keys k = .source i) : keyAct n k true r c st u =
    if r.mode = .direct then askTake n k c.dest (some i) (setRouterPanel n c.dest (some i) u)
    else setRouterPanel n c.dest (some i) u := by
  unfold keyAct; rw [he]; rfl

theorem keyAct_take (he : tget KeyEntry.none r.keys k = .take) : keyAct n k true r c st u = askTake n k c.dest c.preset u := by
  unfold keyAct; rw [he]; rfl

theorem keyAct_protect (he : tget KeyEntry.none r.keys k = .protect) : keyAct n k true r c st u =
    match c.dest with
    | none => refuseKey n k u
    | some d => if (toggleProtect d n u).2 then refuseKey n k (toggleProtect d n u).1 else (toggleProtect d n u).1 := by
  unfold keyAct; rw [he]; rfl

theorem keyAct_salvo {i : Nat} (he : tget KeyEntry.none r.keys k = .salvo i) : keyAct n k true r c st u =
    if (fireTest u.rc i (some n)).isSome then refuseKey n k u else startFire i (.panel n k) u := by
  unfold keyAct; rw [he]; rfl

end

end Sys2Proof.Machine

namespace Sys2Proof.Machine

/-- Settles O34, by the kind of the key's entry, by the tests of a take in their order, and by what a recomputation leaves. -/
theorem transitionsByEntry : Obligations.TransitionsByEntry := by
  refine ⟨fun n k press r c x s => ⟨fun h => ?_, fun h => ?_, fun h => ?_, fun hr hk hc hx => ⟨fun hp => ?_, fun hp => ?_⟩⟩,
    fun n k d x dest src s => ⟨askTake_unset, ?_⟩, fun n dest preset s => ?_⟩
  · rw [← bump_eq]; exact takeTransition_unrecorded h
  · rw [← bump_eq]; exact takeTransition_beyond h
  · rw [← bump_eq]; exact takeTransition_keyless h
  · rw [← bump_eq]; exact takeTransition_same hr hk hc hx hp
  · intro u ends e
    have acts {t : State} (h : keyAct n k press r c x.state u = t) : ends t := by
      rw [← h]; exact takeTransition_acts hr hk hc hx hp
    refine ⟨fun he => acts ?_, fun target mode lw level limit he => ⟨fun dst h => acts ?_, fun dst h => acts ?_, fun h => acts ?_,
      fun h => acts ?_⟩, fun target level he => ⟨fun hpress hs => acts ?_, fun hpress hs => acts ?_, fun hpress => acts ?_⟩,
      fun p he => ⟨fun hpress hs => acts ?_, fun hpress hs => acts ?_, fun hpress hs => acts ?_, fun hpress hs => acts ?_⟩,
      fun hpress he => acts ?_, fun hpress => ⟨fun d he => acts ?_, fun i he => acts ?_, fun he => acts ?_, fun he => acts ?_,
      fun i he => acts ?_⟩⟩
    · rw [← bump_eq]; exact keyAct_unassigned he
    · exact keyAct_talk_activate he (talkMove_activate h)
    · exact keyAct_talk_go he (talkMove_go h)
    · exact keyAct_talk_deactivate he (talkMove_deactivate h)
    · exact keyAct_talk_stay he (talkMove_stay h)
    · rw [keyAct_listen he, if_neg (by simp [hpress]), if_pos hs]
    · rw [keyAct_listen he, if_neg (by simp [hpress]), if_neg hs]
    · rw [keyAct_listen he, if_pos hpress]
    · rw [keyAct_call he, if_pos hpress, if_pos hs]
    · rw [keyAct_call he, if_pos hpress, if_neg hs]
    · rw [keyAct_call he, if_neg (by simp [hpress]), if_pos hs]
    · rw [keyAct_call he, if_neg (by simp [hpress]), if_neg hs]
    · subst hpress; exact keyAct_release he
    · subst hpress; exact keyAct_dest he
    · subst hpress; exact keyAct_source he
    · subst hpress; exact keyAct_take he
    · subst hpress; exact keyAct_protect he
    · subst hpress; exact keyAct_salvo he
  · rintro rfl rfl waits held
    refine ⟨fun h => askTake_refused fun hn => ?_, fun h => askTake_refused fun hn => ?_, fun hw hlen => askTake_refused fun hn =>
      ?_,
      fun hheld hdown hw hlen => ?_, fun front e rest hheld hdown hq hw he => ?_⟩
    · exact h (takeTest_eq_none.1 hn).1
    · exact Bool.eq_false_iff.1 (takeTest_eq_none.1 hn).2.1 h
    · rcases (takeTest_eq_none.1 hn).2.2 with hwait | hroom
      · exact Bool.eq_false_iff.1 (waitingFor_false hw) hwait
      · exact Nat.not_lt.2 hlen hroom
    · rw [askTake_entered (takeTest_eq_none.2 ⟨hheld, hdown, .inr hlen⟩), enqueue_appended _ _ hw]; rfl
    · rw [askTake_entered (takeTest_eq_none.2 ⟨hheld, hdown, .inl (waitingFor_true hq he)⟩), enqueue_replaced _ _ hq hw he]; rfl
  · obtain ⟨hframe, hkd, hothers, hnone, hsome⟩ := setRouterPanel_leaves n dest preset s
    exact ⟨hframe, hkd, hothers, hnone, hsome, fun _ => rfl⟩

end Sys2Proof.Machine
end


section
/-! SUPPORT. The tests of a fire, its start, and its completion where every pair is skipped (O39). -/

namespace Sys2Proof.Machine

/-! ### The tests (R94) -/

section
variable {rc : Rc} {i : Nat} {who : Option Nat}

/-- The entries a fire would add to the queue. -/
def freshPairs (rc : Rc) (i : Nat) (who : Option Nat) : List (Nat × Nat) := (rc.firePairs i who).filter fun p => !rc.waitingFor p.1

theorem fireTest_undefined (h : rc.salvo i = []) : fireTest rc i who = some .state := if_pos h

theorem fireTest_down (h : rc.salvo i ≠ []) (hd : rc.down = true) : fireTest rc i who = some .down :=
  (if_neg h).trans (if_pos hd)

theorem fireTest_full (h : rc.salvo i ≠ []) (hd : rc.down = false) (hr : 32 - rc.queue.length < (freshPairs rc i who).length) :
    fireTest rc i who = some .full :=
  (if_neg h).trans ((if_neg (by simp [hd])).trans (if_pos hr))

theorem fireTest_passes (h : rc.salvo i ≠ []) (hd : rc.down = false) (hr : (freshPairs rc i who).length ≤ 32 - rc.queue.length) :
    fireTest rc i who = none :=
  (if_neg h).trans ((if_neg (by simp [hd])).trans (if_neg (Nat.not_lt.2 hr)))

end

/-! ### The start (R94, R95) -/

section
variable {s : State} {i n k : Nat} {p : Party} {tag : Byte}

/-- The fire a start makes. -/
def newFire (i : Nat) (p : Party) (rc : Rc) : Fire :=
  { serial := rc.nextSerial, salvo := i, party := p, awaiting := (rc.firePairs i p.identity).length, done := 0, other := 0,
    skipped := (rc.salvo i).length - (rc.firePairs i p.identity).length }

/-- A fire has been entered and its start reported. -/
def enterFire (i : Nat) (p : Party) (s : State) : State :=
  { s with
    rc := { s.rc with fires := s.rc.fires ++ [newFire i p s.rc], nextSerial := s.rc.nextSerial + 1 }
    reports := { s.reports with kdFromRc := s.reports.kdFromRc ++ [.fire i p.identity] } }

theorem startFire_queues (h : s.rc.firePairs i p.identity ≠ []) : startFire i p s =
    (s.rc.firePairs i p.identity).foldl (fun t q => enqueue q.1 q.2 (.fire s.rc.nextSerial) t) (enterFire i p s) := if_neg h

theorem startFire_completes (h : s.rc.firePairs i p.identity = []) : startFire i p s = completeFire (newFire i p s.rc)
    (enterFire i p s) :=
  if_pos h

/-- A fire that completes at once leaves no trace among the fires. -/
theorem filter_newFire (h : ∀ g ∈ s.rc.fires, g.serial ≠ s.rc.nextSerial) :
    ((enterFire i p s).rc.fires.filter fun g => g.serial != (newFire i p s.rc).serial) = s.rc.fires := by
  have hold : (s.rc.fires.filter fun g => g.serial != s.rc.nextSerial) = s.rc.fires :=
    List.filter_eq_self.2 fun g hg => bne_iff_ne.2 (h g hg)
  simp [enterFire, newFire, List.filter_append, hold]

theorem startFire_skipped_panel (h : s.rc.firePairs i (some n) = []) (hf : ∀ g ∈ s.rc.fires, g.serial ≠ s.rc.nextSerial) :
    startFire i (.panel n k) s =
      { s with
        rc := { s.rc with nextSerial := s.rc.nextSerial + 1 }
        reports := { s.reports with
          kdFromRc := s.reports.kdFromRc ++ [.fire i (some n)]
          kdFires := s.reports.kdFires ++
            [{ node := n, key := k, salvo := i, done := 0, other := 0, skipped := (s.rc.salvo i).length }] } } := by
  rw [startFire_completes h]
  unfold completeFire
  rw [filter_newFire hf]
  simp only [newFire, Party.identity, h]
  rfl

/-- A deferred reply to a request in the list. -/
theorem deferredReply_listed {kind : Byte} (c : Code) (l : List Byte) (h : ⟨tag, kind⟩ ∈ s.cp.outstanding) :
    deferredReply tag kind c l s = makeReply tag kind c l (endRequest tag s) :=
  if_pos (List.contains_iff_mem.2 h)

theorem startFire_skipped_host (h : s.rc.firePairs i none = []) (hf : ∀ g ∈ s.rc.fires, g.serial ≠ s.rc.nextSerial)
    (ht : ⟨tag, 0x12⟩ ∈ s.cp.outstanding) :
    startFire i (.host tag) s = makeReply tag 0x12 .ok ([0, 0, 0, 0] ++ e2 (s.rc.salvo i).length) (endRequest tag
      { s with
        rc := { s.rc with nextSerial := s.rc.nextSerial + 1 }
        reports := { s.reports with kdFromRc := s.reports.kdFromRc ++ [.fire i none, .fire i none] } }) := by
  rw [startFire_completes h]
  unfold completeFire
  rw [filter_newFire hf]
  simp only [newFire, Party.identity, h]
  rw [deferredReply_listed]
  · simp [reportKd, enterFire, Party.identity, e2, ReqKind.byte]
  · exact ht

end

end Sys2Proof.Machine

namespace Sys2Proof.Machine

/-- Settles O39, by the tests in their order, the start with pairs and without, and the place an entry takes. -/
theorem firesStartOrAreRefused : Obligations.FiresStartOrAreRefused := by
  refine ⟨fun tag n s hadm hn => ?_, fun i n k d src tag who r f s => ?_⟩
  · intro i all pairs fresh
    have own {c : Code} (h : fireTest s.rc n.toNat none = some c) : Refuses i s tag 0x12 c := by
      refine refuses_of (k := .fireSalvo) (ownFireSalvo tag) rfl hadm ((if_neg (Nat.not_lt.2 hn)).trans ?_)
      rw [show fireTest (taken tag ReqKind.fireSalvo.byte s).rc n.toNat none = some c from h]; rfl
    refine ⟨fun h => own (fireTest_undefined h), fun h hd => own (fireTest_down h hd), fun h hd hr => own (fireTest_full h hd hr),
      fun h hd hr => ?_⟩
    have starts : EndsIn i s (startFire n.toNat (.host tag) (taken tag 0x12 s)) := by
      refine endsIn_of_later (k := .fireSalvo) (ownFireSalvo tag) rfl hadm ((if_neg (Nat.not_lt.2 hn)).trans ?_)
      rw [show fireTest (taken tag ReqKind.fireSalvo.byte s).rc n.toNat none = none from fireTest_passes h hd hr]; rfl
    refine ⟨fun hp hf => ?_, fun hp => ?_⟩
    · rw [startFire_skipped_host (s := taken tag 0x12 s) hp hf (by simp [taken])] at starts
      exact starts
    · rw [startFire_queues (i := n.toNat) (p := .host tag) (s := taken tag 0x12 s) hp] at starts
      exact starts
  · intro all pairs waits fresh
    refine ⟨fireTest_undefined, fireTest_down, fireTest_full, fireTest_passes,
      ⟨startFire_skipped_panel, startFire_queues (p := .panel n k)⟩,
      enqueue_appended src r, fun front e rest hq hfront he => enqueue_replaced src r hq hfront he, rfl, rfl, rfl, rfl, rfl,
      fun hf => ⟨fun hp => ?_, fun hp => ?_⟩⟩ <;> simp [Rc.identity, hf, hp, Party.identity]

end Sys2Proof.Machine
end


section
/-! SUPPORT. The causes of a key, the room they need, its activation and its deactivation (O35). -/

namespace Sys2Proof.Machine

/-! ### The causes of a key (R151) -/

section
variable {te : Te} {n k p : Nat} {ports : List Nat} {x : NewCause}

/-- The causes a key gives its panel's port with each other target port. -/
theorem mem_map_others {f : Nat → NewCause} :
    x ∈ (ports.filter (· != p)).map f ↔ ∃ q ∈ ports, q ≠ p ∧ x = f q := by
  rw [List.mem_map]
  exact exists_congr fun q => by rw [List.mem_filter, bne_iff_ne, and_assoc, eq_comm (a := x)]

theorem mem_causesOfKey_talk {target : KeyTarget} {m : TalkMode} {lw : Bool} {ll : Int} {lim : Nat} (h : target ≠ .live) :
    x ∈ causesOfKey te n k p ports (.talk target m lw ll lim) ↔
      (∃ q ∈ ports, q ≠ p ∧ x = ⟨p, q, .key n k, (te.port q).receive⟩)
      ∨ lw = true ∧ ∃ q ∈ ports, q ≠ p ∧ x = ⟨q, p, .key n k, ll⟩ := by
  unfold causesOfKey
  simp only [if_neg h, List.mem_append, mem_map_others]
  cases lw <;> simp only [mem_map_others, if_true, if_false, List.not_mem_nil, Bool.false_eq_true, true_and, false_and]

theorem mem_causesOfKey_live {m : TalkMode} {ll : Int} {lim : Nat} :
    x ∈ causesOfKey te n k p ports (.talk .live m false ll lim) ↔
      ∃ q ∈ ports, q ≠ p ∧ x = ⟨p, q, .live n k, (te.port q).receive⟩ := by
  unfold causesOfKey
  simp only [if_true, Bool.false_eq_true, if_false, List.append_nil, mem_map_others]

theorem mem_causesOfKey_listen {target : KeyTarget} {ll : Int} :
    x ∈ causesOfKey te n k p ports (.listen target ll) ↔ ∃ q ∈ ports, q ≠ p ∧ x = ⟨q, p, .key n k, ll⟩ := mem_map_others

theorem causesOfKey_of_other {e : KeyEntry} (h : talkOrListen e = false) : causesOfKey te n k p ports e = [] := by
  cases e with
  | talk => cases h
  | listen => cases h
  | _ => rfl

end

/-! ### Room (R152) -/

theorem pairwise_sortAsc (l : List Nat) : (sortAsc l).Pairwise (· < ·) := by
  have build : ∀ l acc : List Nat, acc.Pairwise (· < ·) → (l.foldl insertAsc acc).Pairwise (· < ·) := by
    intro l
    induction l with
    | nil => exact fun _ h => h
    | cons i l ih => exact fun acc h => ih _ (insertAsc_sorted i h)
  exact build l [] .nil

theorem sortAsc_perm_dedup (l : List Nat) : (sortAsc l).Perm l.dedup :=
  (List.perm_ext_iff_of_nodup ((pairwise_sortAsc l).imp Nat.ne_of_lt) l.nodup_dedup).2 fun i => by
    rw [mem_sortAsc, List.mem_dedup]

theorem hasRoom_iff {te : Te} {freed : Nat} {news : List NewCause} : hasRoom te freed news = true ↔
    (te.paths.map fun kv => kv.2.causes.length).sum - freed + news.length ≤ 2048
    ∧ te.paths.length + ((news.map (·.key)).dedup.filter fun k => (tfind te.paths k).isNone).length ≤ 768 := by
  rw [← ((sortAsc_perm_dedup (news.map (·.key))).filter _).length_eq]
  unfold hasRoom
  rw [Bool.and_eq_true, decide_eq_true_iff, decide_eq_true_iff]
  rfl

/-! ### Activation (R37, R49) -/

theorem refuseRoom_frame (s : State) : OnlyChanges [.cp, .te] s (refuseRoom s) :=
  ((setFlag_frame .paths _).mono (by decide)).after ((te_frame { s.te with refusals := bump s.te.refusals } s).mono (by decide))

section
variable {n k limit p : Nat} {dst : KeyState} {e : KeyEntry} {target : KeyTarget} {x : KeyCtx} {s t : State}

theorem key_set {f : KeyCtx → KeyCtx} (h : t.kd.key n k = some x) : (setKeyCtx n k f t).kd.key n k = some (f x) := by
  rw [key_setKeyCtx, if_pos ⟨rfl, rfl⟩, h]; rfl

theorem key_refused (h : t.kd.key n k = some x) : (refuseKey n k t).kd.key n k = some
    { x with refusalExpiry := some (t.now + 1000) } :=
  key_set h

/-- The new causes of a key on a panel with port `p`. -/
def newCauses (n k : Nat) (e : KeyEntry) (target : KeyTarget) (s : State) (p : Nat) : List NewCause :=
  causesOfKey s.te n k p (targetPorts s.te s.tr.live target) e

theorem activateKey_portless (h : (tfind s.kd.records n).bind (·.port) = none) :
    activateKey n k dst limit e target s = refuseKey n k s := by
  unfold activateKey; rw [h]

theorem activateKey_refused (h : (tfind s.kd.records n).bind (·.port) = some p)
    (hr : hasRoom s.te (s.te.freedBy (renewed (newCauses n k e target s p))) (newCauses n k e target s p) = false) :
    activateKey n k dst limit e target s = refuseKey n k (refuseRoom s) := by
  have hrec : recordCauses (newCauses n k e target s p) s = (refuseRoom s, true) := if_neg (by rw [hr]; exact Bool.false_ne_true)
  unfold activateKey; rw [h]; dsimp only
  rw [show recordCauses (causesOfKey s.te n k p (targetPorts s.te s.tr.live target) e) s = (refuseRoom s, true) from hrec]
  rfl

theorem activateKey_admitted (h : (tfind s.kd.records n).bind (·.port) = some p)
    (hr : hasRoom s.te (s.te.freedBy (renewed (newCauses n k e target s p))) (newCauses n k e target s p) = true) :
    activateKey n k dst limit e target s = setKeyCtx n k (enterState dst limit s)
      (applyCauses (renewed (newCauses n k e target s p)) (newCauses n k e target s p) s) := by
  have hrec : recordCauses (newCauses n k e target s p) s =
      (applyCauses (renewed (newCauses n k e target s p)) (newCauses n k e target s p) s, false) := if_pos hr
  unfold activateKey; rw [h]; dsimp only
  rw [show recordCauses (causesOfKey s.te n k p (targetPorts s.te s.tr.live target) e) s = _ from hrec]
  rfl

/-! ### Deactivation (R42) -/

/-- A key's causes or its call are taken away, its state standing. -/
def releaseKey (n k : Nat) (s : State) : State :=
  match s.kd.entry n k with
  | .call p => removeKeyCall p n k s
  | .talk _ _ _ _ _ | .listen _ _ => withdrawKey n k s
  | _ => s

theorem deactivateKey_eq (n k : Nat) (s : State) : deactivateKey n k s = idleKey n (releaseKey n k s) k := rfl

theorem releaseKey_frame (n k : Nat) (s : State) : OnlyChanges [.tr, .te, .ml, .reports] s (releaseKey n k s) := by
  unfold releaseKey; split
  · exact (changeCalls_frame _ _ s).mono (by decide)
  · exact (applyCauses_frame _ _ s).mono (by decide)
  · exact (applyCauses_frame _ _ s).mono (by decide)
  · exact .refl _ s

theorem releaseKey_kd (n k : Nat) (s : State) : (releaseKey n k s).kd = s.kd := releaseKey_frame n k s .kd (by decide)

theorem releaseKey_withdraws (h : talkOrListen (s.kd.entry n k) = true) :
    AllCauses (fun c => ofKey n k c = false) (releaseKey n k s) := by
  have hrel : releaseKey n k s = withdrawKey n k s := by
    unfold releaseKey
    cases e : s.kd.entry n k with
    | talk => rfl
    | listen => rfl
    | _ => rw [e] at h; cases h
  rw [hrel]
  exact applyCauses_withdraws (ofKey n k) s

theorem releaseKey_uncalls (h : s.kd.entry n k = .call p) : (n, k) ∉ ((releaseKey n k s).tr.position p).keyCalls := by
  unfold releaseKey; rw [h]
  exact fun hm => (mem_keyCalls_removed.1 hm).2 rfl rfl

theorem key_deactivated (h : s.kd.key n k = some x) :
    (deactivateKey n k s).kd.key n k = some { x with state := .idle, tapExpiry := none, latchExpiry := none } := by
  rw [deactivateKey_eq]
  exact key_set (by rw [releaseKey_kd]; exact h)

end

end Sys2Proof.Machine

namespace Sys2Proof.Machine

/-- Settles O35, by the kind of the entry, by the two pools, and by the three ends of an activation. -/
theorem activationAndDeactivation : Obligations.ActivationAndDeactivation := by
  refine ⟨fun te n k p ports x => ?_, fun te freed news => hasRoom_iff, fun n k limit dst e target x s hkey => ?_⟩
  · exact ⟨fun _ _ _ _ _ => mem_causesOfKey_talk, fun _ _ _ => mem_causesOfKey_live, fun _ _ => mem_causesOfKey_listen,
      fun _ => causesOfKey_of_other⟩
  intro port news renewed freed indicated
  refine ⟨fun hport => ?_, fun p hport hroom => ?_, fun p hport hroom => ?_, deactivateKey_frame n k s, key_deactivated hkey,
    releaseKey_withdraws, fun p => releaseKey_uncalls⟩
  · rw [activateKey_portless hport]
    exact ⟨refuseKey_frame n k s, key_refused hkey⟩
  · rw [activateKey_refused hport hroom]
    refine ⟨?_, key_refused hkey, rfl, ?_⟩
    · exact ((refuseRoom_frame s).mono (by decide)).trans ((refuseKey_frame n k _).mono (by decide))
    · rw [← bump_eq]; rfl
  · rw [activateKey_admitted hport hroom]
    have hframe : OnlyChanges [.te, .ml, .reports] s (applyCauses (renewed p) (news p) s) := applyCauses_frame _ _ s
    refine ⟨(hframe.mono (by decide)).trans ((setKeyCtx_frame n k _ _).mono (by decide)), rfl, ?_⟩
    exact key_set ((congrArg (fun kd : Kd => kd.key n k) (hframe .kd (by decide))).trans hkey)

end Sys2Proof.Machine
end


section
/-! SUPPORT. What SET-PANEL and SET-KEY leave of a panel's record, its keys and its images, and of every other panel's (O32). -/

namespace Sys2Proof.Machine

/-! ### A change of one panel -/

/-- The components a change of one panel's record reaches. -/
abbrev panelParts : List Part := [.pbc, .kd, .tr, .te, .ml, .reports]

/-- A change of one panel's record, keys and images leaves the others', and KD's counts and timing. -/
structure OnPanel (n : Nat) (s u : State) : Prop where
  frame : OnlyChanges panelParts s u
  others : ∀ m, m ≠ n → tfind u.kd.records m = tfind s.kd.records m ∧ tfind u.kd.contexts m = tfind s.kd.contexts m
  kd : u.kd = { s.kd with records := u.kd.records, contexts := u.kd.contexts }
  pbc : u.pbc = { s.pbc with roster := u.pbc.roster }

section
variable {n : Nat} {s t u : State}

theorem OnPanel.refl (n : Nat) (s : State) : OnPanel n s s := ⟨.refl _ s, fun _ _ => ⟨rfl, rfl⟩, rfl, rfl⟩

theorem OnPanel.trans (h : OnPanel n s t) (k : OnPanel n t u) : OnPanel n s u where
  frame := h.frame.trans k.frame
  others m hm := ⟨(k.others m hm).1.trans (h.others m hm).1, (k.others m hm).2.trans (h.others m hm).2⟩
  kd := by rw [k.kd, h.kd]
  pbc := by rw [k.pbc, h.pbc]

/-- A change of the contexts of KD, the roster staying. -/
theorem OnPanel.of_contexts (h : OnContext n s t) (hf : OnlyChanges [.kd, .tr, .te, .ml, .reports] s t) : OnPanel n s t where
  frame := hf.mono (by decide)
  others m hm := ⟨by rw [h.kd], h.others m hm⟩
  kd := by rw [h.kd]
  pbc := by rw [hf .pbc (by decide)]

theorem Recomposed.onPanel {c : Context} {done : List Nat} (h : Recomposed n c s done t) : OnPanel n s t where
  frame := by
    rw [h.same]
    exact ((pbc_frame { s.pbc with roster := t.pbc.roster } s).mono (by decide)).trans ((kd_frame _ _).mono (by decide))
  others m hm := ⟨by rw [h.kd], h.others m hm⟩
  kd := by rw [h.kd]
  pbc := congrArg State.pbc h.same

theorem refreshPanel_onPanel (q : KeyEntry → Bool) (n : Nat) (s : State) : OnPanel n s (refreshPanel q n s) := by
  cases hc : tfind s.kd.contexts n with
  | none => rw [refreshPanel_none hc]; exact .refl n s
  | some c => exact (refreshPanel_recomposed hc).onPanel

theorem refreshKey_onPanel (n k : Nat) (s : State) : OnPanel n s (refreshKey s n k) := by
  cases hc : tfind s.kd.contexts n with
  | none => unfold refreshKey; rw [hc]; exact .refl n s
  | some c => exact ((Recomposed.start hc).refresh k).onPanel

theorem deactivatePanel_onPanel (q : KeyEntry → Bool) (n : Nat) (s : State) : OnPanel n s (deactivatePanel q n s) :=
  .of_contexts (deactivatePanel_onContext q n s) (deactivatePanel_frame q n s)

end

/-! ### The images of a panel's keys are recomputed (R52) -/

section
variable {n k : Nat} {c : Context} {s : State} {done : List Nat} {t : State}

/-- A recomputation changes the images of the keys alone. -/
theorem Recomposed.key (h : Recomposed n c s done t) (hc : tfind s.kd.contexts n = some c) (k : Nat) :
    t.kd.key n k = (s.kd.key n k).map fun x => { x with image := if k ∈ done then composeImage s n k c x else x.image } := by
  obtain ⟨c', hc', -, -, hkeys⟩ := h.context
  simp only [Kd.key, hc', hc, Option.bind_some, hkeys k]

theorem keyState_eq_of_image {kd kd' : Kd} {f : KeyCtx → Image}
    (h : kd'.key n k = (kd.key n k).map fun x => { x with image := f x }) :
    kd'.keyState n k = kd.keyState n k := by
  unfold Kd.keyState
  rw [h]; cases kd.key n k <;> rfl

theorem refreshPanel_records (q : KeyEntry → Bool) (n : Nat) (s : State) : (refreshPanel q n s).kd.records = s.kd.records :=
  (settings_image (refreshPanel_kept q n s).settings).1

theorem refreshKey_records (n k : Nat) (s : State) : (refreshKey s n k).kd.records = s.kd.records :=
  (settings_image (refreshKey_kept s n k).settings).1

theorem keyState_refreshPanel (q : KeyEntry → Bool) (n k : Nat) (s : State) :
    (refreshPanel q n s).kd.keyState n k = s.kd.keyState n k := by
  cases hc : tfind s.kd.contexts n with
  | none => rw [refreshPanel_none hc]
  | some c => exact keyState_eq_of_image ((refreshPanel_recomposed hc).key hc k)

theorem key_refreshKey (n k : Nat) (s : State) :
    ∃ f : KeyCtx → Image, (refreshKey s n k).kd.key n k = (s.kd.key n k).map fun x => { x with image := f x } := by
  cases hc : tfind s.kd.contexts n with
  | none => exact ⟨fun x => x.image, by unfold refreshKey; rw [hc]; simp⟩
  | some c => exact ⟨_, ((Recomposed.start hc).refresh k).key hc k⟩

theorem key_refreshKey_ne {m j : Nat} (h : m ≠ n ∨ j ≠ k) : (refreshKey s n k).kd.key m j = s.kd.key m j := by
  by_cases hm : m = n
  · subst hm
    cases hc : tfind s.kd.contexts m with
    | none => unfold refreshKey; rw [hc]
    | some c =>
      have hj : ¬ j = k := h.resolve_left (· rfl)
      rw [((Recomposed.start hc).refresh k).key hc j]
      simp [hj]
  · unfold Kd.key; rw [((refreshKey_onPanel n k s).others m hm).2]

end

/-! ### The keys of a panel are deactivated (R32) -/

section
variable {n k : Nat} {q : KeyEntry → Bool} {s : State}

theorem key_idleKeys (n : Nat) (keys : List Nat) (k : Nat) (s : State) : (keys.foldl (idleKey n) s).kd.key n k =
    if k ∈ keys then (s.kd.key n k).map fun x => { x with state := .idle, tapExpiry := none, latchExpiry := none }
    else s.kd.key n k := by
  induction keys generalizing s with
  | nil => rfl
  | cons j keys ih =>
    rw [List.foldl_cons, ih, idleKey, key_setKeyCtx]
    by_cases hj : k = j
    · subst hj; cases s.kd.key n k <;> simp
    · simp [hj]

theorem keyState_deactivatePanel (hq : q (s.kd.entry n k) = true) : (deactivatePanel q n s).kd.keyState n k = .idle := by
  cases hc : tfind s.kd.contexts n with
  | none => unfold deactivatePanel; rw [hc]; simp [Kd.keyState, Kd.key, hc]
  | some c =>
    rw [deactivatePanel_eq hc]; dsimp only
    unfold Kd.keyState
    rw [key_idleKeys, applyCauses_kd, dropCalls_kd]
    split
    · cases s.kd.key n k <;> rfl
    · next hk =>
      by_contra hidle
      exact hk (mem_activeOf (q := fun k => q (s.kd.entry n k)) hc hidle hq)

end

/-! ### SET-PANEL (R32) -/

section
variable {n : Nat} {s : State}

/-- The record of a panel is this. -/
def putRecord (n : Nat) (r : PanelRec) (s : State) : State := { s with kd := { s.kd with records := tput s.kd.records n r } }

/-- A panel whose port changes has its TALK and LISTEN keys deactivated. -/
def freePort (n : Nat) (port : Option Nat) (s : State) : State :=
  match tfind s.kd.records n with
  | none => s
  | some r => if r.port = port then s else deactivatePanel talkOrListen n s

theorem putRecord_onPanel (n : Nat) (r : PanelRec) (s : State) : OnPanel n s (putRecord n r s) :=
  ⟨(kd_frame _ s).mono (by decide), fun m hm => ⟨(tfind_tput ..).trans (if_neg hm), rfl⟩, rfl, rfl⟩

theorem freePort_same {port : Option Nat}
    (h : tfind s.kd.records n = none ∨ ∃ r, tfind s.kd.records n = some r ∧ r.port = port) : freePort n port s = s := by
  unfold freePort
  rcases h with h | ⟨r, h, hp⟩ <;> rw [h]
  exact if_pos hp

theorem freePort_changed {port : Option Nat} {r : PanelRec} (h : tfind s.kd.records n = some r) (hp : r.port ≠ port) :
    freePort n port s = deactivatePanel talkOrListen n s := by
  unfold freePort; rw [h]; exact if_neg hp

theorem freePort_onPanel (n : Nat) (port : Option Nat) (s : State) : OnPanel n s (freePort n port s) := by
  unfold freePort; split
  · exact .refl n s
  · split
    · exact .refl n s
    · exact deactivatePanel_onPanel _ n s

theorem storePanel_eq (n : Nat) (port : Option Nat) (mode : TakeMode) (s : State) : storePanel n port mode s =
    refreshPanel (fun _ => true) n
      (putRecord n { port := port, mode := mode, keys := ((tfind s.kd.records n).map (·.keys)).getD [] } (freePort n port s)) := by
  unfold storePanel freePort
  cases tfind s.kd.records n <;> rfl

theorem storePanel_onPanel (n : Nat) (port : Option Nat) (mode : TakeMode) (s : State) :
    OnPanel n s (storePanel n port mode s) := by
  rw [storePanel_eq]
  exact ((freePort_onPanel n port s).trans (putRecord_onPanel n _ _)).trans (refreshPanel_onPanel _ n _)

theorem storePanel_record (n : Nat) (port : Option Nat) (mode : TakeMode) (s : State) :
    tfind (storePanel n port mode s).kd.records n =
      some { port := port, mode := mode, keys := ((tfind s.kd.records n).map (·.keys)).getD [] } := by
  rw [storePanel_eq, refreshPanel_records]
  exact (tfind_tput ..).trans (if_pos rfl)

theorem storePanel_te (n : Nat) (port : Option Nat) (mode : TakeMode) (s : State) :
    (storePanel n port mode s).te = (freePort n port s).te := by
  rw [storePanel_eq]
  exact refreshPanel_frame _ n _ .te (by decide)

theorem storePanel_keyState (n k : Nat) (port : Option Nat) (mode : TakeMode) (s : State) :
    (storePanel n port mode s).kd.keyState n k = (freePort n port s).kd.keyState n k := by
  rw [storePanel_eq, keyState_refreshPanel]; rfl

/-- Everything of a panel is cleared but the images of its keys. -/
def clearPanel (n : Nat) (s : State) : State :=
  { s with
    kd := { s.kd with
      records := tdel s.kd.records n
      contexts := tmodify s.kd.contexts n fun c =>
        { keys := c.keys.map fun kv => (kv.1, freshKey kv.2.image), dest := none, preset := none } } }

theorem removePanel_eq (n : Nat) (s : State) : removePanel n s =
    refreshPanel (fun _ => true) n (clearPanel n (deactivatePanel (fun _ => true) n s)) := rfl

theorem tfind_clearPanel (n m : Nat) (s : State) : tfind (clearPanel n s).kd.contexts m =
    if m = n then (tfind s.kd.contexts m).map fun c =>
      { keys := c.keys.map fun kv => (kv.1, freshKey kv.2.image), dest := none, preset := none }
    else tfind s.kd.contexts m :=
  tfind_tmodify s.kd.contexts n m fun c =>
    { keys := c.keys.map fun kv => (kv.1, freshKey kv.2.image), dest := none, preset := none }

theorem clearPanel_record (n : Nat) (s : State) : tfind (clearPanel n s).kd.records n = none := (tfind_tdel ..).trans (if_pos rfl)

theorem clearPanel_onPanel (n : Nat) (s : State) : OnPanel n s (clearPanel n s) :=
  ⟨(kd_frame _ s).mono (by decide),
    fun m hm => ⟨(tfind_tdel ..).trans (if_neg hm), (tfind_clearPanel n m s).trans (if_neg hm)⟩, rfl, rfl⟩

theorem removePanel_onPanel (n : Nat) (s : State) : OnPanel n s (removePanel n s) := by
  rw [removePanel_eq]
  exact ((deactivatePanel_onPanel _ n s).trans (clearPanel_onPanel n _)).trans (refreshPanel_onPanel _ n _)

theorem removePanel_record (n : Nat) (s : State) : tfind (removePanel n s).kd.records n = none := by
  rw [removePanel_eq, refreshPanel_records]; exact clearPanel_record n _

theorem removePanel_te_tr (n : Nat) (s : State) :
    (removePanel n s).te = (deactivatePanel (fun _ => true) n s).te ∧ (removePanel n s).tr =
      (deactivatePanel (fun _ => true) n s).tr :=
  ⟨refreshPanel_frame _ n _ .te (by decide), refreshPanel_frame _ n _ .tr (by decide)⟩

/-- What is left of a removed panel's context: keys with nothing on them, each OFF. -/
theorem removePanel_context {c : Context} (h : tfind (removePanel n s).kd.contexts n = some c) :
    c.dest = none ∧ c.preset = none ∧ ∀ k x, tfind c.keys k = some x → x = freshKey imageOff := by
  rw [removePanel_eq] at h
  generalize deactivatePanel (fun _ => true) n s = v at h
  have hclear := (tfind_clearPanel n n v).trans (if_pos rfl)
  cases hv : tfind v.kd.contexts n with
  | none =>
    rw [hv] at hclear
    rw [refreshPanel_none hclear, hclear] at h; cases h
  | some c0 =>
    rw [hv, Option.map_some] at hclear
    obtain ⟨c', hc', hd, hp, hkeys⟩ := (refreshPanel_recomposed (q := fun _ => true) hclear).context
    rw [hc'] at h; cases h
    refine ⟨hd, hp, fun k x hx => ?_⟩
    have hlisted := tfind_map c0.keys (fun _ y => freshKey y.image) k
    rw [hkeys k] at hx
    obtain ⟨y, hy, rfl⟩ := Option.map_eq_some_iff.1 hx
    have hmem := mem_keys_of_tfind hy
    rw [hlisted] at hy
    obtain ⟨z, -, rfl⟩ := Option.map_eq_some_iff.1 hy
    rw [if_pos (List.mem_filter.2 ⟨hmem, rfl⟩), composeImage_none (clearPanel_record n v)]
    rfl

end

/-! ### SET-KEY (R33) -/

section
variable {n k m j : Nat} {e : KeyEntry} {s : State} {r : PanelRec}

/-- The entry of a key is this. -/
def putEntry (n k : Nat) (e : KeyEntry) (s : State) : State :=
  { s with kd := { s.kd with records := tmodify s.kd.records n fun r => { r with keys := tset .none r.keys k e } } }

/-- A key is deactivated if it is active, and without an indication. -/
def calmKey (n k : Nat) (s : State) : State := setKeyCtx n k (fun x => { x with refusalExpiry := none }) (deactivateIfActive n k s)

theorem storeKey_eq (n k : Nat) (e : KeyEntry) (s : State) : storeKey n k e s = refreshKey (putEntry n k e (calmKey n k s)) n k :=
    rfl

theorem deactivateIfActive_onContext (n k : Nat) (s : State) : OnContext n s (deactivateIfActive n k s) := by
  unfold deactivateIfActive; split
  · exact .of_kd rfl
  · rw [deactivateKey_eq]
    exact (OnContext.of_kd (releaseKey_kd n k s)).trans (setKeyCtx_onContext n k _ _)

theorem calmKey_onContext (n k : Nat) (s : State) : OnContext n s (calmKey n k s) :=
  (deactivateIfActive_onContext n k s).trans (setKeyCtx_onContext n k _ _)

theorem calmKey_frame (n k : Nat) (s : State) : OnlyChanges [.kd, .tr, .te, .ml, .reports] s (calmKey n k s) :=
  (deactivateIfActive_frame n k s).trans ((setKeyCtx_frame n k _ _).mono (by decide))

theorem tfind_putEntry (n k : Nat) (e : KeyEntry) (s : State) (m : Nat) : tfind (putEntry n k e s).kd.records m =
    if m = n then (tfind s.kd.records m).map fun r => { r with keys := tset .none r.keys k e } else tfind s.kd.records m :=
  tfind_tmodify s.kd.records n m fun r => { r with keys := tset .none r.keys k e }

theorem putEntry_onPanel (n k : Nat) (e : KeyEntry) (s : State) : OnPanel n s (putEntry n k e s) :=
  ⟨(kd_frame _ s).mono (by decide), fun m hm => ⟨(tfind_putEntry ..).trans (if_neg hm), rfl⟩, rfl, rfl⟩

theorem storeKey_onPanel (n k : Nat) (e : KeyEntry) (s : State) : OnPanel n s (storeKey n k e s) := by
  rw [storeKey_eq]
  refine (OnPanel.of_contexts (calmKey_onContext n k s) (calmKey_frame n k s)).trans ?_
  exact (putEntry_onPanel n k e _).trans (refreshKey_onPanel n k _)

theorem storeKey_te_tr (n k : Nat) (e : KeyEntry) (s : State) :
    (storeKey n k e s).te = (deactivateIfActive n k s).te ∧ (storeKey n k e s).tr = (deactivateIfActive n k s).tr :=
  ⟨refreshKey_frame _ n k .te (by decide), refreshKey_frame _ n k .tr (by decide)⟩

/-- The entries of every key after one is replaced in a record that stands. -/
theorem entry_putEntry (h : tfind s.kd.records n = some r) :
    (putEntry n k e s).kd.entry m j = if m = n ∧ j = k then e else s.kd.entry m j := by
  unfold Kd.entry
  rw [tfind_putEntry]
  by_cases hm : m = n
  · subst hm
    simp only [h, if_true, Option.map_some, true_and]
    exact tget_tset ..
  · simp only [hm, if_false, false_and]

theorem storeKey_entry (h : tfind s.kd.records n = some r) (m j : Nat) :
    (storeKey n k e s).kd.entry m j = if m = n ∧ j = k then e else s.kd.entry m j := by
  have hrecords : (calmKey n k s).kd.records = s.kd.records := by rw [(calmKey_onContext n k s).kd]
  have hput := entry_putEntry (k := k) (e := e) (m := m) (j := j) (s := calmKey n k s) (hrecords ▸ h)
  rw [storeKey_eq]
  unfold Kd.entry at hput ⊢
  rw [refreshKey_records, hput, hrecords]

theorem key_deactivateIfActive_ne (h : m ≠ n ∨ j ≠ k) : (deactivateIfActive n k s).kd.key m j = s.kd.key m j := by
  unfold deactivateIfActive; split
  · rfl
  · rw [deactivateKey_eq, idleKey, key_setKeyCtx, if_neg (by tauto), releaseKey_kd]

theorem storeKey_key_ne (h : m ≠ n ∨ j ≠ k) : (storeKey n k e s).kd.key m j = s.kd.key m j := by
  rw [storeKey_eq, key_refreshKey_ne h]
  show (calmKey n k s).kd.key m j = s.kd.key m j
  rw [calmKey, key_setKeyCtx, if_neg (by tauto), key_deactivateIfActive_ne h]

theorem deactivateIfActive_idle {x : KeyCtx} (h : (deactivateIfActive n k s).kd.key n k = some x) : x.state = .idle := by
  unfold deactivateIfActive at h
  split at h
  · next hidle =>
    unfold Kd.keyState at hidle
    rw [h] at hidle; exact hidle
  · rw [deactivateKey_eq, idleKey, key_setKeyCtx, if_pos ⟨rfl, rfl⟩] at h
    obtain ⟨y, -, rfl⟩ := Option.map_eq_some_iff.1 h
    rfl

theorem storeKey_key {x : KeyCtx} (h : (storeKey n k e s).kd.key n k = some x) : x.state = .idle ∧ x.refusalExpiry = none := by
  rw [storeKey_eq] at h
  obtain ⟨f, hf⟩ := key_refreshKey n k (putEntry n k e (calmKey n k s))
  rw [hf, show (putEntry n k e (calmKey n k s)).kd.key n k = (calmKey n k s).kd.key n k from rfl, calmKey, key_setKeyCtx,
    if_pos ⟨rfl, rfl⟩, Option.map_map] at h
  obtain ⟨y, hy, rfl⟩ := Option.map_eq_some_iff.1 h
  exact ⟨deactivateIfActive_idle (x := y) hy, rfl⟩

end

end Sys2Proof.Machine
end


section
/-! SUPPORT. SET-PANEL, SET-KEY and the two timing requests of one field (O32). -/

namespace Sys2Proof.Machine

section
variable {tag kind n : Byte} {s u : State}

/-- What a request that changes one panel leaves, the request having been taken. -/
theorem OnPanel.of_taken {m : Nat} (h : OnPanel m (taken tag kind s) u) :
    OnlyChanges (.cp :: panelParts) s u ∧ u.cp = (taken tag kind s).cp
    ∧ (∀ j, j ≠ m → tfind u.kd.records j = tfind s.kd.records j ∧ tfind u.kd.contexts j = tfind s.kd.contexts j)
    ∧ u.kd = { s.kd with records := u.kd.records, contexts := u.kd.contexts }
    ∧ u.pbc = { s.pbc with roster := u.pbc.roster } :=
  ⟨((taken_frame tag kind s).mono (by decide)).trans (h.frame.mono (by decide)), h.frame .cp (by decide), h.others, h.kd, h.pbc⟩

theorem nodeByte_eq_true (h1 : 1 ≤ n.toNat) (h2 : n.toNat ≤ 63) : nodeByte n = true := by simp [nodeByte, h1, h2]

theorem optIndex_toNat (b : Byte) : optIndex b.toNat = if b = 255 then none else some b.toNat := by
  unfold optIndex
  exact if_congr ⟨fun h => BitVec.eq_of_toNat_eq h, fun h => h ▸ rfl⟩ rfl rfl

theorem ownSetPanel_stores {port mode : Byte} (hn : nodeByte n = true) (hp : port.toNat ≤ 95 ∨ port = 255) (hm : mode.toNat ≤ 1) :
    ownSetPanel [n, 0, port, mode] s = .now .ok []
      (storePanel n.toNat (if port = 255 then none else some port.toNat) (if mode = 0 then .direct else .preset) s) := by
  have hport : indexUpTo 95 port.toNat = true := by
    rcases hp with hp | rfl
    · simp [indexUpTo, hp]
    · rfl
  rw [← optIndex_toNat]
  exact (if_neg (Nat.not_lt.2 hm)).trans (if_neg (by simp [hn, hport]))

theorem ownSetPanel_unrecorded (hn : nodeByte n = true) (h : tfind s.kd.records n.toNat = none) :
    ownSetPanel [n, 1] s = .now .state [] s :=
  (if_neg (by simp [hn])).trans (if_pos (by rw [h]; rfl))

theorem ownSetPanel_removes {r : PanelRec} (hn : nodeByte n = true) (h : tfind s.kd.records n.toNat = some r) :
    ownSetPanel [n, 1] s = .now .ok [] (removePanel n.toNat s) :=
  (if_neg (by simp [hn])).trans (if_neg (by rw [h]; exact Bool.false_ne_true))

variable {k : Byte} {form : List Byte} {e : KeyEntry}

/-- The tests SET-KEY passes before it looks for the record. -/
theorem ownSetKey_form (hf : keyForm form = some e) (hr : keyInRange e = true) (hn : nodeByte n = true) (hk : k.toNat ≤ 31) :
    ownSetKey (n :: k :: form) s =
      if (tfind s.kd.records n.toNat).isNone then .refuse .state s else .now .ok [] (storeKey n.toNat k.toNat e s) := by
  cases form with
  | nil => cases hf
  | cons kind rest =>
    unfold ownSetKey; simp only [hf]
    exact if_neg (by simp [hn, hr, Nat.not_lt.2 hk])

theorem beNat_pair (hi lo : Byte) : beNat [hi, lo] = hi.toNat * 256 + lo.toNat := by simp [beNat]

theorem entry_of_record {n k : Nat} {r : PanelRec} (h : tfind s.kd.records n = some r) : s.kd.entry n k = tget .none r.keys k := by
  unfold Kd.entry; rw [h]

end

end Sys2Proof.Machine

namespace Sys2Proof.Machine

/-- Settles O32: what is stored, what a deactivation before it took, and the recomputation of images after it, which leaves both. -/
theorem panelsKeysAndTimingsAreSet : Obligations.PanelsKeysAndTimingsAreSet := by
  refine ⟨fun tag n port mode s h1 h63 => ?_, fun tag n k form e s hadm hform hrange h1 h63 hk => ?_, fun tag hi lo s hadm => ?_⟩
  · intro after
    have hn : nodeByte n = true := nodeByte_eq_true h1 h63
    refine ⟨fun hadm hport hmode => ?_, fun hadm => ⟨fun hnone => ?_, fun r hr => ?_⟩⟩
    · intro p
      have hu := storePanel_onPanel n.toNat p (if mode = 0 then .direct else .preset) (taken tag 0x07 s)
      refine ⟨storePanel n.toNat p (if mode = 0 then .direct else .preset) (taken tag 0x07 s),
        ⟨repliesIn_of (k := .setPanel) ownSetPanel rfl hadm (ownSetPanel_stores hn hport hmode), hu.of_taken⟩, storePanel_record _
          _ _ _, fun r k hr hp he => ?_, fun hsame => ?_⟩
      · have hfree := freePort_changed (s := taken tag 0x07 s) hr hp
        have hentry : talkOrListen (s.kd.entry n.toNat k) = true := by rw [entry_of_record hr]; exact he
        rw [storePanel_keyState, storePanel_te, hfree]
        exact ⟨keyState_deactivatePanel (s := taken tag 0x07 s) hentry,
          fun hk => (deactivatePanel_leaves (s := taken tag 0x07 s) hk hentry).1⟩
      · have hfree := freePort_same (s := taken tag 0x07 s) hsame
        exact ⟨by rw [storePanel_te, hfree]; rfl, fun k => by rw [storePanel_keyState, hfree]; rfl⟩
    · exact refuses_of (k := .setPanel) ownSetPanel rfl hadm (ownSetPanel_unrecorded hn hnone)
    · have hu := removePanel_onPanel n.toNat (taken tag 0x07 s)
      obtain ⟨hte, htr⟩ := removePanel_te_tr n.toNat (taken tag 0x07 s)
      refine ⟨removePanel n.toNat (taken tag 0x07 s),
        ⟨repliesIn_of (k := .setPanel) ownSetPanel rfl hadm (ownSetPanel_removes hn hr), hu.of_taken⟩,
        removePanel_record _ _, fun k x hx => ?_, fun k hk => ?_, fun c hc => ?_⟩
      · obtain ⟨c, hc, hkey⟩ := Option.bind_eq_some_iff.1 hx
        exact (removePanel_context hc).2.2 k x hkey
      · rw [hte, htr]
        exact deactivatePanel_leaves (q := fun _ => true) (s := taken tag 0x07 s) hk rfl
      · exact ⟨(removePanel_context hc).1, (removePanel_context hc).2.1⟩
  · have hn : nodeByte n = true := nodeByte_eq_true h1 h63
    refine ⟨fun hnone => ?_, fun r hr => ?_⟩
    · refine refuses_of (k := .setKey) ownSetKey rfl hadm ((ownSetKey_form hform hrange hn hk).trans (if_pos ?_))
      exact Option.isNone_iff_eq_none.2 hnone
    · have hu := (storeKey_onPanel n.toNat k.toNat e (taken tag 0x08 s)).of_taken
      obtain ⟨hte, htr⟩ := storeKey_te_tr n.toNat k.toNat e (taken tag 0x08 s)
      have hentry := storeKey_entry (n := n.toNat) (k := k.toNat) (e := e) (s := taken tag 0x08 s) hr
      obtain ⟨hframe, hcp, -, hkd, hpbc⟩ := hu
      refine ⟨storeKey n.toNat k.toNat e (taken tag 0x08 s), ?_, hframe, hcp, ?_, fun m j h => ?_, fun m j h => storeKey_key_ne h,
        fun x hx => storeKey_key hx, fun hidle => ?_, fun hactive => ?_, hpbc, ?_⟩
      · refine repliesIn_of (k := .setKey) ownSetKey rfl hadm ((ownSetKey_form hform hrange hn hk).trans (if_neg ?_))
        rw [show tfind (taken tag ReqKind.setKey.byte s).kd.records n.toNat = some r from hr]
        exact Bool.false_ne_true
      · exact (hentry _ _).trans (if_pos ⟨rfl, rfl⟩)
      · exact (hentry _ _).trans (if_neg (by tauto))
      · have hstay : deactivateIfActive n.toNat k.toNat (taken tag 0x08 s) = taken tag 0x08 s := if_pos hidle
        rw [hte, htr, hstay]; exact ⟨rfl, rfl⟩
      · have hgo : deactivateIfActive n.toNat k.toNat (taken tag 0x08 s) = deactivateKey n.toNat k.toNat (taken tag 0x08 s) :=
          if_neg hactive
        rw [hte, htr, hgo]
        exact ⟨releaseKey_withdraws (s := taken tag 0x08 s), fun p => releaseKey_uncalls (s := taken tag 0x08 s)⟩
      · rw [hkd]; exact ⟨rfl, rfl, rfl⟩
  · rw [← beNat_pair, ← clampN_eq_max_min (by decide), ← clampN_eq_max_min (by decide)]
    exact ⟨repliesIn_of (k := .keyTiming) ownKeyTiming rfl hadm rfl, repliesIn_of (k := .routerTiming) ownRouterTiming rfl hadm rfl⟩

end Sys2Proof.Machine
end


section
/-! SUPPORT. One field of a destination's record is written, and what of it is reported (O37, O40). -/

namespace Sys2Proof.Machine

variable {s : State} {d : Nat}

/-- One destination's record is changed. -/
theorem dest_tset (rc : Rc) (d : Nat) (f : DestRec → DestRec) (j : Nat) :
    ({ rc with dests := tset noDest rc.dests d (f (rc.dest d)) } : Rc).dest j = if j = d then f (rc.dest j) else rc.dest j := by
  refine (tget_tset ..).trans ?_
  split
  · subst_vars; rfl
  · rfl

theorem dest_unchanged {rc : Rc} {d : Nat} {f : DestRec → DestRec} (h : f (rc.dest d) = rc.dest d) (j : Nat) :
    rc.dest j = if j = d then f (rc.dest j) else rc.dest j := by
  split
  · subst_vars; exact h.symm
  · rfl

/-! ### The protect (R63) -/

theorem setProtect_same {p : Option Protect} (h : (s.rc.dest d).protect = p) : setProtect d p s = s := if_pos h

theorem setProtect_changed {p : Option Protect} (h : (s.rc.dest d).protect ≠ p) : setProtect d p s =
    reportKd [.protect d] { s with rc := { s.rc with dests := tset noDest s.rc.dests d { s.rc.dest d with protect := p } } } :=
  if_neg h

theorem setProtect_rc (d : Nat) (p : Option Protect) (s : State) :
    (setProtect d p s).rc = { s.rc with dests := (setProtect d p s).rc.dests } := by
  by_cases h : (s.rc.dest d).protect = p
  · rw [setProtect_same h]
  · rw [setProtect_changed h]; rfl

theorem setProtect_dest (d : Nat) (p : Option Protect) (s : State) (j : Nat) :
    (setProtect d p s).rc.dest j = if j = d then { s.rc.dest j with protect := p } else s.rc.dest j := by
  by_cases h : (s.rc.dest d).protect = p
  · rw [setProtect_same h]
    exact dest_unchanged (f := fun r => { r with protect := p }) (by rw [← h]) j
  · rw [setProtect_changed h]
    exact dest_tset s.rc d (fun r => { r with protect := p }) j

theorem setProtect_reports (d : Nat) (p : Option Protect) (s : State) : (setProtect d p s).reports =
    { s.reports with kdFromRc := s.reports.kdFromRc ++ if (s.rc.dest d).protect = p then [] else [.protect d] } := by
  by_cases h : (s.rc.dest d).protect = p
  · rw [setProtect_same h, if_pos h, List.append_nil]
  · rw [setProtect_changed h, if_neg h]; rfl

/-! ### The pending source (R63) -/

theorem setPending_same {v : Option Nat} (h : (s.rc.dest d).pending = v) : setPending d v s = (s, []) := if_pos h

theorem setPending_changed {v : Option Nat} (h : (s.rc.dest d).pending ≠ v) : setPending d v s =
    ({ s with rc := { s.rc with dests := tset noDest s.rc.dests d { s.rc.dest d with pending := v } } },
      [.crosspoint d ((s.rc.dest d).pending.toList ++ v.toList)]) := if_neg h

theorem setPending_dest (d : Nat) (v : Option Nat) (s : State) (j : Nat) :
    (setPending d v s).1.rc.dest j = if j = d then { s.rc.dest j with pending := v } else s.rc.dest j := by
  by_cases h : (s.rc.dest d).pending = v
  · rw [setPending_same h]
    exact dest_unchanged (f := fun r => { r with pending := v }) (by rw [← h]) j
  · rw [setPending_changed h]
    exact dest_tset s.rc d (fun r => { r with pending := v }) j

theorem setPending_reported (d : Nat) (v : Option Nat) (s : State) : (setPending d v s).2 =
    if (s.rc.dest d).pending = v then [] else [.crosspoint d ((s.rc.dest d).pending.toList ++ v.toList)] := by
  by_cases h : (s.rc.dest d).pending = v
  · rw [setPending_same h, if_pos h]
  · rw [setPending_changed h, if_neg h]

/-! ### The confirmed source (R63) -/

theorem setConfirmed_same {v : Option Nat} (h : (s.rc.dest d).confirmed = v) : setConfirmed d v s = (s, []) := if_pos h

theorem setConfirmed_changed {v : Option Nat} (h : (s.rc.dest d).confirmed ≠ v) : setConfirmed d v s =
    (reportTrFromRc { s with rc := { s.rc with dests := tset noDest s.rc.dests d { s.rc.dest d with confirmed := v } } },
      [.crosspoint d ((s.rc.dest d).confirmed.toList ++ v.toList)]) := if_neg h

theorem setConfirmed_rc (d : Nat) (v : Option Nat) (s : State) :
    (setConfirmed d v s).1.rc = { s.rc with dests := (setConfirmed d v s).1.rc.dests } := by
  by_cases h : (s.rc.dest d).confirmed = v
  · rw [setConfirmed_same h]
  · rw [setConfirmed_changed h]; rfl

theorem setConfirmed_dest (d : Nat) (v : Option Nat) (s : State) (j : Nat) :
    (setConfirmed d v s).1.rc.dest j = if j = d then { s.rc.dest j with confirmed := v } else s.rc.dest j := by
  by_cases h : (s.rc.dest d).confirmed = v
  · rw [setConfirmed_same h]
    exact dest_unchanged (f := fun r => { r with confirmed := v }) (by rw [← h]) j
  · rw [setConfirmed_changed h]
    exact dest_tset s.rc d (fun r => { r with confirmed := v }) j

end Sys2Proof.Machine
end


section
/-! SUPPORT. The choice for a free place of the window, and the choices repeated until there is none (O40). -/

namespace Sys2Proof.Machine

variable {s t : State} {e : TakeEntry}

/-! ### Places and sendable entries (R81) -/

theorem isWaiting_iff : e.isWaiting = true ↔ e.state = .waiting := beq_iff_eq

theorem isSent_of_isWaiting (h : e.isWaiting = true) : e.isSent = false := by rw [TakeEntry.isSent, h]; rfl

theorem sendable_iff {rc : Rc} :
    rc.sendable e = true ↔ e.state = .waiting ∧ ∀ y ∈ rc.queue, y.dest = e.dest → y.state = .waiting := by
  simp [Rc.sendable, Rc.sentFor, TakeEntry.isSent, isWaiting_iff]

/-- An item taken out of a list stood behind items that do not satisfy the test. -/
theorem split_of_takeFirst {α : Type} {p : α → Bool} {l rest : List α} {x : α} (h : takeFirst p l = some (x, rest)) :
    ∃ front back, l = front ++ x :: back ∧ rest = front ++ back ∧ (∀ y ∈ front, p y = false) ∧ p x = true := by
  induction l generalizing rest with
  | nil => cases h
  | cons a l ih =>
    rw [takeFirst] at h
    split at h
    · rename_i ha
      cases h
      exact ⟨[], l, rfl, rfl, nofun, ha⟩
    · rename_i ha
      obtain ⟨⟨y, r⟩, hr, hx⟩ := Option.map_eq_some_iff.1 h
      cases hx
      obtain ⟨front, back, rfl, rfl, hf, hx⟩ := ih hr
      exact ⟨a :: front, back, rfl, rfl, List.forall_mem_cons.2 ⟨Bool.eq_false_of_not_eq_true ha, hf⟩, hx⟩

/-! ### Outcomes (R91, R95) -/

theorem completeFire_rc (f : Fire) (s : State) : (completeFire f s).rc = { s.rc with fires := (completeFire f s).rc.fires } := by
  unfold completeFire; dsimp only
  split
  · simp
  · rfl

theorem countFire_rc (n : Nat) (o : TakeOutcome) (s : State) :
    (countFire n o s).rc = { s.rc with fires := (countFire n o s).rc.fires } := by
  unfold countFire; dsimp only
  split
  · rfl
  · split
    · exact completeFire_rc _ _
    · rfl

/-- Of RC, an outcome changes the fires alone. -/
theorem deliver_rc (r : Requester) (o : TakeOutcome) (c : List Byte) (l : List ImageReport) (s : State) :
    (deliver r o c l s).rc = { s.rc with fires := (deliver r o c l s).rc.fires } := by
  unfold deliver
  split
  · simp
  · rfl
  · exact countFire_rc _ _ _

/-! ### One choice (R81, R82, R87) -/

theorem fillPlace_busy (h : s.rc.down = true ∨ 2 ≤ s.rc.windowUsed) : fillPlace s = none := if_pos h

theorem fillPlace_free (hd : s.rc.down = false) (hw : s.rc.windowUsed < 2) : fillPlace s =
    match takeFirst s.rc.sendable s.rc.queue with
    | some (e, rest) => some (sendEntry e rest s)
    | none => s.rc.nextQuery.map fun d => sendQuery d s :=
  if_neg (by rw [hd]; rintro (h | h); exacts [Bool.false_ne_true h, Nat.not_le.2 hw h])

theorem fillPlace_takes {rest : List TakeEntry} (hd : s.rc.down = false) (hw : s.rc.windowUsed < 2)
    (h : takeFirst s.rc.sendable s.rc.queue = some (e, rest)) : fillPlace s = some (sendEntry e rest s) := by
  rw [fillPlace_free hd hw, h]

theorem fillPlace_asks (hd : s.rc.down = false) (hw : s.rc.windowUsed < 2) (h : ∀ y ∈ s.rc.queue, s.rc.sendable y = false) :
    fillPlace s = s.rc.nextQuery.map fun d => sendQuery d s := by
  rw [fillPlace_free hd hw, takeFirst_none h]

theorem sendEntry_refused {o : TakeOutcome} {rest : List TakeEntry}
    (h : holdsAgainst (s.rc.dest e.dest).protect (s.rc.identity e.requester) = some o) : sendEntry e rest s =
      deliver e.requester o [] [.takes e.dest e.requester.panels] { s with rc := { s.rc with queue := rest } } := by
  unfold sendEntry; rw [h]

/-- An entry whose re-check passes becomes SENT, its frame joins those to be sent, and its source becomes the pending one. -/
theorem sendEntry_sent {rest : List TakeEntry}
    (h : holdsAgainst (s.rc.dest e.dest).protect (s.rc.identity e.requester) = none) : sendEntry e rest s =
      { s with
        rc := { s.rc with
          dests := (setPending e.dest (some e.source) s).1.rc.dests
          queue := replaceFirst s.rc.sendable (fun x => { x with state := .sent none }) s.rc.queue
          tx := s.rc.tx ++ [.xset e.dest e.source] }
        reports := { s.reports with kdFromRc := s.reports.kdFromRc ++ (setPending e.dest (some e.source) s).2 } } := by
  unfold sendEntry; rw [h]
  by_cases hp : (s.rc.dest e.dest).pending = some e.source
  · rw [setPending_same hp]; rfl
  · rw [setPending_changed hp]; rfl

/-! ### The choices end (R81) -/

/-- How many choices RC can still make: each takes an entry out of the queue or takes up a place of the window. -/
def choicesLeft (rc : Rc) : Nat := rc.queue.length + (2 - rc.windowUsed)

theorem choicesLeft_query (d : Nat) (hw : s.rc.windowUsed < 2) : choicesLeft (sendQuery d s).rc < choicesLeft s.rc := by
  have hu : (sendQuery d s).rc.windowUsed = s.rc.windowUsed + 1 := by
    simp [sendQuery, Rc.windowUsed, Nat.add_assoc]
  have hq : (sendQuery d s).rc.queue = s.rc.queue := rfl
  unfold choicesLeft
  rw [hu, hq]
  omega

theorem choicesLeft_entry {rest : List TakeEntry} (hw : s.rc.windowUsed < 2)
    (h : takeFirst s.rc.sendable s.rc.queue = some (e, rest)) : choicesLeft (sendEntry e rest s).rc < choicesLeft s.rc := by
  obtain ⟨front, back, hq, rfl, hfront, he⟩ := split_of_takeFirst h
  have hwait : e.isSent = false := isSent_of_isWaiting (isWaiting_iff.2 (sendable_iff.1 he).1)
  cases hold : holdsAgainst (s.rc.dest e.dest).protect (s.rc.identity e.requester) with
  | some o =>
    rw [sendEntry_refused hold, deliver_rc]
    simp [choicesLeft, Rc.windowUsed, hq, hwait]
  | none =>
    rw [sendEntry_sent hold]
    have hsent : ({ e with state := .sent none } : TakeEntry).isSent = true := rfl
    simp only [Rc.windowUsed, hq, List.countP_append, List.countP_cons, hwait] at hw
    simp only [choicesLeft, Rc.windowUsed, hq, replaceFirst_split _ hfront he, List.countP_append, List.countP_cons, hwait, hsent,
      List.length_append, List.length_cons, if_true, Bool.false_eq_true, if_false] at hw ⊢
    omega

theorem fillPlace_choicesLeft (h : fillPlace s = some t) : choicesLeft t.rc < choicesLeft s.rc := by
  have hfree : ¬ (s.rc.down = true ∨ 2 ≤ s.rc.windowUsed) := fun hb => by rw [fillPlace_busy hb] at h; cases h
  obtain ⟨hd, hw⟩ := not_or.1 hfree
  rw [fillPlace_free (Bool.eq_false_of_not_eq_true hd) (Nat.not_le.1 hw)] at h
  split at h
  · rename_i hq
    cases h
    exact choicesLeft_entry (Nat.not_le.1 hw) hq
  · obtain ⟨d, -, rfl⟩ := Option.map_eq_some_iff.1 h
    exact choicesLeft_query d (Nat.not_le.1 hw)

theorem fillLoop_filled (n : Nat) (h : fillPlace s = none) : fillLoop n s = s := by
  cases n with
  | zero => rfl
  | succ n => rw [fillLoop, h]

theorem fillLoop_succ (n : Nat) (h : fillPlace s = some t) : fillLoop (n + 1) s = fillLoop n t := by rw [fillLoop, h]

/-- With fuel for every choice left the loop ends where there is none. -/
theorem fillPlace_fillLoop {n : Nat} (h : choicesLeft s.rc ≤ n) : fillPlace (fillLoop n s) = none := by
  induction n generalizing s with
  | zero =>
    cases hf : fillPlace s with
    | none => exact hf
    | some t => exact absurd (fillPlace_choicesLeft hf) (by omega)
  | succ n ih =>
    cases hf : fillPlace s with
    | none => rwa [fillLoop_filled _ hf]
    | some t =>
      rw [fillLoop_succ n hf]
      exact ih (by have := fillPlace_choicesLeft hf; omega)

theorem fillLoop_add (n m : Nat) (s : State) : fillLoop (n + m) s = fillLoop m (fillLoop n s) := by
  induction n generalizing s with
  | zero => rw [Nat.zero_add]; rfl
  | succ n ih =>
    rw [Nat.succ_add]
    cases hf : fillPlace s with
    | none => rw [fillLoop_filled _ hf, fillLoop_filled _ hf, fillLoop_filled _ hf]
    | some t => rw [fillLoop_succ _ hf, fillLoop_succ _ hf, ih]

/-- Fuel past the choices left makes no difference. -/
theorem fillLoop_of_le {n : Nat} (h : choicesLeft s.rc ≤ n) : fillLoop n s = fillLoop (choicesLeft s.rc) s := by
  obtain ⟨m, rfl⟩ := Nat.exists_eq_add_of_le h
  rw [fillLoop_add, fillLoop_filled m (fillPlace_fillLoop le_rfl)]

theorem choicesLeft_le (rc : Rc) : choicesLeft rc ≤ rc.queue.length + 2 := by unfold choicesLeft; omega

theorem fillWindow_filled (h : fillPlace s = none) : fillWindow s = s := fillLoop_filled _ h

theorem fillWindow_again (h : fillPlace s = some t) : fillWindow s = fillWindow t := by
  have hs : fillWindow s = fillLoop (s.rc.queue.length + 1) t := fillLoop_succ _ h
  have hle : choicesLeft t.rc ≤ s.rc.queue.length + 1 := by
    have := fillPlace_choicesLeft h
    have := choicesLeft_le s.rc
    omega
  rw [hs, fillLoop_of_le hle]
  exact (fillLoop_of_le (choicesLeft_le t.rc)).symm

theorem fillPlace_fillWindow (s : State) : fillPlace (fillWindow s) = none := fillPlace_fillLoop (choicesLeft_le s.rc)

end Sys2Proof.Machine
end


section
/-! SUPPORT. An outcome goes to its requester (O40). -/

namespace Sys2Proof.Machine

variable {s : State} {o : TakeOutcome} {content : List Byte} {changes : List ImageReport} {tag : Byte} {n k serial : Nat} {f : Fire}

theorem deliver_host_listed (h : ⟨tag, 0x10⟩ ∈ s.cp.outstanding) : deliver (.party (.host tag)) o content changes s =
    makeReply tag 0x10 o.code content (endRequest tag (reportKd changes s)) := deferredReply_listed _ _ h

/-- A deferred reply to a request a RESET has dropped. -/
theorem deferredReply_dropped {kind : Byte} (c : Code) (l : List Byte) (h : ⟨tag, kind⟩ ∉ s.cp.outstanding) :
    deferredReply tag kind c l s = s := if_neg (by rwa [List.contains_iff_mem])

theorem deliver_host_dropped (h : ⟨tag, 0x10⟩ ∉ s.cp.outstanding) : deliver (.party (.host tag)) o content changes s =
    reportKd changes s := deferredReply_dropped _ _ h

/-- A fire with one more pair counted. -/
def Fire.counted (f : Fire) (o : TakeOutcome) : Fire :=
  { f with
    awaiting := f.awaiting - 1
    done := f.done + if o = .done then 1 else 0
    other := f.other + if o = .done then 0 else 1 }

theorem countFire_of_find (h : s.rc.fires.find? (·.serial == serial) = some f) : countFire serial o s =
    if f.awaiting - 1 = 0 then completeFire (f.counted o) s
    else { s with rc := { s.rc with fires := s.rc.fires.map fun g => if g.serial = serial then f.counted o else g } } := by
  unfold countFire Fire.counted; rw [h]
  by_cases ho : o = .done
  · simp only [ho, if_true]; rfl
  · simp only [ho, if_false]; rfl

theorem serial_of_find (h : s.rc.fires.find? (·.serial == serial) = some f) : f.serial = serial :=
  beq_iff_eq.1 (List.find?_some (p := fun x : Fire => x.serial == serial) h)

/-- A fire is taken out of those in progress. -/
def endFire (serial : Nat) (s : State) : State := { s with rc := { s.rc with fires := s.rc.fires.filter (·.serial != serial) } }

theorem completeFire_panel (h : f.party = .panel n k) : completeFire f s =
    { endFire f.serial s with
      reports := { s.reports with kdFires := s.reports.kdFires ++ [⟨n, k, f.salvo, f.done, f.other, f.skipped⟩] } } := by
  unfold completeFire; rw [h]; rfl

theorem completeFire_host (h : f.party = .host tag) (ht : ⟨tag, 0x12⟩ ∈ s.cp.outstanding) : completeFire f s =
    makeReply tag 0x12 .ok (e2 f.done ++ e2 f.other ++ e2 f.skipped)
      (endRequest tag (reportKd [.fire f.salvo none] (endFire f.serial s))) := by
  unfold completeFire; rw [h]; exact deferredReply_listed _ _ ht

end Sys2Proof.Machine

namespace Sys2Proof.Machine

/-- Settles O40: one choice by `fillPlace`'s cases, the choices repeated by `choicesLeft`, and the outcome by its requester. -/
theorem windowAndOutcomes : Obligations.WindowAndOutcomes := by
  refine ⟨fun s => ⟨fun e => sendable_iff, ?_, fun hd hw => ⟨fun front e rest hq hfront he => ?_, fillPlace_asks hd hw⟩,
    fun h => fillWindow_filled (fillPlace_busy h), fun t h => fillWindow_again h, fillWindow_filled, fillPlace_fillWindow s⟩,
    fun o content changes tag n k serial f s => ?_⟩
  · exact congrArg (· + s.rc.queries.length) List.countP_eq_length_filter
  · have hplace : fillPlace s = some (sendEntry e (front ++ rest) s) :=
      fillPlace_takes hd hw (by rw [hq, takeFirst_split hfront he])
    refine ⟨fun o ho => by rw [hplace, sendEntry_refused ho], fun hn => ?_⟩
    refine ⟨_, hplace, ?_⟩
    rw [sendEntry_sent hn, hq, replaceFirst_split _ hfront he]
    refine ⟨?_, rfl, setPending_dest e.dest (some e.source) s, ?_⟩
    · intro p hp; cases p <;> first | rfl | simp at hp
    · rw [setPending_reported]; rfl
  · refine ⟨deliver_host_listed, deliver_host_dropped, rfl, fun hf => ?_⟩
    obtain rfl := serial_of_find hf
    have hcount := countFire_of_find (o := o) (s := reportKd changes s) hf
    exact ⟨fun h1 h0 => hcount.trans (if_neg (by omega)), fun h1 => ⟨
      fun hp => (hcount.trans (if_pos (by omega))).trans (completeFire_panel (f := f.counted o) hp),
      fun hp ht => (hcount.trans (if_pos (by omega))).trans (completeFire_host (f := f.counted o) (s := reportKd changes s) hp ht)⟩⟩

end Sys2Proof.Machine
end


section
/-! SUPPORT. The records of RC's tables as the host sets them, toggles and releases of protects (O37). -/

namespace Sys2Proof.Machine

variable {s u : State} {d n : Nat}

/-- What an effect on RC and its reports leaves of the state a request was taken in. -/
theorem of_taken_rc {tag kind : Byte} (h : OnlyChanges [.rc, .reports] (taken tag kind s) u) :
    OnlyChanges [.cp, .rc, .reports] s u ∧ u.cp = (taken tag kind s).cp :=
  ⟨((taken_frame tag kind s).mono (by simp)).trans (h.mono (by simp)), h .cp (by simp)⟩

theorem beNat_low (b : Byte) : beNat [0, b] = b.toNat := by simp [beNat]

theorem not_byte_above (b : Byte) : ¬ 255 < b.toNat := by omega

/-! ### SET-SOURCE (R60, R61) -/

/-- A source record with the fields given in place of its own. -/
def SourceRec.given (fs : List (Option Nat)) (r : SourceRec) : SourceRec :=
  { position := ((fieldAt fs 0).map optIndex).getD r.position, tie := ((fieldAt fs 1).map optWide).getD r.tie }

theorem ownSetSource_stores {i : Byte} {form : List Byte} {fs : List (Option Nat)} (hform : presence [1, 2] form = some fs)
    (hpos : okIf (indexUpTo 23) (fieldAt fs 0) = true) (htie : okIf (fun t => t ≤ 255 || t == 65535) (fieldAt fs 1) = true) :
    ownSetSource (0 :: i :: form) s = .now .ok [] (storeSource i.toNat ((s.rc.source i.toNat).given fs) s) := by
  unfold ownSetSource
  simp only [hform, beNat_low]
  exact if_neg (by simp [hpos, htie, not_byte_above])

theorem storeSource_rc (i : Nat) (r : SourceRec) (s : State) :
    (storeSource i r s).rc = { s.rc with sources := tset noSource s.rc.sources i r } := by
  unfold storeSource; dsimp only
  split <;> split <;> rfl

theorem storeSource_source (i : Nat) (r : SourceRec) (s : State) (j : Nat) :
    (storeSource i r s).rc.source j = if j = i then r else s.rc.source j := by
  rw [storeSource_rc]; exact tget_tset ..

theorem storeSource_reports (i : Nat) (r : SourceRec) (s : State) : (storeSource i r s).reports =
    { s.reports with
      trFromRc := s.reports.trFromRc + (if r.position = (s.rc.source i).position then 0 else 1)
        + (if r.tie = (s.rc.source i).tie then 0 else 1)
      kdFromRc := s.reports.kdFromRc ++ if r.position = (s.rc.source i).position then [] else [.sourcePosition i] } := by
  unfold storeSource; dsimp only
  split <;> split <;> simp

theorem storeSource_frame (i : Nat) (r : SourceRec) (s : State) : OnlyChanges [.rc, .reports] s (storeSource i r s) := by
  unfold storeSource; dsimp only
  intro p hp
  split <;> split <;> (cases p <;> first | rfl | simp at hp)

/-! ### PROTECT and SET-DEST (R64, R67) -/

theorem ownProtectRequest_sets {i a : Byte} {p : Option Protect} (h : hostProtect a.toNat = some p) :
    ownProtectRequest [0, i, a] s = .now .ok [] (setProtect i.toNat p s) := by
  unfold ownProtectRequest
  simp only [h, beNat_low]
  exact if_neg (not_byte_above i)

/-- A destination has joined the query set. -/
def toBeAsked (d : Nat) (s : State) : State := { s with rc := { s.rc with querySet := insertAsc s.rc.querySet d } }

theorem toBeAsked_frame (d : Nat) (s : State) : OnlyChanges [.rc] s (toBeAsked d s) := by
  intro p hp; cases p <;> first | rfl | simp at hp

/-- A destination to be learned again, before a free place of the window is filled. -/
def relearned (d : Nat) (clear : Bool) (s : State) : State :=
  if clear then reportKd (setConfirmed d none (toBeAsked d s)).2 (setConfirmed d none (toBeAsked d s)).1 else toBeAsked d s

theorem relearn_eq (d : Nat) (clear : Bool) (s : State) : relearn d clear s = fillWindow (relearned d clear s) := rfl

theorem ownSetDest_relearns {i c : Byte} {clear : Bool} (h : flagOf c.toNat = some clear) :
    ownSetDest [0, i, c] s = .now .ok [] (fillWindow (relearned i.toNat clear s)) := by
  unfold ownSetDest
  simp only [h, beNat_low, relearn_eq]
  exact if_neg (not_byte_above i)

theorem relearned_true (d : Nat) (s : State) : relearned d true s =
    reportKd (setConfirmed d none (toBeAsked d s)).2 (setConfirmed d none (toBeAsked d s)).1 := rfl

theorem relearned_frame (d : Nat) (clear : Bool) (s : State) : OnlyChanges [.rc, .reports] s (relearned d clear s) := by
  have hask : OnlyChanges [.rc, .reports] s (toBeAsked d s) := (toBeAsked_frame d s).mono (by simp)
  cases clear with
  | false => exact hask
  | true => exact hask.trans ((setConfirmed_frame _ _ _).trans ((reportKd_frame _ _).mono (by simp)))

theorem relearned_rc (d : Nat) (clear : Bool) (s : State) : (relearned d clear s).rc =
    { s.rc with dests := (relearned d clear s).rc.dests, querySet := insertAsc s.rc.querySet d } := by
  cases clear with
  | false => rfl
  | true => exact setConfirmed_rc d none (toBeAsked d s)

theorem relearned_dest (d : Nat) (clear : Bool) (s : State) (j : Nat) : (relearned d clear s).rc.dest j =
    if j = d ∧ clear = true then { s.rc.dest j with confirmed := none } else s.rc.dest j := by
  cases clear with
  | false => exact (if_neg fun h => Bool.false_ne_true h.2).symm
  | true => exact (setConfirmed_dest d none (toBeAsked d s) j).trans (if_congr (and_iff_left rfl).symm rfl rfl)

theorem relearned_reports_none {clear : Bool} (h : (s.rc.dest d).confirmed = none) :
    (relearned d clear s).reports = s.reports := by
  cases clear with
  | false => rfl
  | true => rw [relearned_true, setConfirmed_same (show ((toBeAsked d s).rc.dest d).confirmed = none from h),
      reportKd_reports, List.append_nil]; rfl

theorem relearned_reports_some {x : Nat} (h : (s.rc.dest d).confirmed = some x) : (relearned d true s).reports =
    { s.reports with trFromRc := s.reports.trFromRc + 1, kdFromRc := s.reports.kdFromRc ++ [.crosspoint d [x]] } := by
  have hx : ((toBeAsked d s).rc.dest d).confirmed = some x := h
  rw [relearned_true, setConfirmed_changed (by rw [hx]; nofun), hx]
  rfl

/-! ### The toggle of a panel's PROTECT key (R66) -/

theorem toggleProtect_free (h : (s.rc.dest d).protect = none) :
    toggleProtect d n s = (setProtect d (some ⟨some n, .protect⟩) s, false) := by
  unfold toggleProtect; rw [h]

theorem toggleProtect_own (h : (s.rc.dest d).protect = some ⟨some n, .protect⟩) :
    toggleProtect d n s = (setProtect d none s, false) := by
  unfold toggleProtect; rw [h]; exact if_pos rfl

theorem toggleProtect_refused (h : (s.rc.dest d).protect ≠ none) (ho : (s.rc.dest d).protect ≠ some ⟨some n, .protect⟩) :
    toggleProtect d n s = (s, true) := by
  unfold toggleProtect
  split
  · contradiction
  · rename_i m hm
    exact if_neg fun e => ho (by rw [hm, e])
  · rfl

/-! ### The release of a node's protects (R68) -/

/-- The protect of a record is one of a node's. -/
def DestRec.ownedBy (n : Nat) (r : DestRec) : Bool := r.protect.any (·.owner == some n)

/-- A record after the release of a node's protects. -/
def DestRec.released (n : Nat) (r : DestRec) : DestRec := if r.ownedBy n then { r with protect := none } else r

/-- The release of one destination's protect, the record being the one listed. -/
def releaseDest (n : Nat) (t : State) (kv : Nat × DestRec) : State := if kv.2.ownedBy n then setProtect kv.1 none t else t

theorem releaseProtects_eq (n : Nat) (s : State) : releaseProtects n s = s.rc.dests.foldl (releaseDest n) s := rfl

section
variable {kv : Nat × DestRec} {l : List (Nat × DestRec)}

theorem releaseDest_rc (n : Nat) (s : State) (kv : Nat × DestRec) :
    (releaseDest n s kv).rc = { s.rc with dests := (releaseDest n s kv).rc.dests } := by
  unfold releaseDest; split
  · exact setProtect_rc ..
  · rfl

theorem releaseDest_dest (h : s.rc.dest kv.1 = kv.2) (j : Nat) :
    (releaseDest n s kv).rc.dest j = if j = kv.1 then (s.rc.dest j).released n else s.rc.dest j := by
  unfold releaseDest
  by_cases ho : kv.2.ownedBy n = true
  · rw [if_pos ho, setProtect_dest]
    split
    · subst_vars; rw [DestRec.released, h, if_pos ho]
    · rfl
  · rw [if_neg ho]
    exact dest_unchanged (f := DestRec.released n) (by rw [DestRec.released, h, if_neg ho]) j

theorem releaseDest_reports (h : s.rc.dest kv.1 = kv.2) : (releaseDest n s kv).reports =
    { s.reports with kdFromRc := s.reports.kdFromRc ++ if kv.2.ownedBy n then [.protect kv.1] else [] } := by
  unfold releaseDest
  by_cases ho : kv.2.ownedBy n = true
  · have hp : kv.2.protect ≠ none := fun e => by rw [DestRec.ownedBy, e] at ho; cases ho
    rw [if_pos ho, if_pos ho, setProtect_reports, h, if_neg hp]
  · rw [if_neg ho, if_neg ho, List.append_nil]

/-- The release of the records listed, each destination once. -/
theorem releaseDests_leave (hl : (l.map (·.1)).Nodup) (h : ∀ kv ∈ l, s.rc.dest kv.1 = kv.2) :
    (l.foldl (releaseDest n) s).rc = { s.rc with dests := (l.foldl (releaseDest n) s).rc.dests }
    ∧ (∀ j, (l.foldl (releaseDest n) s).rc.dest j =
        if j ∈ l.map (·.1) then (s.rc.dest j).released n else s.rc.dest j)
    ∧ (l.foldl (releaseDest n) s).reports = { s.reports with
        kdFromRc := s.reports.kdFromRc ++ (l.filter fun kv => kv.2.ownedBy n).map fun kv => .protect kv.1 } := by
  induction l generalizing s with
  | nil => exact ⟨rfl, fun j => by simp, by simp⟩
  | cons kv l ih =>
    obtain ⟨hkv, hrest⟩ := List.forall_mem_cons.1 h
    obtain ⟨hnew, hl⟩ := List.nodup_cons.1 hl
    have hother {j : Nat} (hj : j ≠ kv.1) : (releaseDest n s kv).rc.dest j = s.rc.dest j := by
      rw [releaseDest_dest hkv, if_neg hj]
    obtain ⟨hrc, hdest, hreports⟩ := ih (s := releaseDest n s kv) hl fun x hx =>
      (hother fun e => hnew (List.mem_map.2 ⟨x, hx, e⟩)).trans (hrest x hx)
    simp only [List.foldl_cons]
    refine ⟨?_, fun j => ?_, ?_⟩
    · rw [hrc, releaseDest_rc]
    · rw [hdest, releaseDest_dest hkv, List.map_cons]
      by_cases hj : j = kv.1
      · rw [if_neg (hj ▸ hnew), if_pos hj, if_pos (hj ▸ List.mem_cons_self)]
      · rw [if_neg hj]
        exact if_congr (by simp [hj]) rfl rfl
    · rw [hreports, releaseDest_reports hkv, List.filter_cons]
      cases kv.2.ownedBy n <;> simp

end

theorem dest_of_not_listed {rc : Rc} (h : d ∉ rc.dests.map (·.1)) : rc.dest d = noDest := by
  unfold Rc.dest tget
  cases hf : tfind rc.dests d with
  | none => rfl
  | some r => exact absurd (List.mem_map_of_mem (f := (·.1)) (mem_of_tfind hf)) h

theorem releaseProtects_leaves (hs : tsorted s.rc.dests = true) :
    (releaseProtects n s).rc = { s.rc with dests := (releaseProtects n s).rc.dests }
    ∧ (∀ j, (releaseProtects n s).rc.dest j = (s.rc.dest j).released n)
    ∧ (releaseProtects n s).reports = { s.reports with
        kdFromRc := s.reports.kdFromRc ++ (s.rc.dests.filter fun kv => kv.2.ownedBy n).map fun kv => .protect kv.1 } := by
  have hkeys : (s.rc.dests.map (·.1)).Nodup := (keys_ascend hs).imp Nat.ne_of_lt
  have hlisted : ∀ kv ∈ s.rc.dests, s.rc.dest kv.1 = kv.2 := fun kv hkv => by
    rw [Rc.dest, tget, tfind_of_mem hs hkv]; rfl
  rw [releaseProtects_eq]
  obtain ⟨hrc, hdest, hreports⟩ := releaseDests_leave (n := n) hkeys hlisted
  refine ⟨hrc, fun j => (hdest j).trans ?_, hreports⟩
  by_cases hj : j ∈ s.rc.dests.map (·.1)
  · exact if_pos hj
  · rw [if_neg hj, dest_of_not_listed hj]; rfl

theorem takeFirst_eq_erase {l : List Nat} (h : n ∈ l) : takeFirst (· == n) l = some (n, l.erase n) := by
  obtain ⟨front, rest, hnot, rfl, he⟩ := List.exists_erase_eq h
  rw [he]
  exact takeFirst_split (fun y hy => beq_eq_false_iff_ne.2 fun e => hnot (e ▸ hy)) (beq_self_eq_true n)

theorem takeRelease_waiting (h : n ∈ s.reports.rcReleases) : takeRelease n s =
    releaseProtects n { s with reports := { s.reports with rcReleases := s.reports.rcReleases.erase n } } := by
  unfold takeRelease; rw [takeFirst_eq_erase h]

theorem takeRelease_none (h : n ∉ s.reports.rcReleases) : takeRelease n s = s := by
  unfold takeRelease
  rw [takeFirst_none fun x hx => beq_eq_false_iff_ne.2 fun e : x = n => h (e ▸ hx)]

end Sys2Proof.Machine
end


section
/-! SUPPORT. DEFINE-SALVO's checks in their order (O37). -/

namespace Sys2Proof.Machine

theorem noRepeats_iff {l : List Nat} : noRepeats l = true ↔ l.Nodup := by
  induction l with
  | nil => simp [noRepeats]
  | cons x l ih => simp [noRepeats, ih]

theorem firesOf_eq_zero {rc : Rc} {n : Nat} : rc.firesOf n = 0 ↔ ∀ f ∈ rc.fires, f.salvo ≠ n := by
  simp [Rc.firesOf, List.countP_eq_zero]

variable {s : State} {n c : Byte} {rest : List Byte}

/-- What DEFINE-SALVO makes of a body whose length is the one its count names. -/
theorem ownDefineSalvo_form (h : rest.length = 2 * c.toNat) : ownDefineSalvo (n :: c :: rest) s =
    if 63 < n.toNat then .refuse .range s
    else if 64 < c.toNat ∨ ¬ ((bytePairs rest).map (·.1)).Nodup then .refuse .malformed s
    else if s.rc.firesOf n.toNat ≠ 0 then .refuse .state s
    else if 1024 + (s.rc.salvo n.toNat).length < s.rc.poolUsed + (bytePairs rest).length then .refuse .full s
    else .now .ok [] { s with rc := { s.rc with salvos := tset [] s.rc.salvos n.toNat (bytePairs rest) } } := by
  unfold ownDefineSalvo
  refine (if_neg (not_not.2 h)).trans (if_congr Iff.rfl rfl (if_congr ?_ rfl rfl))
  rw [← noRepeats_iff, Bool.or_eq_true, decide_eq_true_iff, Bool.not_eq_true']
  exact or_congr Iff.rfl Bool.eq_false_iff

end Sys2Proof.Machine

namespace Sys2Proof.Machine

/-- Settles O37, request by request, the toggle by the protect that stands, and the release by the records listed. -/
theorem routingTablesAreSet : Obligations.RoutingTablesAreSet := by
  refine ⟨fun tag i s => ⟨fun form fs hadm hform hpos htie => ?_, fun a p hadm hp => ?_, fun c clear hadm hflag => ?_⟩,
    fun d n owner who s => ⟨⟨rfl, rfl, rfl⟩, ?_⟩, fun tag n c rest s hadm hlen => ?_, fun n s hinv => ⟨fun h => ?_, fun h => ?_⟩⟩
  · intro old new
    obtain ⟨hframe, hcp⟩ := of_taken_rc (storeSource_frame i.toNat new (taken tag 0x0B s))
    refine ⟨storeSource i.toNat new (taken tag 0x0B s),
      repliesIn_of (k := .setSource) ownSetSource rfl hadm (ownSetSource_stores hform hpos htie), hframe, hcp, ?_,
      storeSource_source i.toNat new (taken tag 0x0B s), storeSource_reports i.toNat new (taken tag 0x0B s)⟩
    rw [storeSource_rc]; rfl
  · have hset : hostProtect a.toNat = some p := by
      rcases hp with ⟨rfl, rfl⟩ | ⟨rfl, rfl⟩ | ⟨rfl, rfl⟩ <;> rfl
    obtain ⟨hframe, hcp⟩ := of_taken_rc (setProtect_frame i.toNat p (taken tag 0x0D s))
    exact ⟨setProtect i.toNat p (taken tag 0x0D s),
      repliesIn_of (k := .protect) ownProtectRequest rfl hadm (ownProtectRequest_sets hset), hframe, hcp,
      setProtect_rc i.toNat p (taken tag 0x0D s), setProtect_dest i.toNat p (taken tag 0x0D s),
      setProtect_reports i.toNat p (taken tag 0x0D s)⟩
  · obtain ⟨hframe, hcp⟩ := of_taken_rc (relearned_frame i.toNat clear (taken tag 0x0C s))
    refine ⟨relearned i.toNat clear (taken tag 0x0C s),
      repliesIn_of (k := .setDest) ownSetDest rfl hadm (ownSetDest_relearns hflag), hframe, hcp,
      relearned_rc i.toNat clear (taken tag 0x0C s), relearned_dest i.toNat clear (taken tag 0x0C s), ?_⟩
    cases hc : (s.rc.dest i.toNat).confirmed with
    | none => exact relearned_reports_none (s := taken tag 0x0C s) hc
    | some x =>
      cases clear with
      | false => rfl
      | true => exact relearned_reports_some (s := taken tag 0x0C s) hc
  · intro old becomes
    have sets {p : Option Protect} (ht : toggleProtect d n s = (setProtect d p s, false)) (hp : old ≠ p) : becomes p := by
      simp only [becomes, ht]
      refine ⟨trivial, setProtect_frame d p s, setProtect_rc d p s, setProtect_dest d p s, ?_⟩
      rw [setProtect_reports, if_neg hp]
    exact ⟨fun h => sets (toggleProtect_free h) (by rw [h]; nofun), fun h => sets (toggleProtect_own h) (by rw [h]; nofun),
      toggleProtect_refused⟩
  · intro i pairs
    have own := ownDefineSalvo_form (s := taken tag 0x0E s) (n := n) hlen
    have refuses {code : Code} (h : ownDefineSalvo (n :: c :: rest) (taken tag 0x0E s) = .refuse code (taken tag 0x0E s)) :
        Refuses i s tag 0x0E code := refuses_of (k := .defineSalvo) ownDefineSalvo rfl hadm h
    refine ⟨fun hn => refuses (own.trans (if_pos hn)), fun hn => ?_⟩
    have own1 := own.trans (if_neg (Nat.not_lt.2 hn))
    refine ⟨fun h => refuses (own1.trans (if_pos h)), fun hc hd => ?_⟩
    have own2 := own1.trans (if_neg (not_or.2 ⟨Nat.not_lt.2 hc, not_not.2 hd⟩))
    refine ⟨fun ⟨f, hf, he⟩ => refuses (own2.trans (if_pos fun h0 => firesOf_eq_zero.1 h0 f hf he)), fun hf => ?_⟩
    have own3 := own2.trans (if_neg (not_not.2 (firesOf_eq_zero.2 hf)))
    refine ⟨fun h => refuses (own3.trans (if_pos h)), fun h => ?_⟩
    refine ⟨_, repliesIn_of (k := .defineSalvo) ownDefineSalvo rfl hadm (own3.trans (if_neg (Nat.not_lt.2 h))), ?_, rfl, rfl,
      fun m => tget_tset ..⟩
    intro p hp; cases p <;> first | rfl | simp at hp
  · exact congrArg (fun u => Host.Outcome.next (announce u)) (takeRelease_none h)
  · let v : State := { s with reports := { s.reports with rcReleases := s.reports.rcReleases.erase n } }
    obtain ⟨hrc, hdest, hreports⟩ := releaseProtects_leaves (s := v) (n := n) hinv.dests
    refine ⟨releaseProtects n v, congrArg (fun u => Host.Outcome.next (announce u)) (takeRelease_waiting h), ?_, hrc, hdest, hreports⟩
    exact ((reports_frame _ s).mono (by simp)).trans (releaseProtects_frame n v)

end Sys2Proof.Machine
end


section
/-! SUPPORT. TAKE's tests in their order, and TAKE-CANCEL (O38). -/

namespace Sys2Proof.Machine

variable {s : State} {tag d x : Byte}

theorem takeTest_held {rc : Rc} {n : Nat} {who : Option Nat} {o : TakeOutcome} (h : holdsAgainst (rc.dest n).protect who = some o) :
    takeTest rc n who = some o.code := by
  unfold takeTest; rw [h]

theorem takeTest_down {rc : Rc} {n : Nat} {who : Option Nat} (h : holdsAgainst (rc.dest n).protect who = none)
    (hd : rc.down = true) : takeTest rc n who = some .down := by
  unfold takeTest; rw [h]; exact if_pos hd

theorem takeTest_full {rc : Rc} {n : Nat} {who : Option Nat} (h : holdsAgainst (rc.dest n).protect who = none)
    (hd : rc.down = false) (hw : rc.waitingFor n = false) (hf : 32 ≤ rc.queue.length) : takeTest rc n who = some .full := by
  unfold takeTest; rw [h]
  exact (if_neg (by rw [hd]; exact Bool.false_ne_true)).trans (if_pos (by simp [hw, Config.queueMax, hf]))

theorem ownTake_refused {c : Code} (h : takeTest s.rc d.toNat none = some c) : ownTake tag [0, d, 0, x] s = .refuse c s := by
  unfold ownTake
  simp only [beNat_low, h]
  exact if_neg (by simp [not_byte_above])

theorem ownTake_accepted (h : takeTest s.rc d.toNat none = none) :
    ownTake tag [0, d, 0, x] s = .later (enqueue d.toNat x.toNat (.party (.host tag)) s) := by
  unfold ownTake
  simp only [beNat_low, h]
  exact if_neg (by simp [not_byte_above])

theorem ownTakeCancel_none (h : ∀ e ∈ s.rc.queue, e.isWaiting = false) : ownTakeCancel s = .refuse .state s := by
  unfold ownTakeCancel; rw [takeFirst_none h]

theorem ownTakeCancel_oldest {front rest : List TakeEntry} {e : TakeEntry} (hq : s.rc.queue = front ++ e :: rest)
    (hfront : ∀ y ∈ front, y.isWaiting = false) (he : e.isWaiting = true) : ownTakeCancel s =
      .now .ok (e2 e.dest ++ e2 e.source ++ e1 e.requester.code)
        (fillWindow (deliver e.requester .cancelled [] [.takes e.dest e.requester.panels]
          { s with rc := { s.rc with queue := front ++ rest } })) := by
  unfold ownTakeCancel; rw [hq, takeFirst_split hfront he]

end Sys2Proof.Machine

namespace Sys2Proof.Machine

/-- Settles O38, by the tests in their order, and by the place the entry takes or leaves. -/
theorem takesAreQueuedAndCancelled : Obligations.TakesAreQueuedAndCancelled := by
  refine fun tag d x s => ⟨fun hadm => ?_, fun hadm => ⟨fun h => ?_, fun front e rest hq hfront he => ?_⟩⟩
  · intro i q holds waits
    have refuses {c : Code} (h : takeTest s.rc d.toNat none = some c) : Refuses i s tag 0x10 c :=
      refuses_of (k := .take) (ownTake tag) rfl hadm (ownTake_refused (s := taken tag 0x10 s) h)
    have accepts (h : takeTest s.rc d.toNat none = none) : EndsIn i s (enqueue d.toNat x.toNat (.party (.host tag)) q) :=
      endsIn_of_later (k := .take) (ownTake tag) rfl hadm (ownTake_accepted (s := taken tag 0x10 s) h)
    have absent (h : s.rc.queue.find? waits = none) : ∀ e ∈ s.rc.queue, waits e = false :=
      fun e he => Bool.eq_false_of_not_eq_true (List.find?_eq_none.1 h e he)
    refine ⟨fun o ho => refuses (takeTest_held ho), fun hn hd => refuses (takeTest_down hn hd), fun hn hd => ⟨fun hf hfull => ?_,
      fun hf hroom => ?_, fun front e rest hq hfront he => ?_⟩⟩
    · exact refuses (takeTest_full hn hd (waitingFor_false (absent hf)) hfull)
    · have h := accepts (takeTest_eq_none.2 ⟨hn, hd, .inr hroom⟩)
      rw [enqueue_appended (s := q) _ _ (absent hf)] at h
      exact h
    · have h := accepts (takeTest_eq_none.2 ⟨hn, hd, .inl (waitingFor_true hq he)⟩)
      rw [enqueue_replaced (s := q) _ _ hq hfront he] at h
      exact h
  · exact refuses_of (k := .takeCancel) (noFields ownTakeCancel) rfl hadm (ownTakeCancel_none (s := taken tag 0x11 s) h)
  · exact repliesIn_of (k := .takeCancel) (noFields ownTakeCancel) rfl hadm
      (ownTakeCancel_oldest (s := taken tag 0x11 s) hq hfront he)

end Sys2Proof.Machine
end


section
/-! SUPPORT. The end of a walk: TR takes what waits for it, and LOADING is left or the load is answered (O59). -/

namespace Sys2Proof.Machine

variable {s : State} {w : Walk} {how : WalkEnd}

/-! ### What a recomputation leaves of the reports that wait for TR -/

@[simp] theorem reportResolution_trFromMm (old : Tr) (s : State) : (reportResolution old s).reports.trFromMm = s.reports.trFromMm :=
  rfl

@[simp] theorem reportResolution_trFromRc (old : Tr) (s : State) : (reportResolution old s).reports.trFromRc = s.reports.trFromRc :=
  rfl

theorem recompute_trFromMm (s : State) : (recompute s).reports.trFromMm = s.reports.trFromMm := by
  unfold recompute; dsimp only
  rw [setFlagIf_reports, reportResolution_trFromMm]

theorem recompute_trFromRc (s : State) : (recompute s).reports.trFromRc = s.reports.trFromRc := by
  unfold recompute; dsimp only
  rw [setFlagIf_reports, reportResolution_trFromRc]

theorem recompute_pm (s : State) : (recompute s).pm = s.pm := recompute_frame s .pm (by simp)

/-- A recomputation clears no flag. -/
theorem recompute_flags (s : State) : ∃ f, (recompute s).cp.flags = s.cp.flags ||| f := by
  unfold recompute; dsimp only
  generalize (_ || _ : Bool) = c
  cases c
  · exact ⟨0, (BitVec.or_zero).symm⟩
  · exact ⟨Flag.tally.bit, rfl⟩

/-! ### TR takes every report that waits (R76, R128) -/

theorem takeTallyReport_mm {x : Mixer} {rest : List Mixer} (h : s.reports.trFromMm = x :: rest) :
    takeTallyReport .mm s = recompute { s with reports := { s.reports with trFromMm := rest } } := by
  unfold takeTallyReport; dsimp only; rw [h]

theorem takeTallyReport_rc {n : Nat} (h : s.reports.trFromRc = n + 1) :
    takeTallyReport .rc s = recompute { s with reports := { s.reports with trFromRc := n } } := by
  unfold takeTallyReport; dsimp only; rw [h]

/-- TR takes a report as often as one waits, whichever it is. -/
theorem settleTallies_eq (s : State) : settleTallies s =
    (takeTallyReport .rc)^[((takeTallyReport .mm)^[s.reports.trFromMm.length] s).reports.trFromRc]
      ((takeTallyReport .mm)^[s.reports.trFromMm.length] s) := by
  simp only [settleTallies, List.foldl_const, List.length_range]

theorem settleTallies_of_no_mixer (hm : s.reports.trFromMm = []) :
    settleTallies s = (takeTallyReport .rc)^[s.reports.trFromRc] s := by
  rw [settleTallies_eq, hm]; rfl

theorem settleTallies_none (hm : s.reports.trFromMm = []) (hr : s.reports.trFromRc = 0) : settleTallies s = s := by
  rw [settleTallies_of_no_mixer hm, hr]; rfl

theorem settleTallies_mm {x : Mixer} {rest : List Mixer} (h : s.reports.trFromMm = x :: rest) :
    settleTallies s = settleTallies (recompute { s with reports := { s.reports with trFromMm := rest } }) := by
  rw [settleTallies_eq s, h, List.length_cons, Function.iterate_succ_apply, takeTallyReport_mm h, settleTallies_eq,
    recompute_trFromMm]

theorem settleTallies_rc {n : Nat} (hm : s.reports.trFromMm = []) (h : s.reports.trFromRc = n + 1) :
    settleTallies s = settleTallies (recompute { s with reports := { s.reports with trFromRc := n } }) := by
  have hm' : (recompute { s with reports := { s.reports with trFromRc := n } }).reports.trFromMm = [] := by
    rw [recompute_trFromMm]; exact hm
  rw [settleTallies_of_no_mixer hm', settleTallies_of_no_mixer hm, h, Function.iterate_succ_apply, takeTallyReport_rc h,
    recompute_trFromRc]

/-! ### The end (R194, R200) -/

/-- PM has stopped, PROFILE set where the walk did not run its course. -/
def walkStopped (how : WalkEnd) (s : State) : State :=
  { s with
    cp := { s.cp with flags := if how = .course then s.cp.flags else s.cp.flags ||| 256 }
    pm := { s.pm with op := .idle, transfer := none, unacked := 0 } }

theorem walkStopped_eq (how : WalkEnd) (s : State) : walkStopped how s =
    setFlagIf (how != .course) .profile { s with pm := { s.pm with op := .idle, transfer := none, unacked := 0 } } := by
  cases how <;> rfl

theorem endWalk_powerOn (h : w.request = none) : endWalk w how s =
    busAutoStep { settleTallies (walkStopped how s) with
      cp := { (settleTallies (walkStopped how s)).cp with mode := .run } } := by
  unfold endWalk; dsimp only; rw [h, ← walkStopped_eq]

theorem endWalk_request {tag : Byte} (h : w.request = some tag) : endWalk w how s =
    deferredReply tag 0x2B .ok (how.bytes ++ e2 w.reached ++ e2 w.applied ++ e2 w.skipped ++ e2 w.notLoaded)
      (busAutoStep (walkStopped how s)) := by
  unfold endWalk; dsimp only; rw [h, ← walkStopped_eq]; rfl

/-- A walk that has stopped stops again to the same state, TR having recomputed in between. -/
theorem walkStopped_recompute {u : State} (hcp : u.cp = (walkStopped how s).cp) (hpm : u.pm = (walkStopped how s).pm) :
    walkStopped how (recompute u) = recompute u := by
  obtain ⟨f, hf⟩ := recompute_flags u
  have hp : (recompute u).pm = (walkStopped how s).pm := (recompute_pm u).trans hpm
  have hflags : (if how = .course then (recompute u).cp.flags else (recompute u).cp.flags ||| 256) = (recompute u).cp.flags := by
    split
    · rfl
    · rename_i hc
      rw [hf, hcp]
      simp only [walkStopped, if_neg hc]
      rw [BitVec.or_assoc, BitVec.or_comm f, ← BitVec.or_assoc, BitVec.or_assoc s.cp.flags, BitVec.or_self]
  have hidle : { (recompute u).pm with op := .idle, transfer := none, unacked := 0 } = (recompute u).pm := by rw [hp]; rfl
  rw [walkStopped, hflags, hidle]

/-- At power-on a walk ends as it ends once TR has taken the report that waits. -/
theorem endWalk_recompute {u : State} (hw : w.request = none) (hcp : u.cp = (walkStopped how s).cp)
    (hpm : u.pm = (walkStopped how s).pm) (hs : settleTallies (walkStopped how s) = settleTallies (recompute u)) :
    endWalk w how s = endWalk w how (recompute u) := by
  rw [endWalk_powerOn hw, hs, endWalk_powerOn hw, walkStopped_recompute hcp hpm]

theorem busAutoStep_eq (u : State) : busAutoStep u =
    if u.pbc.node = .listening ∧ u.pbc.busAuto = true then
      { u with pbc := { u.pbc with node := .checking, checkingExpiry := some (u.now + 400) } }
    else u := rfl

theorem busAutoStep_cp (u : State) : (busAutoStep u).cp = u.cp := busAutoStep_frame u .cp (by simp)

end Sys2Proof.Machine
end


section
/-! SUPPORT. The image header, and the sections of a walk: offsets, bodies and kinds (O59). -/

namespace Sys2Proof.Machine

variable {s : State} {w : Walk} {off : Nat} {head body : List Byte}

theorem validOffset_iff : validOffset off = true ↔ 9 ≤ off ∧ off + 7 ≤ 32768 := by
  simp [validOffset, Config.memoryBytes]

theorem magic_iff : head.take 4 = Config.magic ∧ (head.drop 4).take 1 = [1] ↔ head.take 5 = [0x4D, 0x4A, 0x36, 0x32, 1] := by
  constructor
  · rintro ⟨h4, h1⟩
    rw [show 5 = 4 + 1 from rfl, List.take_add, h4, h1]; rfl
  · intro h
    constructor
    · rw [show head.take 4 = (head.take 5).take 4 by rw [List.take_take]; rfl, h]; rfl
    · rw [List.take_drop, h]; rfl

theorem headerOffset_iff {first : Nat} : headerOffset head = some first ↔
    head.take 5 = [0x4D, 0x4A, 0x36, 0x32, 1] ∧ head.drop 7 = crcBytes (head.take 7)
      ∧ first = beNat ((head.drop 5).take 2) ∧ (first = 0 ∨ (9 ≤ first ∧ first + 7 ≤ 32768)) := by
  unfold headerOffset
  rw [Option.ite_none_right_eq_some]
  simp only [validOffset_iff, ← magic_iff]
  constructor
  · rintro ⟨⟨hm, hv, hc, ho⟩, hf⟩
    cases hf
    exact ⟨⟨hm, hv⟩, hc, rfl, ho⟩
  · rintro ⟨⟨hm, hv⟩, hc, rfl, ho⟩
    exact ⟨⟨hm, hv, hc, ho⟩, rfl⟩

/-! ### A section is reached (R196) -/

theorem reachSection_last : reachSection 0 w s = endWalk w .course s := rfl

theorem reachSection_limit (h : off ≠ 0) (hw : 32 ≤ w.reached) :
    reachSection off w s = endWalk { w with reached := w.reached + 1 } .sectionLimit s :=
  (if_neg h).trans (if_pos (Nat.lt_succ_of_le hw))

theorem reachSection_below (h : off ≠ 0) (hw : w.reached < 32) : reachSection off w s =
    if !validOffset off then endWalk { w with reached := w.reached + 1 } .offset s
    else startTransfer (.read off 7) (setWalk { w with reached := w.reached + 1, phase := .head off } s) :=
  (if_neg h).trans (if_neg (Nat.not_lt.2 hw))

theorem reachSection_outside (h : off ≠ 0) (hw : w.reached < 32) (ho : off < 9 ∨ 32768 < off + 7) :
    reachSection off w s = endWalk { w with reached := w.reached + 1 } .offset s := by
  have hv : validOffset off = false := Bool.eq_false_of_not_eq_true fun hv => by have := validOffset_iff.1 hv; omega
  rw [reachSection_below h hw, hv]; rfl

theorem reachSection_reads (h9 : 9 ≤ off) (hw : w.reached < 32) (ho : off + 7 ≤ 32768) : reachSection off w s =
    startTransfer (.read off 7) (setWalk { w with reached := w.reached + 1, phase := .head off } s) := by
  rw [reachSection_below (by omega) hw, validOffset_iff.2 ⟨h9, ho⟩]; rfl

/-! ### Its body is read (R196) -/

theorem readBody_outside (h : 32768 < off + 7 + beNat ((head.drop 1).take 2)) : readBody off head w s = endWalk w .offset s :=
  if_pos h

theorem readBody_empty (ho : off + 7 ≤ 32768) (h : beNat ((head.drop 1).take 2) = 0) :
    readBody off head w s = openSection head [] w s :=
  (if_neg (by rw [h]; exact Nat.not_lt.2 ho)).trans (if_pos h)

theorem readBody_reads (ho : off + 7 + beNat ((head.drop 1).take 2) ≤ 32768) (h : beNat ((head.drop 1).take 2) ≠ 0) :
    readBody off head w s =
      startTransfer (.read (off + 7) (beNat ((head.drop 1).take 2))) (setWalk { w with phase := .body off head } s) :=
  (if_neg (Nat.not_lt.2 ho)).trans (if_neg h)

/-! ### The section in hand (R196, R206) -/

theorem knownSection_iff {kind : Nat} : knownSection kind = true ↔ 1 ≤ kind ∧ kind ≤ 12 := by simp [knownSection]

theorem openSection_checkFailed (h : head.drop 5 ≠ crcBytes (head.take 5 ++ body)) :
    openSection head body w s = endWalk w .checkFailed s := if_pos h

section
variable (h : head.drop 5 = crcBytes (head.take 5 ++ body))
include h

theorem openSection_unknown (hk : knownSection (beNat (head.take 1)) = false) :
    openSection head body w s = reachSection (beNat ((head.drop 3).take 2)) { w with skipped := w.skipped + 1 } s :=
  (if_neg (not_not.2 h)).trans (if_pos (by rw [hk]; rfl))

theorem openSection_known (hk : knownSection (beNat (head.take 1)) = true) : openSection head body w s =
    if body = [] then reachSection (beNat ((head.drop 3).take 2)) { w with applied := w.applied + 1 } s
    else setWalk { w with
      applied := w.applied + 1
      phase := .entries (beNat (head.take 1)) body 0 (beNat ((head.drop 3).take 2)) } s :=
  (if_neg (not_not.2 h)).trans (if_neg (by rw [hk]; exact Bool.false_ne_true))

end

end Sys2Proof.Machine

namespace Sys2Proof.Machine

/-- Settles O59: the end by the reports that wait for TR, and the walk by the offset, the length, the check and the kind. -/
theorem walkGoesOnAndEnds : Obligations.WalkGoesOnAndEnds := by
  intro w how off head body s ended joined
  refine ⟨fun hw hm hr => ?_, fun x rest hw hm => ?_, fun n hw hm hr => ?_, fun tag hw ht => ?_, fun first => headerOffset_iff,
    fun h => by rw [h]; exact reachSection_last, reachSection_limit, reachSection_outside, reachSection_reads,
    ⟨readBody_outside, readBody_empty, readBody_reads⟩, openSection_checkFailed, fun h => ?_⟩
  · rw [endWalk_powerOn hw, settleTallies_none (s := walkStopped how s) hm hr, busAutoStep_eq]
    rfl
  · exact endWalk_recompute hw rfl rfl (settleTallies_mm (s := walkStopped how s) hm)
  · exact endWalk_recompute hw rfl rfl (settleTallies_rc (s := walkStopped how s) hm hr)
  · rw [endWalk_request hw, deferredReply_listed _ _ (by rw [busAutoStep_cp]; exact ht), busAutoStep_eq]
    rfl
  · intro kind next
    refine ⟨fun hk => openSection_unknown h ?_, fun h1 h12 hb => ?_, fun h1 h12 hb => ?_⟩
    · exact Bool.eq_false_of_not_eq_true fun hk' => by have := knownSection_iff.1 hk'; omega
    · exact (openSection_known h (knownSection_iff.2 ⟨h1, h12⟩)).trans (if_pos hb)
    · exact (openSection_known h (knownSection_iff.2 ⟨h1, h12⟩)).trans (if_neg hb)

end Sys2Proof.Machine
end
